-- ==== Sys2Proof/Word.lean ====
section
/-! DEFINITION. The word types of the ZX-1536 (R27): a 64-bit operand-stack entry, a 16-bit parcel, a byte. -/

namespace Sys2Proof

/-- An operand stack entry, a register, a doubleword of memory (R27). -/
abbrev Word := BitVec 64

/-- A 16-bit parcel (R50). -/
abbrev Parcel := BitVec 16

/-- A byte of memory (R27). -/
abbrev Byte := BitVec 8

/-- The number of a core: cluster * 16 + CORE_ID[3:0]; 96 clusters of 16 cores (R1, R132). -/
abbrev CoreId := Fin 1536

/-- The number of a cluster, 0 to 95. -/
abbrev ClusterId := Fin 96

/-- The number of a compartment, 0 to 63 (R262). -/
abbrev CompId := Fin 64

/-- -2^63, the least signed entry (chapter 4, notation). -/
def minWord : Word := 0x8000000000000000#64

/-- All ones. -/
def allOnes : Word := 0xFFFFFFFFFFFFFFFF#64

end Sys2Proof
end

