-- ==== Sys2Proof/Machine/Bits.lean ====
section
/-! DEFINITION. Bit fields of words, bytes of lines, byte order, and the sparse maps the state is made of. -/

namespace Sys2Proof.Machine

/-- Bits [lo + w - 1 : lo] of a word, as a number. -/
def fieldN (v : Word) (lo w : Nat) : Nat := (v.toNat >>> lo) % 2 ^ w

/-- One bit of a word. -/
def bitN (v : Word) (i : Nat) : Bool := v.toNat.testBit i

/-- The word `v` with bits [lo + w - 1 : lo] replaced by the low bits of `x`. -/
def putN (v : Word) (lo w x : Nat) : Word :=
  let m := 2 ^ w - 1
  BitVec.ofNat 64 ((v.toNat &&& (2 ^ 64 - 1 - (m <<< lo))) ||| ((x % 2 ^ w) <<< lo))

/-- A mask of `w` ones at `lo`. -/
def maskN (lo w : Nat) : Word := BitVec.ofNat 64 ((2 ^ w - 1) <<< lo)

/-- `x` limited to a field whose largest value is `top`: a counter that sticks there. -/
def stick (top x : Nat) : Nat := if x ≤ top then x else top

/-- Byte `i` of a word, the least significant first (R27: memory is little-endian). -/
def byteOf (v : Word) (i : Nat) : Byte := BitVec.ofNat 8 (v.toNat >>> (8 * i))

/-- The value of little-endian bytes (R27). -/
def bytesToNat : List Byte → Nat
  | [] => 0
  | b :: t => b.toNat + 256 * bytesToNat t

/-- The low `n` bytes of a number, the least significant first. -/
def natToBytes : Nat → Nat → List Byte
  | 0, _ => []
  | n + 1, v => BitVec.ofNat 8 v :: natToBytes n (v / 256)

/-- A doubleword from little-endian bytes. -/
def bytesToWord (l : List Byte) : Word := BitVec.ofNat 64 (bytesToNat l)

/-- Sign extension of the low `bits` bits of a number to 64 bits. -/
def sextN (bits v : Nat) : Word :=
  let x := v % 2 ^ bits
  if bits = 0 then 0#64
  else if x.testBit (bits - 1) then BitVec.ofNat 64 (x + (2 ^ 64 - 2 ^ bits)) else BitVec.ofNat 64 x

/-- One bit step of CRC-32C, reflected polynomial (R96). -/
def crcBit (c : Nat) : Nat := if c % 2 = 1 then (c / 2) ^^^ 0x82F63B78 else c / 2

/-- One byte fed to CRC-32C (R96). -/
def crcByte (c : Nat) (b : Byte) : Nat :=
  crcBit (crcBit (crcBit (crcBit (crcBit (crcBit (crcBit (crcBit (c ^^^ b.toNat))))))))

/-- Bytes fed to CRC-32C in order. -/
def crcBytes (c : Nat) (l : List Byte) : Nat := l.foldl crcByte c

/-! ### Sparse maps: a list of (key, value) pairs, keys strictly rising, no value equal to what an unlisted key reads as. -/

/-- The value at key `i`; `d i` where the key is unlisted. -/
def smGet {α : Type} (d : Nat → α) : List (Nat × α) → Nat → α
  | [], i => d i
  | (k, v) :: t, i => if k = i then v else smGet d t i

/-- The map without key `i`. -/
def smErase {α : Type} (m : List (Nat × α)) (i : Nat) : List (Nat × α) := m.filter (fun e => e.1 != i)

/-- `(i, v)` placed before the first key above `i`. -/
def smIns {α : Type} (i : Nat) (v : α) : List (Nat × α) → List (Nat × α)
  | [] => [(i, v)]
  | (k, x) :: t => if i < k then (i, v) :: (k, x) :: t else (k, x) :: smIns i v t

/-- Key `i` set to `v`; a value equal to the unlisted one removes the entry. -/
def smPut {α : Type} [DecidableEq α] (d : Nat → α) (m : List (Nat × α)) (i : Nat) (v : α) : List (Nat × α) :=
  if v = d i then smErase m i else smIns i v (smErase m i)

/-- The canonical form: keys strictly rising, no listed value equal to the unlisted one. -/
def smWf {α : Type} [DecidableEq α] (d : Nat → α) : List (Nat × α) → Bool
  | [] => true
  | [(k, v)] => decide (v ≠ d k)
  | (k, v) :: (k', v') :: t => decide (k < k') && decide (v ≠ d k) && smWf d ((k', v') :: t)

/-- The first `n` naturals from `a`. -/
def natsFrom : Nat → Nat → List Nat
  | _, 0 => []
  | a, n + 1 => a :: natsFrom (a + 1) n

end Sys2Proof.Machine
end

