-- ==== Sys2Proof/OperandTypes.lean ====
section
/-! DEFINITION. The kinds of operand that commands carry beside numbers and words: who acts, which arbiter,
which frame, what a unit reports. Each follows the rule its docstring cites. -/

namespace Sys2Proof

/-- Who writes a register: a core, with the world, compartment and level it has at that moment (R493), or the
boot firmware before hand-over (R447). -/
inductive Agent where
  | core (c : CoreId)
  | boot
  deriving DecidableEq, Repr

/-- The atomic operations of class 0x8 (R67). -/
inductive AtomOp where
  | axchg | acas | aadd | aand | aor | axor | amin | amax | aminu | amaxu
  deriving DecidableEq, Repr

/-- Why a translation is made (R169). -/
inductive AccKind where
  | fetch | load | store | atomic | iclean | prefetch
  deriving DecidableEq, Repr

/-- An exception recognised outside the instructions' own rows (R116): an undefined parcel at the pc (R55), the
fetch of a parcel at an address (R53), a parity error on a cached entry (R36) or on a register (R457). -/
inductive EntryEvent where
  | parcel (p : Parcel)
  | fetch (va : Word)
  | stackParity
  | registerParity (n : BitVec 12)
  | coreParity
  deriving DecidableEq, Repr

/-- An arbiter, by the page that holds it (R283). -/
inductive ArbId where
  | l2c (n : ClusterId)
  | usq (n : ClusterId)
  | dmaa (d : Fin 2) (c : CompId)
  | pcoa (p : Fin 4) (c : CompId)
  deriving DecidableEq, Repr

/-- A unit that carries a secure attribute (R293): a router vector, a GPIO pin, a DMA engine, a requester entry. -/
inductive AttrUnit where
  | vector (d : Fin 2) (v : Fin 4096)
  | pin (n : Fin 16)
  | dma (n : Fin 64)
  | rte (p : Fin 4) (i : Fin 64)
  deriving DecidableEq, Repr

/-- A metering point (R316). -/
inductive MeterPoint where
  | cluster (n : ClusterId)
  | dmc (n : Fin 16)
  | dma (n : Fin 64)
  | fab (p : Fin 6)
  deriving DecidableEq, Repr

/-- The header words of a Duastor frame (R385), its payload bytes, the payload cells that carry poison, and the length that a
GET_REQ asks for. -/
structure Frame where
  typ : BitVec 8
  vc : BitVec 2
  ncell : BitVec 4
  seq : BitVec 12
  dst : BitVec 18
  src : BitVec 18
  fdom : BitVec 16
  tag : BitVec 16
  opid : BitVec 16
  aux : BitVec 8
  addr : Word
  opnd : Word
  payload : List Byte := []
  poison : BitVec 8 := 0
  len : Nat := 0
  deriving DecidableEq, Repr

/-- The kinds of device request at a root port (R359 to R366). -/
inductive TlpKind where
  | memRead
  | memWrite
  | translatedRead
  | translatedWrite
  deriving DecidableEq, Repr

/-- How a core's PCIe read ended without data (R357). -/
inductive DevReadEnd where
  | ur | ca | timeout | dpc | poisoned
  deriving DecidableEq, Repr

/-- A DRAM command (R341). -/
inductive DramCmd where
  | act | col | pre
  deriving DecidableEq, Repr

/-- What a refresh position carries (R344). -/
inductive RefreshKind where
  | refresh | zq | modeReg
  deriving DecidableEq, Repr

/-- The answer of a block to the power handshake (R424, R425). -/
inductive HsAnswer where
  | ack
  | refuse (reason : Fin 9)
  | delay (us : Nat)
  deriving DecidableEq, Repr

/-- The operations that need leave (R416). -/
inductive LeaveOp where
  | boost (n : ClusterId) (point : Fin 24)
  | crypto (n : ClusterId)
  | testCluster (c : CompId)
  | testBand (c : CompId)
  | bandFlush (c : CompId)
  | colorSweep (c : CompId)
  | dram (n : Fin 16)
  | pcie (p : Fin 4)
  | fabric (p : Fin 6)
  deriving DecidableEq, Repr

/-- A decision of Index other than the operating point (R431). -/
inductive IndexChoice where
  | margin (island : Fin 136) (mv : Fin 51)
  | prefetch (n : ClusterId) (degree : Fin 4)
  | pageColor (k : Fin 64) (isOpen : Bool)
  | pageChannel (n : Fin 16) (isOpen : Bool)
  | linkWidth (p : Fin 6) (w : Fin 3)
  deriving DecidableEq, Repr

/-- What raises the emergency throttle at level 2 (R435). -/
inductive ThrottleCause where
  | sensor (tempC : Nat)
  | prochot
  | current
  | dram (n : Fin 16)
  deriving DecidableEq, Repr

/-- What an uncorrectable MRAM word held (R461). -/
inductive MramContent where
  | record (seq : BitVec 64)
  | checkpoint
  | wardenImage (b : Bool)
  | indexImage (b : Bool)
  | antiRollback (k : Fin 4)
  deriving DecidableEq, Repr

/-- The population that a channel holds, as SPD reports it (R330 to R332): device width, physical ranks, density, stack, and
the speed in MT/s. -/
structure DramGeom where
  x8 : Bool := false
  rankBits : Fin 3 := 1
  row17 : Bool := false
  cidBits : Fin 3 := 0
  mts : Nat := 8000
  deriving DecidableEq, Repr

/-- What the start-up steps report (R445, R448): clocks, islands whose IVR failed, the address order and the sparing that
boot firmware writes before training (R332, R335), channels that did not train, clusters, cores and L3 ways whose self-test
failed, the population of channel 0 and the channels whose SPD reports one of their own (R331). -/
structure StartReport where
  xtal25 : Bool
  xtal32k : Bool
  refclk : Bool
  ivrFailed : List (Fin 136)
  untrained : List (Fin 16)
  clusterBad : List ClusterId
  coreBad : List CoreId
  l3Bad : List (Fin 64 × Fin 17)
  order : Fin 4
  spare : Bool
  spareCh : Fin 16
  geom : DramGeom
  geoms : List (Fin 16 × DramGeom) := []
  deriving DecidableEq, Repr

/-- Who asks for a line of DRAM: the compartment, and the tag that the request is charged to where it has one (R311, R336). -/
structure DramAsker where
  cid : CompId
  tag : Option (BitVec 16)
  deriving DecidableEq, Repr

/-- The compartments with a request ready at a slot's grant opportunity, and those whose use of the path would end within the slot
(R279). -/
structure SlotAskers where
  ready : List CompId
  fits : List CompId
  deriving DecidableEq, Repr

/-- What an in-service test found (R471). -/
inductive TestFinding where
  | clean
  | coreFails (core : Fin 16)
  | secondCoreFails
  | l2WayFails
  | l3WayFails (slice : Fin 64) (way : Fin 17)
  | centringFails (subch : Fin 2) (rank : Fin 4)
  | deviceFails (subch : Fin 2) (rank : Fin 4)
  | overTime
  | realFault
  deriving DecidableEq, Repr

/-- An IOTLB or TLB maintenance received from another cluster (R179). -/
inductive TlbInv where
  | va (vmid asid : BitVec 16) (va : Word)
  | asid (vmid asid : BitVec 16)
  | all (vmid : BitVec 16)
  | ipa (vmid : BitVec 16) (ipa : BitVec 52)
  | vmid (vmid : BitVec 16)
  | hall
  deriving DecidableEq, Repr

/-- Why a request is answered as an Unsupported Request (R379). -/
inductive UrKind where
  | unbound | pasid | translatedNoAts
  deriving DecidableEq, Repr

end Sys2Proof
end

