-- ==== Sys2Proof/Syntax.lean ====
section
/-! DEFINITION. The commands of the block: one constructor for each row of spec/opcode_table.json, with its operands.
An instruction of a core carries the core that runs it; a write of a register carries who writes it and the value;
an event carries the unit it happens at and what the unit reports. -/

namespace Sys2Proof

/-- A command. The docstring of each constructor gives its row and the rule that governs it. -/
inductive Instr where
  /-- NOP (R59). Does nothing apart from the stack checks. -/
  | nop (c : CoreId)
  /-- DUP (R59). Duplicates the top entry of the operand stack. -/
  | dup (c : CoreId)
  /-- DROP (R59). Discards the top entry. -/
  | drop (c : CoreId)
  /-- SWAP (R59). Exchanges the two top entries. -/
  | swap (c : CoreId)
  /-- OVER (R59). Pushes a copy of the second entry. -/
  | over (c : CoreId)
  /-- ROT (R59). Rotates the third entry to the top. -/
  | rot (c : CoreId)
  /-- NROT (R59). Rotates the top entry to third place. -/
  | nrot (c : CoreId)
  /-- NIP (R59). Discards the second entry. -/
  | nip (c : CoreId)
  /-- TUCK (R59). Copies the top entry below the second. -/
  | tuck (c : CoreId)
  /-- DUP2 (R59). Duplicates the top pair. -/
  | dup2 (c : CoreId)
  /-- DROP2 (R59). Discards the top pair. -/
  | drop2 (c : CoreId)
  /-- SWAP2 (R59). Exchanges the two top pairs. -/
  | swap2 (c : CoreId)
  /-- OVER2 (R59). Pushes a copy of the second pair. -/
  | over2 (c : CoreId)
  /-- DEPTH (R80). Pushes the logical depth of the current stack taken before the push. -/
  | depth (c : CoreId)
  /-- PUSHLR (R80). Pushes LR. -/
  | pushlr (c : CoreId)
  /-- POPLR (R80). Pops a value into LR. -/
  | poplr (c : CoreId)
  /-- PUSHFP (R80). Pushes FP. -/
  | pushfp (c : CoreId)
  /-- POPFP (R80). Pops a value into FP. -/
  | popfp (c : CoreId)
  /-- PICK (R59). Pushes a copy of entry k. -/
  | pick (c : CoreId) (k : BitVec 4)
  /-- PUT (R59). Pops a value and stores it in entry k. -/
  | put (c : CoreId) (k : BitVec 4)
  /-- ROLL (R59). Moves entry k to the top. -/
  | roll (c : CoreId) (k : BitVec 4)
  /-- ADD (R82). Pushes the wrapped sum and sets V on signed overflow. -/
  | add (c : CoreId)
  /-- SUB (R82). Pushes the wrapped difference and sets V on signed overflow. -/
  | sub (c : CoreId)
  /-- NEG (R82). Pushes the negation and sets V for MIN. -/
  | neg (c : CoreId)
  /-- AND (R83). Pushes the bitwise AND. -/
  | and (c : CoreId)
  /-- OR (R83). Pushes the bitwise OR. -/
  | or (c : CoreId)
  /-- XOR (R83). Pushes the bitwise XOR. -/
  | xor (c : CoreId)
  /-- NOT (R83). Pushes the bitwise complement. -/
  | not (c : CoreId)
  /-- SHL (R84). Shifts left with a saturated count. -/
  | shl (c : CoreId)
  /-- SHR (R84). Shifts right logically with a saturated count. -/
  | shr (c : CoreId)
  /-- SAR (R84). Shifts right arithmetically with a saturated count. -/
  | sar (c : CoreId)
  /-- ROL (R84). Rotates left by the count mod 64. -/
  | rol (c : CoreId)
  /-- ROR (R84). Rotates right by the count mod 64. -/
  | ror (c : CoreId)
  /-- SEXTB (R83). Sign-extends from bit 7. -/
  | sextb (c : CoreId)
  /-- SEXTH (R83). Sign-extends from bit 15. -/
  | sexth (c : CoreId)
  /-- SEXTW (R83). Sign-extends from bit 31. -/
  | sextw (c : CoreId)
  /-- ZEXTW (R83). Clears bits 63 to 32. -/
  | zextw (c : CoreId)
  /-- MUL (R82). Pushes the low 64 bits of the product and sets V on signed overflow. -/
  | mul (c : CoreId)
  /-- MULHS (R86). Pushes the high half of the signed 128-bit product. -/
  | mulhs (c : CoreId)
  /-- MULHU (R86). Pushes the high half of the unsigned 128-bit product. -/
  | mulhu (c : CoreId)
  /-- DIV (R86). Signed division with the defined results for zero divisor and MIN by -1. -/
  | div (c : CoreId)
  /-- DIVU (R86). Unsigned division with the defined result for a zero divisor. -/
  | divu (c : CoreId)
  /-- REM (R86). Signed remainder with the defined edge results. -/
  | rem (c : CoreId)
  /-- REMU (R86). Unsigned remainder with the defined result for a zero divisor. -/
  | remu (c : CoreId)
  /-- EQ (R85). Pushes 1 when a equals b. -/
  | eq (c : CoreId)
  /-- NE (R85). Pushes 1 when a differs from b. -/
  | ne (c : CoreId)
  /-- LT (R85). Signed less-than compare. -/
  | lt (c : CoreId)
  /-- GE (R85). Signed greater-or-equal compare. -/
  | ge (c : CoreId)
  /-- LTU (R85). Unsigned less-than compare. -/
  | ltu (c : CoreId)
  /-- GEU (R85). Unsigned greater-or-equal compare. -/
  | geu (c : CoreId)
  /-- GT (R85). Signed greater-than compare. -/
  | gt (c : CoreId)
  /-- LE (R85). Signed less-or-equal compare. -/
  | le (c : CoreId)
  /-- GTU (R85). Unsigned greater-than compare. -/
  | gtu (c : CoreId)
  /-- LEU (R85). Unsigned less-or-equal compare. -/
  | leu (c : CoreId)
  /-- EQZ (R85). Pushes 1 when a is zero. -/
  | eqz (c : CoreId)
  /-- NEZ (R85). Pushes 1 when a is nonzero. -/
  | nez (c : CoreId)
  /-- LTZ (R85). Pushes 1 when a is negative. -/
  | ltz (c : CoreId)
  /-- GEZ (R85). Pushes 1 when a is not negative. -/
  | gez (c : CoreId)
  /-- SEL (R85). Pushes a when c is nonzero, otherwise b. -/
  | sel (c : CoreId)
  /-- LIT (R62). Pushes the 11-bit signed literal. -/
  | lit (c : CoreId) (v : BitVec 11)
  /-- LITX (R63). Pushes a literal assembled from immediate parcels. -/
  | litx (c : CoreId) (z : Bool) (imm : List (BitVec 16))
  /-- ADDI (R82). Adds the sign-extended immediate and sets V on overflow. -/
  | addi (c : CoreId) (imm : BitVec 8)
  /-- ANDI (R64). ANDs with the sign-extended immediate. -/
  | andi (c : CoreId) (imm : BitVec 8)
  /-- ORI (R64). ORs with the sign-extended immediate. -/
  | ori (c : CoreId) (imm : BitVec 8)
  /-- XORI (R64). XORs with the sign-extended immediate. -/
  | xori (c : CoreId) (imm : BitVec 8)
  /-- SHLI (R84). Shifts left by an immediate count. -/
  | shli (c : CoreId) (k : BitVec 6)
  /-- SHRI (R84). Shifts right logically by an immediate count. -/
  | shri (c : CoreId) (k : BitVec 6)
  /-- SARI (R84). Shifts right arithmetically by an immediate count. -/
  | sari (c : CoreId) (k : BitVec 6)
  /-- ROLI (R84). Rotates left by an immediate count. -/
  | roli (c : CoreId) (k : BitVec 6)
  /-- EQI (R85). Compares a for equality with the immediate. -/
  | eqi (c : CoreId) (imm : BitVec 8)
  /-- NEI (R85). Compares a for inequality with the immediate. -/
  | nei (c : CoreId) (imm : BitVec 8)
  /-- LTI (R85). Signed less-than against the immediate. -/
  | lti (c : CoreId) (imm : BitVec 8)
  /-- LTUI (R85). Unsigned less-than against the sign-extended immediate. -/
  | ltui (c : CoreId) (imm : BitVec 8)
  /-- MULI (R82). Multiplies by the immediate and sets V on signed overflow. -/
  | muli (c : CoreId) (imm : BitVec 8)
  /-- LDL (R81). Loads the double at FP plus offset. -/
  | ldl (c : CoreId) (u : BitVec 10)
  /-- STL (R81). Stores a double at FP plus offset. -/
  | stl (c : CoreId) (u : BitVec 10)
  /-- LAL (R81). Pushes FP plus offset. -/
  | lal (c : CoreId) (u : BitVec 10)
  /-- LDB (R90). Loads a byte zero-extended. -/
  | ldb (c : CoreId) (d : BitVec 9)
  /-- LDBS (R90). Loads a byte sign-extended. -/
  | ldbs (c : CoreId) (d : BitVec 9)
  /-- LDH (R90). Loads a half zero-extended. -/
  | ldh (c : CoreId) (d : BitVec 9)
  /-- LDHS (R90). Loads a half sign-extended. -/
  | ldhs (c : CoreId) (d : BitVec 9)
  /-- LDW (R90). Loads a word zero-extended. -/
  | ldw (c : CoreId) (d : BitVec 9)
  /-- LDWS (R90). Loads a word sign-extended. -/
  | ldws (c : CoreId) (d : BitVec 9)
  /-- LDD (R90). Loads a double. -/
  | ldd (c : CoreId) (d : BitVec 9)
  /-- STB (R90). Stores the low byte. -/
  | stb (c : CoreId) (d : BitVec 9)
  /-- STH (R90). Stores the low half. -/
  | sth (c : CoreId) (d : BitVec 9)
  /-- STW (R90). Stores the low word. -/
  | stw (c : CoreId) (d : BitVec 9)
  /-- STD (R90). Stores a double. -/
  | std (c : CoreId) (d : BitVec 9)
  /-- AXCHG (R93). Atomically exchanges memory with v and pushes the old value. -/
  | axchg (c : CoreId) (double far : Bool)
  /-- ACAS (R93). Atomic compare-and-swap pushing the old value. -/
  | acas (c : CoreId) (double far : Bool)
  /-- AADD (R93). Atomic add pushing the old value. -/
  | aadd (c : CoreId) (double far : Bool)
  /-- AAND (R93). Atomic AND pushing the old value. -/
  | aand (c : CoreId) (double far : Bool)
  /-- AOR (R93). Atomic OR pushing the old value. -/
  | aor (c : CoreId) (double far : Bool)
  /-- AXOR (R93). Atomic XOR pushing the old value. -/
  | axor (c : CoreId) (double far : Bool)
  /-- AMIN (R93). Atomic signed minimum pushing the old value. -/
  | amin (c : CoreId) (double far : Bool)
  /-- AMAX (R93). Atomic signed maximum pushing the old value. -/
  | amax (c : CoreId) (double far : Bool)
  /-- AMINU (R93). Atomic unsigned minimum pushing the old value. -/
  | aminu (c : CoreId) (double far : Bool)
  /-- AMAXU (R93). Atomic unsigned maximum pushing the old value. -/
  | amaxu (c : CoreId) (double far : Bool)
  /-- BZ (R104). Pops a condition and branches if it is zero, with a delay slot. -/
  | bz (c : CoreId) (h a : Bool) (d : BitVec 7) (imm : List (BitVec 16)) (slot : Parcel)
  /-- BNZ (R104). Pops a condition and branches if it is nonzero, with a delay slot. -/
  | bnz (c : CoreId) (h a : Bool) (d : BitVec 7) (imm : List (BitVec 16)) (slot : Parcel)
  /-- BR (R109). Transfers control to the PC-relative target. -/
  | br (c : CoreId) (d : BitVec 9) (imm : List (BitVec 16))
  /-- CALL (R109). Sets LR and transfers to the PC-relative target. -/
  | call (c : CoreId) (d : BitVec 9) (imm : List (BitVec 16))
  /-- RET (R109). Transfers control to LR. -/
  | ret (c : CoreId)
  /-- JMP (R109). Pops an address and transfers control to it. -/
  | jmp (c : CoreId)
  /-- CALLI (R109). Pops an address, sets LR and transfers control. -/
  | calli (c : CoreId)
  /-- TRAP (R43). Raises cause 0x30 to K of the same world. -/
  | trap (c : CoreId)
  /-- HCALL (R43). Raises cause 0x31 to H. -/
  | hcall (c : CoreId)
  /-- WCALL (R299). Pops fn and arg and queues a request to the warden. -/
  | wcall (c : CoreId)
  /-- ERET (R124). Checks ESR, handles cached entries and returns to EPC. -/
  | eret (c : CoreId)
  /-- MFS (R44). Pushes the value of a system register after its access checks. -/
  | mfs (c : CoreId) (n : BitVec 12)
  /-- MTS (R44). Pops a value into a system register after its access checks. -/
  | mts (c : CoreId) (n : BitVec 12)
  /-- LBAR (R194). Holds later loads until earlier loads are performed. -/
  | lbar (c : CoreId)
  /-- SBAR (R194). Holds later buffer entries until earlier entries are performed. -/
  | sbar (c : CoreId)
  /-- MBAR (R194). Holds every later access until the buffer is empty and earlier loads are performed. -/
  | mbar (c : CoreId)
  /-- ISYNC (R136). Acts as CSYNC and waits for earlier ICLEANs, then invalidates the line buffer. -/
  | isync (c : CoreId)
  /-- CSYNC (R135). Applies earlier MTS writes and refetches later parcels. -/
  | csync (c : CoreId)
  /-- TLBSYNC (R180). Completes when every earlier TLBI and TLBIB of the core has completed. -/
  | tlbsync (c : CoreId)
  /-- DCLEAN (R215). Writes every dirty copy of a line to memory. -/
  | dclean (c : CoreId)
  /-- DFLUSH (R215). Cleans a line and invalidates every copy. -/
  | dflush (c : CoreId)
  /-- DINV (R215). Invalidates every copy of a line and discards dirty data. -/
  | dinv (c : CoreId)
  /-- ICLEAN (R215). Invalidates a line in every L1I of the compartment. -/
  | iclean (c : CoreId)
  /-- PREFR (R219). Prefetches a line shared into L1D without faulting. -/
  | prefr (c : CoreId)
  /-- PREFW (R219). Prefetches a line exclusive into L1D without faulting. -/
  | prefw (c : CoreId)
  /-- DCLEAN_R (R216). Cleans every line of an address range. -/
  | dcleanR (c : CoreId)
  /-- DFLUSH_R (R216). Flushes every line of an address range. -/
  | dflushR (c : CoreId)
  /-- DINV_R (R216). Invalidates every line of an address range. -/
  | dinvR (c : CoreId)
  /-- ICLEAN_R (R216). Invalidates every L1I line of an address range. -/
  | icleanR (c : CoreId)
  /-- TLBI_VA (R179). Removes cluster TLB entries covering a VA. -/
  | tlbiVa (c : CoreId)
  /-- TLBI_ASID (R179). Removes cluster TLB entries of an ASID. -/
  | tlbiAsid (c : CoreId)
  /-- TLBI_ALL (R179). Removes every stage-1 entry of the current VMID in the cluster. -/
  | tlbiAll (c : CoreId)
  /-- TLBI_IPA (R179). Removes cluster entries for an IPA page. -/
  | tlbiIpa (c : CoreId)
  /-- TLBI_VMID (R179). Removes every cluster entry of a VMID. -/
  | tlbiVmid (c : CoreId)
  /-- TLBI_HALL (R179). Removes every cluster TLB entry. -/
  | tlbiHall (c : CoreId)
  /-- TLBIB_VA (R179). Broadcasts TLBI.VA to every cluster of the compartment. -/
  | tlbibVa (c : CoreId)
  /-- TLBIB_ASID (R179). Broadcasts TLBI.ASID to every cluster of the compartment. -/
  | tlbibAsid (c : CoreId)
  /-- TLBIB_ALL (R179). Broadcasts TLBI.ALL to every cluster of the compartment. -/
  | tlbibAll (c : CoreId)
  /-- TLBIB_IPA (R179). Broadcasts TLBI.IPA to every cluster of the compartment. -/
  | tlbibIpa (c : CoreId)
  /-- TLBIB_VMID (R179). Broadcasts TLBI.VMID to every cluster of the compartment. -/
  | tlbibVmid (c : CoreId)
  /-- TLBIB_HALL (R179). Broadcasts TLBI.HALL to every cluster of the compartment. -/
  | tlbibHall (c : CoreId)
  /-- TLB_BROADCAST_RECEIVED (R180). A target cluster removes matching entries for a received invalidation and acknowledges it. -/
  | tlbBroadcastReceived (n : ClusterId)
  /-- QPUSH (R238). Reads a frame and pushes it to a local or remote queue. -/
  | qpush (c : CoreId)
  /-- QPOP (R238). Claims the head frame of a local queue into a buffer. -/
  | qpop (c : CoreId)
  /-- QDONE (R238). Ends the current task and dispatches the next. -/
  | qdone (c : CoreId)
  /-- WAIT (R238). Holds the context until an interrupt, a frame or a preemption. -/
  | wait (c : CoreId)
  /-- WAIT_END (R238). A waiting core completes WAIT when an interrupt is takeable, a home frame arrives or preemption is due. -/
  | waitEnd (c : CoreId)
  /-- YIELD (R238). Saves the current task to its queue and dispatches. -/
  | yield (c : CoreId)
  /-- AESE (R97). One AES encryption round. -/
  | aese (c : CoreId)
  /-- AESEL (R97). Last AES encryption round. -/
  | aesel (c : CoreId)
  /-- AESD (R97). One AES decryption round. -/
  | aesd (c : CoreId)
  /-- AESDL (R97). Last AES decryption round. -/
  | aesdl (c : CoreId)
  /-- AESIMC (R97). Inverse MixColumns. -/
  | aesimc (c : CoreId)
  /-- AESKG (R97). AES key-schedule word step. -/
  | aeskg (c : CoreId)
  /-- SHA256SIG0 (R98). SHA-256 small sigma 0. -/
  | sha256sig0 (c : CoreId)
  /-- SHA256SIG1 (R98). SHA-256 small sigma 1. -/
  | sha256sig1 (c : CoreId)
  /-- SHA256SUM0 (R98). SHA-256 big sigma 0. -/
  | sha256sum0 (c : CoreId)
  /-- SHA256SUM1 (R98). SHA-256 big sigma 1. -/
  | sha256sum1 (c : CoreId)
  /-- SHA512SIG0 (R98). SHA-512 small sigma 0. -/
  | sha512sig0 (c : CoreId)
  /-- SHA512SIG1 (R98). SHA-512 small sigma 1. -/
  | sha512sig1 (c : CoreId)
  /-- SHA512SUM0 (R98). SHA-512 big sigma 0. -/
  | sha512sum0 (c : CoreId)
  /-- SHA512SUM1 (R98). SHA-512 big sigma 1. -/
  | sha512sum1 (c : CoreId)
  /-- CLMUL (R99). Low half of the carry-less product. -/
  | clmul (c : CoreId)
  /-- CLMULH (R99). High half of the carry-less product. -/
  | clmulh (c : CoreId)
  /-- CLZ (R100). Counts leading zero bits. -/
  | clz (c : CoreId)
  /-- CTZ (R100). Counts trailing zero bits. -/
  | ctz (c : CoreId)
  /-- POPC (R100). Counts one bits. -/
  | popc (c : CoreId)
  /-- BSWAP (R100). Reverses the bytes. -/
  | bswap (c : CoreId)
  /-- BREV (R100). Reverses the bits. -/
  | brev (c : CoreId)
  /-- ANDN (R100). Pushes a AND NOT b. -/
  | andn (c : CoreId)
  /-- ORN (R100). Pushes a OR NOT b. -/
  | orn (c : CoreId)
  /-- XNOR (R100). Pushes NOT (a XOR b). -/
  | xnor (c : CoreId)
  /-- MINS (R100). Signed minimum. -/
  | mins (c : CoreId)
  /-- MAXS (R100). Signed maximum. -/
  | maxs (c : CoreId)
  /-- MINU (R100). Unsigned minimum. -/
  | minu (c : CoreId)
  /-- MAXU (R100). Unsigned maximum. -/
  | maxu (c : CoreId)
  /-- BCH (R100). Bitwise choice function. -/
  | bch (c : CoreId)
  /-- BMAJ (R100). Bitwise majority function. -/
  | bmaj (c : CoreId)
  /-- BFX (R101). Extracts a bit field as ctl selects. -/
  | bfx (c : CoreId)
  /-- SEAL_B (R96). Accumulates CRC-32C over one byte. -/
  | sealB (c : CoreId)
  /-- SEAL_H (R96). Accumulates CRC-32C over two bytes. -/
  | sealH (c : CoreId)
  /-- SEAL_W (R96). Accumulates CRC-32C over four bytes. -/
  | sealW (c : CoreId)
  /-- SEAL_D (R96). Accumulates CRC-32C over eight bytes. -/
  | sealD (c : CoreId)
  /-- EXCEPTION_ENTRY (R116). The microsequencer spills, commits the exception registers and fetches the vector. -/
  | exceptionEntry (c : CoreId) (e : EntryEvent)
  /-- INTERRUPT_ENTRY (R128). A takeable interrupt is taken at an instruction boundary. -/
  | interruptEntry (c : CoreId)
  /-- LATE_ARRIVAL (R133). An interrupt becoming takeable during an entry takes it over. -/
  | lateArrival (c : CoreId)
  /-- DEFERRED_REPORT (R122). An error found on a draining store is reported at the next instruction boundary. -/
  | deferredReport (c : CoreId)
  /-- TIMER_COMPARE (R126). TB reaching TCMP_K or TCMP_HW makes its timer interrupt pending. -/
  | timerCompare (c : CoreId)
  /-- CII_SET (R126). A write sets doorbell or message pending bits of a core. -/
  | ciiSet (a : Agent) (c : CoreId) (v : Word)
  /-- STORE_BUFFER_DRAIN (R185). The head entry of the store buffer is performed and leaves. -/
  | storeBufferDrain (c : CoreId)
  /-- DEVICE_POSTED_ACCEPT (R192). The hub accepts a device-posted store so the next entry may drain. -/
  | devicePostedAccept (c : CoreId)
  /-- LOAD_RETURN (R188). Data of an outstanding load miss returns and is written in program order. -/
  | loadReturn (c : CoreId)
  /-- TABLE_WALK (R173). The microsequencer walks the tables for a TLB miss and fills the TLBs. -/
  | tableWalk (c : CoreId) (k : AccKind) (va : Word)
  /-- PMC_OVERFLOW (R156). A counter reaching its largest value sticks, sets PMOVF and may post an interrupt. -/
  | pmcOverflow (c : CoreId) (n : Fin 8)
  /-- L3_READ (R210). The home slice serves a read of a line after the color check. -/
  | l3Read (c : CoreId) (pa : BitVec 52)
  /-- OWNERSHIP_REQUEST (R209). The home slice grants a line exclusive after invalidating other copies. -/
  | ownershipRequest (c : CoreId) (pa : BitVec 52)
  /-- WRITE_BACK (R209). An L2 evicting a modified line writes it back to the home slice. -/
  | writeBack (n : ClusterId) (pa : BitVec 52)
  /-- EVICTION_NOTICE (R209). An L2 evicting a clean line tells the directory. -/
  | evictionNotice (n : ClusterId) (pa : BitVec 52)
  /-- INVALIDATE (R209). The home slice asks an L2 to invalidate its copy. -/
  | invalidate (n : ClusterId) (pa : BitVec 52)
  /-- RECALL (R209). The home slice asks an L2 to send modified data and invalidate. -/
  | recall (n : ClusterId) (pa : BitVec 52)
  /-- DOWNGRADE (R209). The home slice asks an L2 to send modified data and keep the line shared. -/
  | downgrade (n : ClusterId) (pa : BitVec 52)
  /-- FAR_ATOMIC (R226). An atomic is performed at the home slice after recalling every L2 copy. -/
  | farAtomic (c : CoreId) (op : AtomOp) (double : Bool) (pa : BitVec 52) (v exp : Word)
  /-- DMA_MEMORY_READ (R212). A DMA or IOMMU read is answered coherently through the home slice. -/
  | dmaMemoryRead (cid : CompId) (pa : BitVec 52)
  /-- DMA_MEMORY_WRITE (R212). A DMA write recalls copies and merges into L3 or writes memory. -/
  | dmaMemoryWrite (cid : CompId) (pa : BitVec 52) (data : BitVec 512) (mask : BitVec 64)
  /-- L3S_SPARE_GO (R222). A write of GO starts spare-way bring-in for the named way. -/
  | l3sSpareGo (a : Agent) (sl : Fin 64) (v : Word)
  /-- SPARE_WAY_SET (R223). The slice recalls, writes back and reroutes one set to the spare way. -/
  | spareWaySet (sl : Fin 64)
  /-- L3BM_FLUSH_GO (R225). A GO write asks leave and starts flushing one band. -/
  | l3bmFlushGo (a : Agent) (v : Word)
  /-- BAND_FLUSH_END (R225). A running band flush ends done or stops at its timeout. -/
  | bandFlushEnd (stoppedAfter : Option Nat)
  /-- L2C_PF_WRITE (R228). A write of MAX lowers CUR at once when it falls below it. -/
  | l2cPfWrite (a : Agent) (n : ClusterId) (v : Word)
  /-- SLOT_BREAK (R245). A 10 µs wait on a slot breaks it and counts a lost frame. -/
  | slotBreak (c : CoreId) (q : BitVec 18) (idx : BitVec 32) (claimer : Bool)
  /-- TASK_DISPATCH (R247). A core needing work claims a frame from its candidates and loads it. -/
  | taskDispatch (c : CoreId)
  /-- PARK_WAKE (R248). A parked core tries its candidates again on a home-queue frame or a mask bit set. -/
  | parkWake (c : CoreId)
  /-- WORK_MASK_BROADCAST (R253). A cluster's work-mask change is received by the compartment's other clusters. -/
  | workMaskBroadcast (n : ClusterId)
  /-- PREEMPTION (R250). A running task is saved as preempted when a preemption becomes due. -/
  | preemption (c : CoreId)
  /-- CMT_CLUSTER_DRAIN (R264). Writing EN = 0 starts a drain of the cluster with its timeout. -/
  | cmtClusterDrain (a : Agent) (n : ClusterId) (v : Word)
  /-- CLUSTER_DRAIN_END (R264). A cluster drain ends drained or is refused busy at its timeout. -/
  | clusterDrainEnd (n : ClusterId) (timedOut : Bool)
  /-- CMT_CLUSTER_ASSIGN (R264). A write of a new CID with EN = 1 reassigns a drained cluster and resets its state. -/
  | cmtClusterAssign (a : Agent) (n : ClusterId) (v : Word)
  /-- CMT_BAND_WRITE (R265). A change of band ownership is performed only while CLEAN reads 1. -/
  | cmtBandWrite (a : Agent) (k : Fin 64) (v : Word)
  /-- COLOR_SWEEP (R266). A change of a color's owner asks leave and starts a sweep of the color. -/
  | colorSweep (a : Agent) (k : Fin 64) (v : Word)
  /-- COLOR_SWEEP_END (R266). The sweep ends and the new color owner takes effect. -/
  | colorSweepEnd (k : Fin 64)
  /-- CMP_STEER_WRITE (R271). A change of a steering entry starts a re-steer. -/
  | cmpSteerWrite (a : Agent) (comp : CompId) (j : Fin 64) (v : Word)
  /-- RESTEER_END (R271). A re-steer finishes and STEER_BUSY clears. -/
  | resteerEnd (comp : CompId) (j : Fin 64)
  /-- BEAT_MAP_WRITE (R276). A write to a beat map is staged. -/
  | beatMapWrite (a : Agent) (w : Fin 142) (i : Fin 64) (v : Word)
  /-- BEAT_MAP_APPLY (R276). Staged beat-map writes take effect as the wheel reaches slot 0. -/
  | beatMapApply (w : Fin 142)
  /-- SLOT_GRANT (R273). At each slot the owner, or a borrower of a lent slot, may start a use of the path. -/
  | slotGrant (w : Fin 142) (askers : SlotAskers)
  /-- CMP_CTL_WRITE (R280). Clearing LENDOK stops new borrowed grants from the next slot. -/
  | cmpCtlWrite (a : Agent) (comp : CompId) (v : Word)
  /-- CMP_DTM_WRITE (R277). A reservation of a deterministic slot takes effect only if the slot qualifies. -/
  | cmpDtmWrite (a : Agent) (comp : CompId) (v : Word)
  /-- CMP_BAR_CTL_WRITE (R281). Setting EN starts the first barrier generation. -/
  | cmpBarCtlWrite (a : Agent) (comp : CompId) (v : Word)
  /-- BAR_ARRIVE (R281). A store counts one arrival and may release the generation. -/
  | barArrive (c : CoreId) (comp : CompId)
  /-- ARBITER_DECISION (R284). At a grant opportunity the arbiter grants the highest-priority asking requester. -/
  | arbiterDecision (b : ArbId) (ask : BitVec 32)
  /-- HOG_CUTOFF (R286). A grant exceeding HOLD_MAX is cut off and its requester penalised. -/
  | hogCutoff (b : ArbId) (ask : BitVec 32)
  /-- PENALTY_END (R286). A cut-off requester's penalty window ends and it competes again. -/
  | penaltyEnd (b : ArbId) (r : Fin 32)
  /-- ARB_PRIO_WRITE (R289). New priorities take effect at the next decision. -/
  | arbPrioWrite (a : Agent) (b : ArbId) (hi : Bool) (v : Word)
  /-- BLK_FREEZE_WRITE (R290). Setting FREEZE stops new grants at the arbiter. -/
  | blkFreezeWrite (a : Agent) (b : ArbId) (v : Word)
  /-- SECURE_ATTRIBUTE_WRITE (R294). A write of a unit's world and compartment word is performed only under the write rules. -/
  | secureAttributeWrite (a : Agent) (u : AttrUnit) (v : BitVec 8)
  /-- WCALL_DELIVERY (R301). A queued request is delivered to a warden core by entry with cause 0x32. -/
  | wcallDelivery
  /-- WCALL_REPLY (R303). A write of WDN_WRPL ends the open request with its status. -/
  | wcallReply (c : CoreId) (v : Word)
  /-- WCALL_COMPLETE (R299). The calling core pushes res and st and retires the WCALL. -/
  | wcallComplete (c : CoreId)
  /-- WCALL_TIMEOUT (R300). A request not delivered or answered within TMO_US ends with st 4. -/
  | wcallTimeout (id : BitVec 16)
  /-- WDN_RESTART (R306). A write of RESTART starts a warden partial reset. -/
  | wdnRestart (a : Agent) (v : Word)
  /-- WARDEN_RELOAD_END (R307). The Keeper finishes verifying and loading an image and starts the warden cores. -/
  | wardenReloadEnd
  /-- SWD_CTL_EN (R305). Setting EN starts the secure watchdog. -/
  | swdCtlEn (a : Agent) (v : Word)
  /-- SWD_KICK (R305). A write of the key services the watchdog and reloads stage 1. -/
  | swdKick (a : Agent) (v : Word)
  /-- SWD_STAGE1_EXPIRY (R305). The stage-1 count expires, starting a warden partial reset and stage 2. -/
  | swdStage1Expiry
  /-- SWD_STAGE2_EXPIRY (R305). The stage-2 count expires, causing a warm device reset. -/
  | swdStage2Expiry
  /-- METER_POST (R316). A metering point's deltas reach the ledger engine and are summed by key. -/
  | meterPost (pt : MeterPoint)
  /-- MINUTE_STRIKE (R316). At a multiple of 60 s every metering point swaps banks. -/
  | minuteStrike
  /-- SPAN_CLOSE (R317). At T + 1 ms the engine closes the span and discards later posts. -/
  | spanClose
  /-- RECORD_SEAL (R317). The engine hashes, signs and writes the record or accumulates the span. -/
  | recordSeal
  /-- LEDGER_CHECKPOINT (R328). Every second the engine writes its checkpoint to MRAM. -/
  | ledgerCheckpoint
  /-- ENERGY_APPORTION (R312). Every 100 µs island energy is shared among keys. -/
  | energyApportion (island : Fin 136) (uj : Nat)
  /-- BAND_MS_TICK (R313). At each millisecond each compartment's band count grows by its owned bands. -/
  | bandMsTick
  /-- LG_EXPORT (R323). A GO write copies unexported records into the export region. -/
  | lgExport (a : Agent) (v : Word)
  /-- LG_EXPORT_END (R323). An export ends done or stopped by a refusal. -/
  | lgExportEnd
  /-- LG_WIND (R324). A write winds every exported record up to the given SEQ. -/
  | lgWind (a : Agent) (v : Word)
  /-- LG_FORMAT (R327). A W write discards every record and makes the next a genesis record. -/
  | lgFormat (a : Agent) (v : Word)
  /-- DRAM_REQUEST (R336). A request enters its bank queue half at the memory controller. -/
  | dramRequest (asker : DramAsker) (pa : BitVec 52) (wr : Bool) (data : BitVec 512) (mask : BitVec 64)
  /-- PARTIAL_WRITE_MERGE (R337). A partial write's line is read and merged into a whole-line write. -/
  | partialWriteMerge (u : Fin 32) (bank : Fin 32)
  /-- DRAM_COMMAND_ISSUE (R341). In a slot of its owner the controller issues an activate, column or precharge command. -/
  | dramCommandIssue (u : Fin 32)
  /-- DRAM_PHASE_CHANGE (R341). A subchannel switches between read and write phases at the timebase position. -/
  | dramPhaseChange (u : Fin 32)
  /-- DRAM_REFRESH (R344). A refresh, ZQ or mode-register command takes the slot at its timebase position. -/
  | dramRefresh (u : Fin 32) (k : RefreshKind)
  /-- REFRESH_RATE_STEP (R344). A module temperature change steps the refresh rate and is announced. -/
  | refreshRateStep (n : Fin 16) (tempC : BitVec 8)
  /-- RETRAIN_ROUND (R346). A live retraining round starts on its period or on drift. -/
  | retrainRound (n : Fin 16)
  /-- RETRAIN_PAUSE (R346). One rank of a subchannel pauses for at most 1 µs to re-centre. -/
  | retrainPause (n : Fin 16) (ok last : Bool)
  /-- CHANNEL_TRAINING (R345). A channel runs full training with leave from the platform pool. -/
  | channelTraining (n : Fin 16) (ok : Bool)
  /-- CA_PARITY_ALERT (R350). ALERT_N for a CA parity error retries the command and may degrade the channel. -/
  | caParityAlert (u : Fin 32) (pa : BitVec 52) (wr retriesFail pauseFails : Bool)
  /-- PATROL_SCRUB (R351). Scrub reads a line of an owned color and writes back a corrected line. -/
  | patrolScrub (pa : BitVec 52)
  /-- SPARING_TRIGGER (R352). Degradation or corrected-error counts start a sparing copy. -/
  | sparingTrigger (n : Fin 16)
  /-- DMG_SPARE_GO (R352). A GO write starts a sparing copy of the target channel. -/
  | dmgSpareGo (a : Agent) (v : Word)
  /-- SPARING_COPY_END (R352). The last line is copied, the map is switched and the failing channel powered off. -/
  | sparingCopyEnd
  /-- CHANNEL_DRAIN (R347). Requests to a channel are held for test or patch up to the timeout. -/
  | channelDrain (n : Fin 16)
  /-- CORE_DEVICE_READ (R356). A core load from a PCIe window is sent as a non-posted read. -/
  | coreDeviceRead (c : CoreId) (width : Fin 4) (sext : Bool) (data : Word)
  /-- CORE_DEVICE_READ_ERROR (R357). A UR, CA, timeout or DPC answer returns all ones or raises cause 0x20. -/
  | coreDeviceReadError (c : CoreId) (width : Fin 4) (sext : Bool) (e : DevReadEnd)
  /-- INBOUND_REQUEST (R359). A device request is bound to a requester entry, translated and checked. -/
  | inboundRequest (p : Fin 4) (rid : BitVec 16) (k : TlpKind) (addr : Word) (data : List Byte) (len : Fin 4097)
  /-- IOMMU_WALK (R362). The IOMMU walks the entry's tables and fills the IOTLB. -/
  | iommuWalk (p : Fin 4) (rid : BitVec 16) (iova : Word) (wr : Bool)
  /-- ATS_TRANSLATION_REQUEST (R364). A translation request from an ATS entry returns the PA and permissions. -/
  | atsTranslationRequest (p : Fin 4) (rid : BitVec 16) (iova : Word)
  /-- PAGE_REQUEST (R365). A Page Request message is sent as a class-4 event or dropped. -/
  | pageRequest (p : Fin 4) (rid : BitVec 16) (page : Word) (prg : BitVec 9) (last wr rd : Bool)
  /-- IOM_PRGR (R365). A write sends a PRG Response message to the requester. -/
  | iomPrgr (a : Agent) (p : Fin 4) (v : Word)
  /-- IOM_INV (R366). A GO write starts an IOMMU invalidation of the given scope. -/
  | iomInv (a : Agent) (p : Fin 4) (v : Word)
  /-- IOM_INV_COMPLETE (R366). The invalidation completes when entries, walks, requests and ATS completions are done. -/
  | iomInvComplete (p : Fin 4)
  /-- ATS_INVALIDATION_TIMEOUT (R366). No completion within 10 ms ends the invalidation with STATE 3 and clears ATS. -/
  | atsInvalidationTimeout (p : Fin 4)
  /-- IOM_RTE_WRITE (R360). A requester entry write is checked and binds later requests. -/
  | iomRteWrite (a : Agent) (p : Fin 4) (i : Fin 64) (v : Word)
  /-- DMA_JOB_TAKE (R367). An engine claims a job from its home queue or steals one. -/
  | dmaJobTake (n : Fin 64)
  /-- DMA_COPY (R369). Job OP 0 copies LEN bytes from SRC to DST. -/
  | dmaCopy (n : Fin 64)
  /-- DMA_FILL (R370). Job OP 1 fills the destination with the aligned pattern. -/
  | dmaFill (n : Fin 64)
  /-- DMA_COPY_CRC (R372). Job OP 2 copies and computes the CRC of the source. -/
  | dmaCopyCrc (n : Fin 64)
  /-- DMA_CRC (R372). Job OP 3 computes the CRC of the source only. -/
  | dmaCrc (n : Fin 64)
  /-- DMA_ATTR_WRITE (R367). A compartment change of an engine takes effect at the end of its job. -/
  | dmaAttrWrite (a : Agent) (n : Fin 64) (v : Word)
  /-- MSI_WRITE (R374). A 4-byte write to the MSI range reaches the router as vector data. -/
  | msiWrite (p : Fin 4) (rid : BitVec 16) (addr : Word) (data : BitVec 32)
  /-- HELD_EVENT_REPOST (R377). Held MODE-1 events are posted again when the queue advances or every 10 µs. -/
  | heldEventRepost (d : Fin 2)
  /-- GPIO_EDGE (R378). A selected input edge raises the pin's vector. -/
  | gpioEdge (n : Fin 16) (level : Bool)
  /-- IRQ_SET (R492). A write sets defined IRQ_STAT bits of a block. -/
  | irqSet (a : Agent) (page : BitVec 12) (v : Word)
  /-- IRQ_EN_WRITE (R492). Enabling a bit already set raises an event. -/
  | irqEnWrite (a : Agent) (page : BitVec 12) (v : Word)
  /-- MALFORMED_TLP (R379). A malformed TLP is dropped, logged fatal and triggers DPC. -/
  | malformedTlp (p l : Fin 4)
  /-- UNSUPPORTED_REQUEST (R379). An unbound, PASID or untrusted translated request gets UR or is dropped. -/
  | unsupportedRequest (p l : Fin 4) (k : UrKind)
  /-- UNEXPECTED_COMPLETION (R379). An unexpected completion is dropped and logged advisory. -/
  | unexpectedCompletion (p l : Fin 4)
  /-- POISONED_WRITE_RECEIVED (R379). A poisoned write is stored with poison. -/
  | poisonedWriteReceived (p : Fin 4) (rid : BitVec 16) (addr : Word) (data : List Byte)
  /-- ACS_VIOLATION (R379). An ACS violation gets CA or the write is dropped. -/
  | acsViolation (p l : Fin 4) (posted : Bool)
  /-- IDE_INTEGRITY_FAILURE (R379). An IDE failure drops the TLP and stops the stream until rekey. -/
  | ideIntegrityFailure (p l stream : Fin 4)
  /-- COMPLETION_TIMEOUT (R357). A non-posted request without completion ends as R357 states. -/
  | completionTimeout (c : CoreId) (width : Fin 4) (sext : Bool)
  /-- DPC_RELEASE (R380). Software releases a contained link through DPC Status. -/
  | dpcRelease (p l : Fin 4)
  /-- PCIE_LINK_TRAINING (R416). A PCIe port asks leave and trains its link. -/
  | pcieLinkTraining (p l : Fin 4) (ok : Bool)
  /-- FAB_LINK_TRAINING (R383). A fabric port asks leave, trains the PMD and exchanges HELLO. -/
  | fabLinkTraining (p : Fin 6) (ok peerRing : Bool)
  /-- FAB_RETRAIN (R383). A RETRAIN write retrains a fabric port. -/
  | fabRetrain (a : Agent) (p : Fin 6) (v : Word)
  /-- FAB_WIDTH_CHANGE (R384). Index narrows or widens a link, holding frames briefly. -/
  | fabWidthChange (p : Fin 6) (w : Fin 3)
  /-- PUSH (R257). A remote queue push frame is checked and accepted or refused at the target. -/
  | push (p : Fin 6) (f : Frame)
  /-- GET_REQ (R396). A GET request reads a window and answers with GET_RSP. -/
  | getReq (p : Fin 6) (f : Frame)
  /-- PUSH_RSP (R386). A push response returns st to the pusher. -/
  | pushRsp (p : Fin 6) (f : Frame)
  /-- PUT_RSP (R399). A put response completes the PUT at its source. -/
  | putRsp (p : Fin 6) (f : Frame)
  /-- GET_RSP (R386). A get response delivers data to the requester. -/
  | getRsp (p : Fin 6) (f : Frame)
  /-- ARRIVE (R401). A barrier or reduction contribution is combined on the up sweep. -/
  | arrive (p : Fin 6) (f : Frame)
  /-- RELEASE (R401). A result travels down the tree and completes member commands. -/
  | release (p : Fin 6) (f : Frame)
  /-- BCAST (R404). A broadcast frame is pushed into the group queue and forwarded. -/
  | bcast (p : Fin 6) (f : Frame)
  /-- SNAP (R404). A snapshot frame is scheduled for its timebase value and forwarded. -/
  | snap (p : Fin 6) (f : Frame)
  /-- SNAPSHOT_ACT (R404). At timebase T a member captures its values and completes the snapshot. -/
  | snapshotAct (comp : CompId)
  /-- RESET (R405). An accepted RESET is forwarded and starts a fabric-coordinated reset. -/
  | reset (p : Fin 6) (f : Frame)
  /-- SYNC (R407). A SYNC exchange cell is timestamped and the child offset corrected. -/
  | sync (p : Fin 6) (t1 t2 t3 t4 : Word) (hops : BitVec 18)
  /-- SYNC_EXCHANGE_START (R407). Every PERIOD_US a link starts a two-way SYNC exchange. -/
  | syncExchangeStart (p : Fin 6)
  /-- HELLO (R383). A HELLO control cell carries node, port and RING for link-up. -/
  | hello (p : Fin 6) (node : BitVec 18) (port : Fin 6) (ring : Bool)
  /-- SYNC_HOLDOVER (R408). No exchange for 10 ms moves the sync state to holdover. -/
  | syncHoldover
  /-- SYNC_LOST (R408). 60 s in holdover moves the sync state to lost. -/
  | syncLost
  /-- FRAME_CRC_ERROR (R387). A frame failing CRC is discarded and a NAK sent. -/
  | frameCrcError (p : Fin 6)
  /-- NAK (R387). A NAK makes the sender replay from the named sequence. -/
  | nak (p : Fin 6) (seq : BitVec 12) (reason : BitVec 4)
  /-- ACK (R387). An acknowledgement frees frames from the replay buffer. -/
  | ack (p : Fin 6) (seq : BitVec 12)
  /-- CREDIT_RETURN (R388). Returned credits let waiting frames leave on their VC. -/
  | creditReturn (p : Fin 6) (vc : Fin 4) (cells : BitVec 16)
  /-- FAB_VIOLATION (R409). A valid-CRC frame breaking the protocol is discarded and NAKed with a reason. -/
  | fabViolation (p : Fin 6) (f : Frame) (reason : Fin 10)
  /-- PORT_QUARANTINE (R410). Sixteen violations within 1 ms quarantine the port. -/
  | portQuarantine (p : Fin 6)
  /-- FAB_UNQ (R410). A UNQ write releases the port from quarantine and retrains it. -/
  | fabUnq (a : Agent) (p : Fin 6) (v : Word)
  /-- LINK_LOST (R392). A lost fabric link ends unacknowledged frames as the table states. -/
  | linkLost (p : Fin 6)
  /-- FXC_TAIL (R397). A tail write makes the port read new commands from the ring. -/
  | fxcTail (a : Agent) (comp : CompId) (v : Word)
  /-- FAB_CMD_PUT (R397). Command OP 0 sends PUT frames of local data. -/
  | fabCmdPut (comp : CompId)
  /-- FAB_CMD_GET (R397). Command OP 1 sends GET requests and writes the data locally. -/
  | fabCmdGet (comp : CompId)
  /-- FAB_CMD_BARRIER (R401). Command OP 2 contributes to a group barrier. -/
  | fabCmdBarrier (comp : CompId)
  /-- FAB_CMD_REDUCE (R403). Command OP 3 contributes an operand to a group reduction. -/
  | fabCmdReduce (comp : CompId)
  /-- FAB_CMD_BCAST (R404). Command OP 4 broadcasts a 256-byte frame from the root. -/
  | fabCmdBcast (comp : CompId)
  /-- FAB_CMD_SNAP (R404). Command OP 5 broadcasts a snapshot at a timebase value. -/
  | fabCmdSnap (comp : CompId)
  /-- FAB_COMMAND_COMPLETION (R398). A command writes its completion record and may post a class-6 event. -/
  | fabCommandCompletion (comp : CompId) (idx : BitVec 32)
  /-- FAB_CMD_TIMEOUT (R398). No response within 100 µs ends a command with status 6. -/
  | fabCmdTimeout (comp : CompId) (idx : BitVec 32)
  /-- FABG_RSTOUT (R405). A W write sends RESET from this device and resets it. -/
  | fabgRstout (a : Agent) (v : Word)
  /-- FXC_ACC_WRITE (R395). Binding a fabric domain to a compartment is checked for uniqueness. -/
  | fxcAccWrite (a : Agent) (comp : CompId) (v : Word)
  /-- LEAVE_REQUEST (R416). The remontoir grants or refuses leave from the named pool. -/
  | leaveRequest (op : LeaveOp)
  /-- CRYPTO_LEAVE (R417). A cluster asks crypto leave at the first crypto instruction after 1 ms. -/
  | cryptoLeave (n : ClusterId)
  /-- CRYPTO_LEAVE_RETRY (R417). A refused cluster asks crypto leave again every 100 µs. -/
  | cryptoLeaveRetry (n : ClusterId)
  /-- CRYPTO_LEAVE_RETURN (R417). After 1 ms without crypto instructions the leave is returned. -/
  | cryptoLeaveReturn (n : ClusterId)
  /-- BOOST_LAPSE (R418). An unrenewed boost leave lapses and the cluster returns to nominal. -/
  | boostLapse (n : ClusterId)
  /-- CURRENT_MEASUREMENT (R419). Every 1 µs VIN current is measured against ILIM. -/
  | currentMeasurement (credits : BitVec 12)
  /-- RAMP_STEP (R420). A delayed current step or intermediate operating point is applied as the allowance covers it. -/
  | rampStep (n : ClusterId)
  /-- RMT_SHARE_WRITE (R415). A write of SHARE or PLAT is a denial when the sum would exceed ILIM. -/
  | rmtShareWrite (a : Agent) (pool : Option CompId) (v : Word)
  /-- CORE_IDLE_ENTRY (R421). A core enters IDLE 1 µs after parking or entering WAIT. -/
  | coreIdleEntry (c : CoreId)
  /-- ISLAND_IDLE_ENTRY (R421). An island enters IDLE after 10 µs idle. -/
  | islandIdleEntry (i : Fin 136)
  /-- BLK_PWR_REQ (R424). A REQ write in a lead page starts the power handshake for the island. -/
  | blkPwrReq (a : Agent) (page : BitVec 12) (v : Word)
  /-- PWC_DEV_REQ (R424). A GO write starts the device power-state handshake. -/
  | pwcDevReq (a : Agent) (v : Word)
  /-- HANDSHAKE_ANSWER (R424). An asked block answers ACK, REFUSE with a reason, or DELAY. -/
  | handshakeAnswer (page : BitVec 12) (r : HsAnswer)
  /-- HANDSHAKE_DELAY_END (R424). At the end of its delay a block must answer again. -/
  | handshakeDelayEnd (page : BitVec 12) (r : HsAnswer)
  /-- HANDSHAKE_TIMEOUT (R424). A block silent 1 ms after being asked counts as refusing timeout. -/
  | handshakeTimeout (page : BitVec 12)
  /-- HANDSHAKE_ABORT (R424). At the first refusal every acknowledged block returns to its previous state. -/
  | handshakeAbort (i : Fin 136)
  /-- HANDSHAKE_COMMIT (R424). When every block has acknowledged, clocks stop and the new state is entered. -/
  | handshakeCommit (i : Fin 136)
  /-- ISLAND_WAKE (R422). A wake event returns a sleeping cluster or island to RUN. -/
  | islandWake (i : Fin 136)
  /-- AUTO_SLEEP (R431). Index puts a cluster parked for SLEEP_US into SLEEP when AUTO is set. -/
  | autoSleep (n : ClusterId)
  /-- AUTOWAKE_ACCESS (R430). An access to an asleep block with AUTOWAKE waits and wakes its island. -/
  | autowakeAccess (page : BitVec 12)
  /-- AUTOWAKE_TIMEOUT (R430). A block not awake within 1 ms gives the asleep response. -/
  | autowakeTimeout (page : BitVec 12)
  /-- OPERATING_POINT_DECISION (R432). Every 100 µs Index sets each compartment's cluster operating points within its share. -/
  | operatingPointDecision (comp : CompId) (asked : List (Fin 24))
  /-- INDEX_DECISION (R431). On its period Index sets a margin, prefetch degree, page policy, refresh rate or link width. -/
  | indexDecision (ch : IndexChoice) (reason : Fin 13)
  /-- INDEX_CORE_STALL (R434). A service core silent for 10 ms leaves its islands at their last settings. -/
  | indexCoreStall (k : Fin 4)
  /-- DROOP_EVENT (R431). A droop detector stretches its island's clock for the droop. -/
  | droopEvent (i : Fin 136)
  /-- EMERGENCY_THROTTLE_L1 (R435). A sensor at EMERG revokes boost and caps islands at nominal. -/
  | emergencyThrottleL1 (tempC : BitVec 8)
  /-- EMERGENCY_THROTTLE_L2 (R435). A level-2 trigger starts stepping islands down. -/
  | emergencyThrottleL2 (r : ThrottleCause)
  /-- THROTTLE_STEP_DOWN (R435). Every 10 µs at level 2 islands step down one operating point. -/
  | throttleStepDown
  /-- THROTTLE_END (R435). Triggers clear for 1 ms end the throttle level. -/
  | throttleEnd
  /-- PROCHOT_ASSERTED (R514). PROCHOT_N driven low from outside for 1 µs raises throttle level 2. -/
  | prochotAsserted
  /-- PROCHOT_RELEASE (R517). On releasing the pin with an outside assertion present, level 2 is raised again. -/
  | prochotRelease (outside : Bool)
  /-- THERMAL_TRIP (R436). A sensor at 115 °C asserts THERMTRIP_N, turns IVRs off and enters OFF. -/
  | thermalTrip
  /-- TIMEBASE_CORRECTION (R442). Every 1 µs the master sends a correction to every island copy. -/
  | timebaseCorrection
  /-- TBC_SET (R443). A write sets every timebase copy at the next correction. -/
  | tbcSet (a : Agent) (v : Word)
  /-- TBC_SLEW (R443). A write sets a rate offset for the timebase. -/
  | tbcSlew (a : Agent) (v : Word)
  /-- PWRGOOD_DEASSERT (R444). Deassertion is treated as loss of VIN: IVRs off and MRAM write completed. -/
  | pwrgoodDeassert
  /-- VIN_UNDERVOLTAGE (R511). VIN below 11.0 V with PWRGOOD asserted acts as a PWRGOOD deassertion. -/
  | vinUndervoltage
  /-- START_UP (R445). The Keeper-led start-up sequence runs from step 1. -/
  | startUp (r : StartReport)
  /-- XTAL25_TIMEOUT (R448). XTAL25 not running at 20 ms enters the limp state. -/
  | xtal25Timeout
  /-- IVR_READY_TIMEOUT (R448). An IVR not ready within 500 µs is retried or its branch applied. -/
  | ivrReadyTimeout (i : Fin 136)
  /-- RST_HOV_GO (R447). A GO write makes the Keeper set owners, start the warden and start H. -/
  | rstHovGo (a : Agent) (v : Word)
  /-- STATUS (R449). A management command returns RST_WAKE and DEV_IDENT. -/
  | status
  /-- RETRY (R449). A management command runs start-up again as a cold reset. -/
  | retry
  /-- OFF (R449). A management command makes the device enter OFF. -/
  | off
  /-- FLASH_WRITE (R449). A management command writes up to 256 bytes into flash slot B. -/
  | flashWrite (off : BitVec 24) (data : List Byte)
  /-- FLASH_ERASE (R449). A management command erases a 64 KiB sector of slot B. -/
  | flashErase (sector : BitVec 8)
  /-- WAKE_N (R450). WAKE_N low for 10 µs in OFF starts start-up. -/
  | wakeN
  /-- I3C_WAKE (R450). An I3C wake command in OFF starts start-up. -/
  | i3cWake
  /-- RESET_N (R514). A RESET_N pulse, judged at its rising edge, causes a warm or cold reset. -/
  | resetN (ns : BitVec 64)
  /-- COLD_RESET (R451). RST_REQ KIND 6 resets every island and runs start-up. -/
  | coldReset (a : Agent)
  /-- WARM_DEVICE_RESET (R451). RST_REQ KIND 1 resets all but the always-on island and ledger state. -/
  | warmDeviceReset (a : Agent)
  /-- COMPARTMENT_RESET (R451). RST_REQ KIND 2 resets every cluster of a compartment. -/
  | compartmentReset (a : Agent) (comp : CompId)
  /-- CLUSTER_RESET (R451). RST_REQ KIND 3 resets a cluster's cores, caches, TLBs, CII and DSP. -/
  | clusterReset (a : Agent) (n : ClusterId)
  /-- CORE_RESET (R451). RST_REQ KIND 4 resets one core to its reset state. -/
  | coreReset (a : Agent) (c : CoreId)
  /-- BLOCK_RESET (R451). RST_REQ KIND 5 resets one block's registers and escapements. -/
  | blockReset (a : Agent) (page : BitVec 12)
  /-- RST_ARB_WRITE (R456). A W write of a larger anti-rollback value is stored in MRAM. -/
  | rstArbWrite (a : Agent) (k : Fin 4) (v : Word)
  /-- CORE_FAULT (R15). A failed core is retired and the spare takes its ID and queues. -/
  | coreFault (c : CoreId) (stateBad : Bool)
  /-- CLUSTER_FAULT (R15). A failed cluster is marked and the compartment-shrunk report posted. -/
  | clusterFault (n : ClusterId)
  /-- IVR_PHASE_FAULT (R15). A failed IVR phase is carried by the redundant phase. -/
  | ivrPhaseFault (i : Fin 136)
  /-- MESH_FLIT_CRC_FAIL (R458). A flit failing CRC after 16 retries is dropped and answered with poison. -/
  | meshFlitCrcFail (c : CoreId) (va : Word) (wr : Bool)
  /-- D2D_REPLAY (R457). A die-to-die CRC error replays the flit or retrains the link. -/
  | d2dReplay (l : Fin 18) (retrain : Bool)
  /-- MRAM_UNCORRECTABLE (R461). An uncorrectable MRAM word is handled by its content. -/
  | mramUncorrectable (m : MramContent)
  /-- ERR_INJECT (R467). Arming injects an error into the next access of the named compartment. -/
  | errInject (a : Agent) (page : BitVec 12) (v : Word)
  /-- IST_REQ_GO (R468). A GO write starts an in-service test of a cluster, band or channel. -/
  | istReqGo (a : Agent) (comp : CompId) (v : Word)
  /-- IST_DRAIN_END (R469). The test drain ends or is refused busy at its timeout. -/
  | istDrainEnd (comp : CompId) (us : BitVec 16) (timedOut : Bool)
  /-- IST_TEST_END (R471). The test finishes, records its result and restores the target. -/
  | istTestEnd (comp : CompId) (us : BitVec 32) (slack : BitVec 8) (r : TestFinding)
  /-- UPT_STAGE (R482). The Keeper reads, verifies and decrypts a container into the pending image. -/
  | uptStage (a : Agent) (v : Word)
  /-- UPT_COMMIT (R485). The pending image becomes the in-service image. -/
  | uptCommit (a : Agent) (v : Word)
  /-- UPT_APPLY (R483). A GO write checks and drains one cluster or channel for a patch. -/
  | uptApply (a : Agent) (v : Word)
  /-- PATCH_DRAIN_END (R483). The drain ends and the unit is frozen for loading. -/
  | patchDrainEnd (us : BitVec 16) (timedOut : Bool)
  /-- PATCH_LOAD_END (R483). The words are written, SYS cleared and the unit restored. -/
  | patchLoadEnd (ok : Bool)
  /-- BLK_OWNER_WRITE (R491). A write of a block owner follows the secure-attribute rules or is a denial. -/
  | blkOwnerWrite (a : Agent) (page : BitVec 12) (v : Word)
  /-- REGISTER_WRITE (R493). A write to an atlas register without its own row is checked and applied. -/
  | registerWrite (a : Agent) (pa : BitVec 52) (w32 : Bool) (v : Word)
  /-- WINDOW_PUT (R396). A received PUT frame is checked against its window and written, and a PUT_RSP is returned. -/
  | windowPut (p : Fin 6) (f : Frame)
  /-- REMOTE_PUSH_TIMEOUT (R239). A remote QPUSH that gets no answer within 100 µs ends with st = 3. -/
  | remotePushTimeout (c : CoreId)
  /-- TARGET_ACCEPTANCE (R192). A target returns its acceptance when a device-posted store is performed there, releasing waiting SBAR and MBAR. -/
  | targetAcceptance (c : CoreId)
  /-- PCIE_LINK_LOSS (R15). A PCIe link goes down and is retried or retrained, leaving the endpoint behind it unreachable. -/
  | pcieLinkLoss (p l : Fin 4)
  /-- UNSPARED_UNIT_FAULT (R462). A fault in a unit without a spare is logged at severity 4, FAULT_N is asserted, and the affected transactions get poisoned error responses. -/
  | unsparedUnitFault (i : Fin 136)
  /-- VSTBY_LOSS (R451). Loss of VSTBY drops the always-on island, the timebase and RST_WAKE, so the next power-on is a cold start. -/
  | vstbyLoss
  /-- TAP_OPERATION (R515). TCK and TMS edges advance the JTAG TAP, which offers IDCODE, BYPASS and SAMPLE/PRELOAD in the deployed lifecycle. -/
  | tapOperation (tms tdi trstN : Bool)
  /-- RESET_DRAIN_END (R201). At the end of the 200 ns store-buffer allowance or the 1 ms write-back of a core or cluster reset, the entries left are discarded and the dirty lines poisoned. -/
  | resetDrainEnd (n : ClusterId)
  deriving DecidableEq, Repr

end Sys2Proof
end

