-- ==== Sys2Proof/WellFormed.lean ====
section
/-! DEFINITION. Which commands are well formed: the immediate parcels an instruction format holds (R50, R63, R68),
and the payload of a flash write (R449). Every other operand is limited by its type. -/

namespace Sys2Proof

/-- A literal has 1 to 4 immediate parcels, and the zero-extended form of 4 does not exist: 0x3F00 (R63). -/
def wfLitx (z : Bool) (imm : List (BitVec 16)) : Bool :=
  decide (1 ≤ imm.length) && decide (imm.length ≤ 4) && !(z && decide (imm.length = 4))

/-- A branch or a call has 0 to 2 immediate parcels (R50). -/
def wfDisp (imm : List (BitVec 16)) : Bool := decide (imm.length ≤ 2)

/-- A flash write carries up to 256 bytes (R449). -/
def wfFlash (data : List Byte) : Bool := decide (data.length ≤ 256)

/-- A command is well formed when its operands are those of its row. -/
def Instr.wf : Instr → Bool
  | .litx _ z imm => wfLitx z imm
  | .bz _ _ _ _ imm _ => wfDisp imm
  | .bnz _ _ _ _ imm _ => wfDisp imm
  | .br _ _ imm => wfDisp imm
  | .call _ _ imm => wfDisp imm
  | .flashWrite _ data => wfFlash data
  | _ => true

end Sys2Proof
end

