-- ==== Sys2Proof/Decode.lean ====
section
/-! DEFINITION. The parcel decoder of chapter 3 (R50 to R78): from the parcels at the pc to the instruction a core runs.
A command of this block is not fetched: the decoder gives a delay slot's parcel its meaning (R76 to R78),
tells an undefined parcel (R55), and answers the table's words (the table gives no bits). -/

namespace Sys2Proof

/-- Bits [hi:lo] of a parcel. -/
def pbits (p : Parcel) (hi lo : Nat) : Nat := (p.toNat / 2 ^ lo) % 2 ^ (hi - lo + 1)

/-- Class 0x0 without an index (R59). -/
def decStack (n : Nat) : Option (CoreId → Instr) :=
  if n = 0x001 then some .nop else if n = 0x002 then some .dup else if n = 0x003 then some .drop else
  if n = 0x004 then some .swap else if n = 0x005 then some .over else if n = 0x006 then some .rot else
  if n = 0x007 then some .nrot else if n = 0x008 then some .nip else if n = 0x009 then some .tuck else
  if n = 0x00A then some .dup2 else if n = 0x00B then some .drop2 else if n = 0x00C then some .swap2 else
  if n = 0x00D then some .over2 else if n = 0x00E then some .depth else if n = 0x010 then some .pushlr else
  if n = 0x011 then some .poplr else if n = 0x012 then some .pushfp else if n = 0x013 then some .popfp else none

/-- Class 0x1 (R60). -/
def decInt (n : Nat) : Option (CoreId → Instr) :=
  if n = 0x00 then some .add else if n = 0x01 then some .sub else if n = 0x02 then some .neg else
  if n = 0x03 then some .and else if n = 0x04 then some .or else if n = 0x05 then some .xor else
  if n = 0x06 then some .not else if n = 0x07 then some .shl else if n = 0x08 then some .shr else
  if n = 0x09 then some .sar else if n = 0x0A then some .rol else if n = 0x0B then some .ror else
  if n = 0x0C then some .sextb else if n = 0x0D then some .sexth else if n = 0x0E then some .sextw else
  if n = 0x0F then some .zextw else if n = 0x10 then some .mul else if n = 0x11 then some .mulhs else
  if n = 0x12 then some .mulhu else if n = 0x13 then some .div else if n = 0x14 then some .divu else
  if n = 0x15 then some .rem else if n = 0x16 then some .remu else if n = 0x20 then some .eq else
  if n = 0x21 then some .ne else if n = 0x22 then some .lt else if n = 0x23 then some .ge else
  if n = 0x24 then some .ltu else if n = 0x25 then some .geu else if n = 0x26 then some .gt else
  if n = 0x27 then some .le else if n = 0x28 then some .gtu else if n = 0x29 then some .leu else
  if n = 0x2A then some .eqz else if n = 0x2B then some .nez else if n = 0x2C then some .ltz else
  if n = 0x2D then some .gez else if n = 0x30 then some .sel else none

/-- Class 0x4 (R64): the shift group's bits [7:6] are reserved. -/
def decImm (c : CoreId) (op : Nat) (p : Parcel) : Option Instr :=
  let imm : BitVec 8 := BitVec.ofNat 8 (pbits p 7 0)
  let k : BitVec 6 := BitVec.ofNat 6 (pbits p 5 0)
  let r := pbits p 7 6 = 0
  if op = 0x0 then some (.addi c imm) else if op = 0x1 then some (.andi c imm) else
  if op = 0x2 then some (.ori c imm) else if op = 0x3 then some (.xori c imm) else
  if op = 0x4 then (if r then some (.shli c k) else none) else
  if op = 0x5 then (if r then some (.shri c k) else none) else
  if op = 0x6 then (if r then some (.sari c k) else none) else
  if op = 0x7 then (if r then some (.roli c k) else none) else
  if op = 0x8 then some (.eqi c imm) else if op = 0x9 then some (.nei c imm) else
  if op = 0xA then some (.lti c imm) else if op = 0xB then some (.ltui c imm) else
  if op = 0xC then some (.muli c imm) else none

/-- Classes 0x6 and 0x7 (R66), by W and S. -/
def decMem (c : CoreId) (store : Bool) (p : Parcel) : Option Instr :=
  let d : BitVec 9 := BitVec.ofNat 9 (pbits p 8 0)
  let w := pbits p 11 10
  let sx := pbits p 9 9 = 1
  if store then
    if sx then none else
    some (if w = 0 then .stb c d else if w = 1 then .sth c d else if w = 2 then .stw c d else .std c d)
  else if w = 0 then some (if sx then .ldbs c d else .ldb c d)
  else if w = 1 then some (if sx then .ldhs c d else .ldh c d)
  else if w = 2 then some (if sx then .ldws c d else .ldw c d)
  else if sx then none else some (.ldd c d)

/-- Class 0x8 (R67). -/
def decAtom (c : CoreId) (p : Parcel) : Option Instr :=
  let op := pbits p 11 8
  let dbl := pbits p 6 6 = 1
  let far := pbits p 5 5 = 1
  if pbits p 7 7 = 0 ∨ pbits p 4 0 ≠ 0 then none else
  if op = 0 then some (.axchg c dbl far) else if op = 1 then some (.acas c dbl far) else
  if op = 2 then some (.aadd c dbl far) else if op = 3 then some (.aand c dbl far) else
  if op = 4 then some (.aor c dbl far) else if op = 5 then some (.axor c dbl far) else
  if op = 6 then some (.amin c dbl far) else if op = 7 then some (.amax c dbl far) else
  if op = 8 then some (.aminu c dbl far) else if op = 9 then some (.amaxu c dbl far) else none

/-- Class 0xB (R71). -/
def decFlow (n : Nat) : Option (CoreId → Instr) :=
  if n = 1 then some .ret else if n = 2 then some .jmp else if n = 3 then some .calli else if n = 4 then some .trap else
  if n = 5 then some .hcall else if n = 6 then some .wcall else if n = 7 then some .eret else none

/-- Class 0xE (R73). -/
def decSys (n : Nat) : Option (CoreId → Instr) :=
  if n = 0x001 then some .lbar else if n = 0x002 then some .sbar else if n = 0x003 then some .mbar else
  if n = 0x004 then some .isync else if n = 0x005 then some .csync else if n = 0x006 then some .tlbsync else
  if n = 0x100 then some .dclean else if n = 0x101 then some .dflush else if n = 0x102 then some .dinv else
  if n = 0x103 then some .iclean else if n = 0x104 then some .prefr else if n = 0x105 then some .prefw else
  if n = 0x200 then some .dcleanR else if n = 0x201 then some .dflushR else if n = 0x202 then some .dinvR else
  if n = 0x203 then some .icleanR else if n = 0x300 then some .tlbiVa else if n = 0x301 then some .tlbiAsid else
  if n = 0x302 then some .tlbiAll else if n = 0x303 then some .tlbiIpa else if n = 0x304 then some .tlbiVmid else
  if n = 0x305 then some .tlbiHall else if n = 0x310 then some .tlbibVa else if n = 0x311 then some .tlbibAsid else
  if n = 0x312 then some .tlbibAll else if n = 0x313 then some .tlbibIpa else if n = 0x314 then some .tlbibVmid else
  if n = 0x315 then some .tlbibHall else if n = 0x400 then some .qpush else if n = 0x401 then some .qpop else
  if n = 0x402 then some .qdone else if n = 0x403 then some .wait else if n = 0x404 then some .yield else none

/-- Class 0xF (R75). -/
def decExt (n : Nat) : Option (CoreId → Instr) :=
  if n = 0x000 then some .aese else if n = 0x001 then some .aesel else if n = 0x002 then some .aesd else
  if n = 0x003 then some .aesdl else if n = 0x004 then some .aesimc else if n = 0x005 then some .aeskg else
  if n = 0x100 then some .sha256sig0 else if n = 0x101 then some .sha256sig1 else if n = 0x102 then some .sha256sum0 else
  if n = 0x103 then some .sha256sum1 else if n = 0x200 then some .sha512sig0 else if n = 0x201 then some .sha512sig1 else
  if n = 0x202 then some .sha512sum0 else if n = 0x203 then some .sha512sum1 else if n = 0x300 then some .clmul else
  if n = 0x301 then some .clmulh else if n = 0x400 then some .clz else if n = 0x401 then some .ctz else
  if n = 0x402 then some .popc else if n = 0x403 then some .bswap else if n = 0x404 then some .brev else
  if n = 0x405 then some .andn else if n = 0x406 then some .orn else if n = 0x407 then some .xnor else
  if n = 0x408 then some .mins else if n = 0x409 then some .maxs else if n = 0x40A then some .minu else
  if n = 0x40B then some .maxu else if n = 0x40C then some .bch else if n = 0x40D then some .bmaj else
  if n = 0x40E then some .bfx else if n = 0x500 then some .sealB else if n = 0x501 then some .sealH else
  if n = 0x502 then some .sealW else if n = 0x503 then some .sealD else none

/-- The one-parcel instructions: every class but the long literals, the branches and the calls. none where the parcel is
undefined (R55) or belongs to those. -/
def decodeOne (c : CoreId) (p : Parcel) : Option Instr :=
  let cls := pbits p 15 12
  let n := pbits p 11 0
  if cls = 0x0 then
    if n / 16 = 0x10 then some (.pick c (BitVec.ofNat 4 n))
    else if n / 16 = 0x20 then some (.put c (BitVec.ofNat 4 n))
    else if n / 16 = 0x30 then some (.roll c (BitVec.ofNat 4 n))
    else (decStack n).map (fun k => k c)
  else if cls = 0x1 then (decInt n).map (fun k => k c)
  else if cls = 0x3 then (if pbits p 11 11 = 0 then some (.lit c (BitVec.ofNat 11 n)) else none)
  else if cls = 0x4 then decImm c (pbits p 11 8) p
  else if cls = 0x5 then
    let u : BitVec 10 := BitVec.ofNat 10 n
    if pbits p 11 10 = 0 then some (.ldl c u) else if pbits p 11 10 = 1 then some (.stl c u)
    else if pbits p 11 10 = 2 then some (.lal c u) else none
  else if cls = 0x6 then decMem c false p
  else if cls = 0x7 then decMem c true p
  else if cls = 0x8 then decAtom c p
  else if cls = 0xB then (decFlow n).map (fun k => k c)
  else if cls = 0xC then some (.mfs c (BitVec.ofNat 12 n))
  else if cls = 0xD then some (.mts c (BitVec.ofNat 12 n))
  else if cls = 0xE then (decSys n).map (fun k => k c)
  else if cls = 0xF then (decExt n).map (fun k => k c)
  else none

/-- How many immediate parcels follow an opcode parcel (R50); none where its count field is 0b11 or a reserved field
of a long literal is not zero, or the parcel is 0x3F00 (R55). -/
def immCount (p : Parcel) : Option Nat :=
  let cls := pbits p 15 12
  if cls = 0x3 ∧ pbits p 11 11 = 1 then
    if pbits p 7 0 ≠ 0 ∨ p = 0x3F00#16 then none else some (pbits p 10 9 + 1)
  else if cls = 0x9 then (if pbits p 8 7 = 3 then none else some (pbits p 8 7))
  else if cls = 0xA then (if pbits p 10 9 = 3 then none else some (pbits p 10 9))
  else some 0

/-- The instruction that the parcels at the pc hold, with the number of its own parcels. For a conditional branch the
parcel after its last one is its delay slot (R76) and goes with it. none: undefined (R55), or parcels are missing. -/
def decodeParcels (c : CoreId) : List Parcel → Option (Instr × Nat)
  | [] => none
  | p :: t =>
    match immCount p with
    | none => none
    | some k =>
      if t.length < k then none else
      let imm := t.take k
      let cls := pbits p 15 12
      if cls = 0x3 ∧ pbits p 11 11 = 1 then some (.litx c (pbits p 8 8 = 1) imm, 1 + k)
      else if cls = 0x9 then
        match t.drop k with
        | [] => none
        | slot :: _ =>
          let d : BitVec 7 := BitVec.ofNat 7 (pbits p 6 0)
          let h : Bool := pbits p 10 10 = 1
          let a : Bool := pbits p 9 9 = 1
          some (if pbits p 11 11 = 0 then .bz c h a d imm slot else .bnz c h a d imm slot, 1 + k)
      else if cls = 0xA then
        let d : BitVec 9 := BitVec.ofNat 9 (pbits p 8 0)
        some (if pbits p 11 11 = 0 then .br c d imm else .call c d imm, 1 + k)
      else (decodeOne c p).map (fun i => (i, 1))

/-- Whether a parcel is undefined (R55, R56). -/
def parcelUndefined (p : Parcel) : Bool :=
  match immCount p with
  | none => true
  | some _ =>
    let cls := pbits p 15 12
    if (cls = 0x3 ∧ pbits p 11 11 = 1) ∨ cls = 0x9 ∨ cls = 0xA then false else (decodeOne 0 p).isNone

/-- Whether a delay slot may hold the parcel (R77): one parcel, no branch, call, other transfer or queue instruction. -/
def slotForbidden (p : Parcel) : Bool :=
  let cls := pbits p 15 12
  decide (cls = 0x3 ∧ pbits p 11 11 = 1) || decide (cls = 0x9) || decide (cls = 0xA) || decide (cls = 0xB) ||
    decide (cls = 0xE ∧ pbits p 11 8 = 4)

/-- The command a word of spec/opcode_table.json spells: the table gives no row any bits, so none. -/
def decodeTableWord (_nbits _w : Nat) : Option Instr := none

end Sys2Proof
end

