-- ==== Sys2Proof/Config.lean ====
section
/-! DEFINITION. What the manual fixes per device or leaves open: constants without a body, so that no proof can rest
on a value of them. Each docstring names the rule and the assumption log's entry. -/

namespace Sys2Proof

/-- Between an MTS of a "yes" register and the next synchronising point each instruction uses the wholly old or the
wholly new value (R45): whether the instruction counted `n` uses the new value of register number `r`. Log 2. -/
opaque Config.csyncNew (n r : Nat) : Bool

/-- Any TLB entry may be evicted at any moment (R178): whether the access counted `n` at `va` still finds a matching
entry. Log 3. -/
opaque Config.tlbUse (n va : Nat) : Bool

/-- The data a PCIe function returns for a core's read (R356): the device is outside the block. Log 4. -/
opaque Config.deviceRead (n pa : Nat) : Word

/-- Whether a request from die `a` to die `b` goes around the compute ring in ascending order of dies (R272): the manual gives the
links but not the direction taken. Log 5. -/
opaque Config.d2dUp (a b : Nat) : Bool

/-- The 12-bit hash of PC[56:9] that tags the branch target buffer (R144). Log 6. -/
opaque Config.btbHash (high : BitVec 48) : BitVec 12

/-- What the wrong path counted `n` does to the return stack, an address pushed or none popped, and the addresses that it
fetches (R147, R148): which instructions lie there the model does not follow. Log 65. -/
opaque Config.wrongReturns (n : Nat) : List (Option Word)
opaque Config.wrongFetch (n : Nat) : List Word

/-- How often a cycle event, a folded pair or a speculative event `ev` occurs in the span counted `n` (R157): the model has no
clock cycles. Log 50. -/
opaque Config.eventCount (n ev : Nat) : Nat

/-- SHA-384 of a byte string (R322, R455). Log 7. -/
opaque Config.sha384 (bytes : List Byte) : List Byte

/-- The ECDSA P-384 signature of a digest under the device-unique key (R322, R309). Log 7. -/
opaque Config.ecdsaSign (digest : List Byte) : List Byte

/-- Whether an ECDSA P-384 signature verifies (R455). Log 7. -/
opaque Config.ecdsaVerify (pub digest sig : List Byte) : Bool

/-- AES-256-GCM opening with the patch key of R309 (R455). Log 7. -/
opaque Config.gcmOpen (iv tag aad ct : List Byte) : Option (List Byte)

/-- The fused hash of key `k`, and whether it is revoked (R455). Log 8. -/
opaque Config.keyHash (k : Nat) : List Byte
opaque Config.keyRevoked (k : Nat) : Bool

/-- The device's public 64-bit identifier, fused at manufacture (DEV_UID). Log 8. -/
opaque Config.devUid : Word

/-- Bytes 8j to 8j + 7 of the device's public key, and of its certificate window (LG_PUBKEY, LG_CERT). Log 8. -/
opaque Config.pubKey (j : Nat) : Word
opaque Config.cert (j : Nat) : Word

/-- BLK_CAP.INJT of a page, "per block" in the manual. Log 8. -/
opaque Config.injt (page : Nat) : BitVec 4

/-- The way recorded for an error of the store buffer, which has none (R466, KIND 4). Log 9. -/
opaque Config.errWay (n : Nat) : BitVec 5

/-- The request ID given to a WCALL: 16 bits that no other open request holds (R299). Log 10. -/
opaque Config.reqId (n : Nat) : BitVec 16

/-- A value the manual leaves open, fresh for each count. Log 11. -/
opaque Config.freeWord (n : Nat) : Word

/-- Whether the uncorrectable error counted `n` of an L3 way lies in its tag array (R205, R222). Log 155. -/
opaque Config.errTag (n : Nat) : Bool

/-- Whether a code of the TAP's instruction register names IDCODE, and whether it names SAMPLE/PRELOAD (R515): the manual
gives no codes. Log 27. -/
opaque Config.tapIdcode (code : BitVec 4) : Bool
opaque Config.tapSample (code : BitVec 4) : Bool

/-- Whether a code names EXTEST or a debug instruction, which only the manufacturing lifecycle offers (R515). Log 165. -/
opaque Config.tapExtest (code : BitVec 4) : Bool
opaque Config.tapDebug (code : BitVec 4) : Bool

end Sys2Proof
end

