-- ==== Sys2Proof/Machine/Atlas.lean ====
section
/-! DEFINITION. The register atlas (chapter 21): block pages, and for every register of every block its offset,
its fields with their access and reset values, and who may write it, table by table from the register maps of
chapters 5 to 21. A register is named by its key: page number * 4096 + offset (R489, R490). -/

namespace Sys2Proof.Machine

/-- The kinds of block page of the block index (R500). -/
inductive Blk where
  | dev | pwc | rst | tbc | swd | gpio | atl | wdn | lg | upt | rmt | idx | cmt | l3bm | dmg | fabg | hub | pcie | iom | fab | mesh | dmc | irr | dma | l3s | dsp | l2c | usq | cii | cmp | bar | qm | ist | fxc | ann | bwMesh | bwL3s | bwD2d | bwDram | bwHub | dmaa | pcoa
  deriving DecidableEq, Repr

/-- First block ID and number of instances of a kind (R500). -/
def Blk.base : Blk → Nat × Nat
  | .dev => (0x0, 1)
  | .pwc => (0x1, 1)
  | .rst => (0x2, 1)
  | .tbc => (0x3, 1)
  | .swd => (0x4, 1)
  | .gpio => (0x5, 1)
  | .atl => (0x6, 1)
  | .wdn => (0x10, 1)
  | .lg => (0x11, 1)
  | .upt => (0x12, 1)
  | .rmt => (0x13, 1)
  | .idx => (0x14, 1)
  | .cmt => (0x15, 1)
  | .l3bm => (0x16, 1)
  | .dmg => (0x17, 1)
  | .fabg => (0x18, 1)
  | .hub => (0x20, 2)
  | .pcie => (0x24, 4)
  | .iom => (0x28, 4)
  | .fab => (0x30, 6)
  | .mesh => (0x38, 8)
  | .dmc => (0x40, 16)
  | .irr => (0x50, 32)
  | .dma => (0x80, 64)
  | .l3s => (0xC0, 64)
  | .dsp => (0x100, 96)
  | .l2c => (0x160, 96)
  | .usq => (0x1C0, 96)
  | .cii => (0x220, 96)
  | .cmp => (0x280, 64)
  | .bar => (0x2C0, 64)
  | .qm => (0x300, 64)
  | .ist => (0x340, 64)
  | .fxc => (0x380, 64)
  | .ann => (0x3C0, 64)
  | .bwMesh => (0x400, 8)
  | .bwL3s => (0x408, 64)
  | .bwD2d => (0x448, 36)
  | .bwDram => (0x470, 32)
  | .bwHub => (0x490, 2)
  | .dmaa => (0x500, 128)
  | .pcoa => (0x600, 256)

/-- The block of a page number, with its instance; none for an undefined page (R489, R500). -/
def Blk.ofPage (p : Nat) : Option (Blk × Nat) :=
  if p = 0x0 then some (.dev, p - 0x0) else
  if p = 0x1 then some (.pwc, p - 0x1) else
  if p = 0x2 then some (.rst, p - 0x2) else
  if p = 0x3 then some (.tbc, p - 0x3) else
  if p = 0x4 then some (.swd, p - 0x4) else
  if p = 0x5 then some (.gpio, p - 0x5) else
  if p = 0x6 then some (.atl, p - 0x6) else
  if p = 0x10 then some (.wdn, p - 0x10) else
  if p = 0x11 then some (.lg, p - 0x11) else
  if p = 0x12 then some (.upt, p - 0x12) else
  if p = 0x13 then some (.rmt, p - 0x13) else
  if p = 0x14 then some (.idx, p - 0x14) else
  if p = 0x15 then some (.cmt, p - 0x15) else
  if p = 0x16 then some (.l3bm, p - 0x16) else
  if p = 0x17 then some (.dmg, p - 0x17) else
  if p = 0x18 then some (.fabg, p - 0x18) else
  if 0x20 ≤ p ∧ p < 0x22 then some (.hub, p - 0x20) else
  if 0x24 ≤ p ∧ p < 0x28 then some (.pcie, p - 0x24) else
  if 0x28 ≤ p ∧ p < 0x2C then some (.iom, p - 0x28) else
  if 0x30 ≤ p ∧ p < 0x36 then some (.fab, p - 0x30) else
  if 0x38 ≤ p ∧ p < 0x40 then some (.mesh, p - 0x38) else
  if 0x40 ≤ p ∧ p < 0x50 then some (.dmc, p - 0x40) else
  if 0x50 ≤ p ∧ p < 0x70 then some (.irr, p - 0x50) else
  if 0x80 ≤ p ∧ p < 0xC0 then some (.dma, p - 0x80) else
  if 0xC0 ≤ p ∧ p < 0x100 then some (.l3s, p - 0xC0) else
  if 0x100 ≤ p ∧ p < 0x160 then some (.dsp, p - 0x100) else
  if 0x160 ≤ p ∧ p < 0x1C0 then some (.l2c, p - 0x160) else
  if 0x1C0 ≤ p ∧ p < 0x220 then some (.usq, p - 0x1C0) else
  if 0x220 ≤ p ∧ p < 0x280 then some (.cii, p - 0x220) else
  if 0x280 ≤ p ∧ p < 0x2C0 then some (.cmp, p - 0x280) else
  if 0x2C0 ≤ p ∧ p < 0x300 then some (.bar, p - 0x2C0) else
  if 0x300 ≤ p ∧ p < 0x340 then some (.qm, p - 0x300) else
  if 0x340 ≤ p ∧ p < 0x380 then some (.ist, p - 0x340) else
  if 0x380 ≤ p ∧ p < 0x3C0 then some (.fxc, p - 0x380) else
  if 0x3C0 ≤ p ∧ p < 0x400 then some (.ann, p - 0x3C0) else
  if 0x400 ≤ p ∧ p < 0x408 then some (.bwMesh, p - 0x400) else
  if 0x408 ≤ p ∧ p < 0x448 then some (.bwL3s, p - 0x408) else
  if 0x448 ≤ p ∧ p < 0x46C then some (.bwD2d, p - 0x448) else
  if 0x470 ≤ p ∧ p < 0x490 then some (.bwDram, p - 0x470) else
  if 0x490 ≤ p ∧ p < 0x492 then some (.bwHub, p - 0x490) else
  if 0x500 ≤ p ∧ p < 0x580 then some (.dmaa, p - 0x500) else
  if 0x600 ≤ p ∧ p < 0x700 then some (.pcoa, p - 0x600) else
  none

/-- How a field answers software (the Access column of the register maps). -/
inductive Acc where
  | rw | ro | wo | w1c | w1s
  deriving DecidableEq, Repr

/-- Who may write a register, as its heading names (R495). `special`: the register's own row decides. -/
inductive Writer where
  /-- read-only -/
  | nobody
  /-- the page owner -/
  | owner
  /-- H of the page owner's compartment -/
  | ownerH
  /-- the page owner, or W -/
  | ownerOrW
  /-- H of the page owner's compartment, or W -/
  | ownerHOrW
  /-- H of the platform compartment, or W (R263) -/
  | platHOrW
  /-- H of the compartment in the unit's attribute, or W -/
  | attrHOrW
  /-- W only -/
  | w
  /-- the boot firmware, before hand-over -/
  | boot
  /-- decided by the register's own rule -/
  | special
  deriving DecidableEq, Repr

/-- A field of a register map: place, width, access, reset value. -/
structure FieldRow where
  lo : Nat
  w : Nat
  acc : Acc
  rst : Nat
  deriving DecidableEq, Repr

/-- A register of a block page: offset of the first instance, number and stride, writer, fields. -/
structure RegRow where
  off : Nat
  count : Nat
  stride : Nat
  writer : Writer
  fields : List FieldRow
  deriving DecidableEq, Repr

/-- A field by place and width. -/
structure Fld where
  lo : Nat
  w : Nat
  deriving DecidableEq, Repr

/-- The key of a register: page number and offset. -/
def regKey (page off : Nat) : Nat := page * 4096 + off

/-- CII_PEND -/
def regRowCII_PEND : RegRow := ⟨0x100, 16, 0x40, .owner, [⟨0, 2, .ro, 0x0⟩, ⟨2, 5, .w1c, 0x0⟩, ⟨8, 56, .w1c, 0x0⟩]⟩
/-- CII_SET -/
def regRowCII_SET : RegRow := ⟨0x108, 16, 0x40, .owner, [⟨2, 5, .wo, 0x0⟩, ⟨8, 56, .wo, 0x0⟩]⟩
/-- CII_EN -/
def regRowCII_EN : RegRow := ⟨0x110, 16, 0x40, .owner, [⟨0, 7, .rw, 0x0⟩, ⟨8, 56, .rw, 0x0⟩]⟩
/-- CII_LVL -/
def regRowCII_LVL : RegRow := ⟨0x118, 16, 0x40, .owner, [⟨0, 4, .ro, 0x5⟩, ⟨4, 1, .rw, 0x1⟩, ⟨5, 2, .ro, 0x3⟩, ⟨8, 56, .rw, 0xFFFFFFFFFFFFFF⟩]⟩
/-- CII_STAT -/
def regRowCII_STAT : RegRow := ⟨0x120, 16, 0x40, .nobody, [⟨0, 6, .ro, 0x0⟩, ⟨7, 1, .ro, 0x0⟩, ⟨8, 1, .ro, 0x0⟩]⟩
/-- L2C_PF -/
def regRowL2C_PF : RegRow := ⟨0x100, 1, 0x0, .ownerH, [⟨0, 2, .rw, 0x2⟩, ⟨2, 2, .ro, 0x1⟩]⟩
/-- L2C_STAT -/
def regRowL2C_STAT : RegRow := ⟨0x108, 1, 0x0, .nobody, [⟨0, 1, .ro, 0x0⟩, ⟨1, 1, .ro, 0x1⟩]⟩
/-- L3S_WAYS -/
def regRowL3S_WAYS : RegRow := ⟨0x100, 1, 0x0, .nobody, [⟨0, 17, .ro, 0x0⟩, ⟨17, 1, .ro, 0x0⟩, ⟨18, 4, .ro, 0x0⟩]⟩
/-- L3S_CE_THR -/
def regRowL3S_CE_THR : RegRow := ⟨0x108, 1, 0x0, .owner, [⟨0, 16, .rw, 0x10⟩, ⟨16, 16, .rw, 0x3E8⟩]⟩
/-- L3S_SPARE_CTL -/
def regRowL3S_SPARE_CTL : RegRow := ⟨0x110, 1, 0x0, .owner, [⟨0, 4, .rw, 0x0⟩, ⟨4, 1, .wo, 0x0⟩]⟩
/-- L3S_SPARE_STAT -/
def regRowL3S_SPARE_STAT : RegRow := ⟨0x118, 1, 0x0, .nobody, [⟨0, 2, .ro, 0x0⟩, ⟨2, 12, .ro, 0x0⟩]⟩
/-- L3BM_FLUSH -/
def regRowL3BM_FLUSH : RegRow := ⟨0x100, 1, 0x0, .special, [⟨0, 6, .rw, 0x0⟩, ⟨6, 1, .wo, 0x0⟩, ⟨16, 16, .rw, 0x3E8⟩]⟩
/-- L3BM_FLUSH_STAT -/
def regRowL3BM_FLUSH_STAT : RegRow := ⟨0x108, 1, 0x0, .nobody, [⟨0, 3, .ro, 0x0⟩, ⟨16, 16, .ro, 0x0⟩]⟩
/-- QM_RANGE -/
def regRowQM_RANGE : RegRow := ⟨0x100, 1, 0x0, .owner, [⟨0, 18, .rw, 0x0⟩, ⟨20, 19, .rw, 0x0⟩]⟩
/-- QM_DTB -/
def regRowQM_DTB : RegRow := ⟨0x108, 1, 0x0, .owner, [⟨18, 34, .rw, 0x0⟩]⟩
/-- QM_STEAL -/
def regRowQM_STEAL : RegRow := ⟨0x110, 1, 0x0, .owner, [⟨0, 1, .rw, 0x1⟩, ⟨1, 1, .rw, 0x1⟩, ⟨16, 16, .rw, 0x64⟩]⟩
/-- DSP_HOME -/
def regRowDSP_HOME : RegRow := ⟨0x100, 16, 0x20, .ownerH, [⟨0, 18, .rw, 0x0⟩, ⟨18, 1, .rw, 0x0⟩, ⟨20, 18, .rw, 0x0⟩, ⟨38, 1, .rw, 0x0⟩]⟩
/-- DSP_STAT -/
def regRowDSP_STAT : RegRow := ⟨0x108, 16, 0x20, .nobody, [⟨0, 18, .ro, 0x0⟩, ⟨18, 2, .ro, 0x0⟩, ⟨20, 1, .ro, 0x0⟩, ⟨21, 1, .ro, 0x0⟩]⟩
/-- DSP_QFAULT -/
def regRowDSP_QFAULT : RegRow := ⟨0x110, 16, 0x20, .nobody, [⟨0, 4, .ro, 0x0⟩, ⟨8, 18, .ro, 0x0⟩]⟩
/-- DSP_PARK -/
def regRowDSP_PARK : RegRow := ⟨0x118, 16, 0x20, .ownerH, [⟨1, 63, .rw, 0x0⟩]⟩
/-- DSP_STEALS -/
def regRowDSP_STEALS : RegRow := ⟨0x300, 1, 0x0, .nobody, [⟨0, 48, .ro, 0x0⟩]⟩
/-- DSP_BROKEN -/
def regRowDSP_BROKEN : RegRow := ⟨0x308, 1, 0x0, .nobody, [⟨0, 16, .ro, 0x0⟩]⟩
/-- CMT_CLUSTER -/
def regRowCMT_CLUSTER : RegRow := ⟨0x100, 96, 0x8, .platHOrW, [⟨0, 6, .rw, 0x0⟩, ⟨6, 1, .rw, 0x0⟩, ⟨7, 1, .ro, 0x1⟩, ⟨8, 1, .ro, 0x0⟩, ⟨9, 2, .ro, 0x0⟩, ⟨16, 16, .rw, 0x3E8⟩]⟩
/-- CMT_BAND -/
def regRowCMT_BAND : RegRow := ⟨0x400, 64, 0x8, .platHOrW, [⟨0, 6, .rw, 0x0⟩, ⟨6, 1, .rw, 0x0⟩, ⟨7, 1, .ro, 0x1⟩]⟩
/-- CMT_COLOR -/
def regRowCMT_COLOR : RegRow := ⟨0x600, 64, 0x8, .platHOrW, [⟨0, 6, .rw, 0x0⟩, ⟨6, 1, .rw, 0x0⟩, ⟨7, 1, .ro, 0x0⟩, ⟨8, 3, .ro, 0x0⟩]⟩
/-- CMP_STEER -/
def regRowCMP_STEER : RegRow := ⟨0x100, 64, 0x8, .ownerHOrW, [⟨0, 6, .rw, 0x0⟩, ⟨6, 1, .ro, 0x1⟩]⟩
/-- CMP_CTL -/
def regRowCMP_CTL : RegRow := ⟨0x300, 1, 0x0, .ownerHOrW, [⟨0, 1, .rw, 0x0⟩, ⟨1, 1, .rw, 0x0⟩]⟩
/-- CMP_STAT -/
def regRowCMP_STAT : RegRow := ⟨0x308, 1, 0x0, .nobody, [⟨0, 1, .ro, 0x0⟩, ⟨1, 1, .ro, 0x0⟩]⟩
/-- CMP_DTM -/
def regRowCMP_DTM : RegRow := ⟨0x310, 1, 0x0, .ownerHOrW, [⟨0, 6, .rw, 0x0⟩, ⟨6, 1, .rw, 0x0⟩]⟩
/-- CMP_BAR_CTL -/
def regRowCMP_BAR_CTL : RegRow := ⟨0x318, 1, 0x0, .ownerHOrW, [⟨0, 5, .rw, 0x1⟩, ⟨5, 1, .rw, 0x0⟩]⟩
/-- BAR_ARRIVE -/
def regRowBAR_ARRIVE : RegRow := ⟨0x100, 1, 0x0, .owner, [⟨0, 64, .wo, 0x0⟩]⟩
/-- BAR_GEN -/
def regRowBAR_GEN : RegRow := ⟨0x108, 1, 0x0, .nobody, [⟨0, 32, .ro, 0x0⟩]⟩
/-- BEAT_MAP -/
def regRowBEAT_MAP : RegRow := ⟨0x100, 64, 0x8, .platHOrW, [⟨0, 6, .rw, 0x0⟩, ⟨6, 1, .rw, 0x0⟩, ⟨7, 1, .rw, 0x0⟩]⟩
/-- BW_STAT -/
def regRowBW_STAT : RegRow := ⟨0x300, 1, 0x0, .nobody, [⟨0, 6, .ro, 0x0⟩, ⟨6, 1, .ro, 0x0⟩, ⟨16, 48, .ro, 0x0⟩]⟩
/-- WDN_CTL -/
def regRowWDN_CTL : RegRow := ⟨0x100, 1, 0x0, .w, [⟨0, 7, .rw, 0x5F⟩, ⟨7, 1, .rw, 0x0⟩, ⟨8, 1, .wo, 0x0⟩, ⟨9, 1, .rw, 0x0⟩, ⟨16, 32, .rw, 0x2710⟩]⟩
/-- WDN_WSEL -/
def regRowWDN_WSEL : RegRow := ⟨0x108, 1, 0x0, .w, [⟨0, 16, .rw, 0x1⟩]⟩
/-- WDN_STAT -/
def regRowWDN_STAT : RegRow := ⟨0x110, 1, 0x0, .nobody, [⟨0, 2, .ro, 0x0⟩, ⟨2, 1, .ro, 0x0⟩, ⟨3, 1, .ro, 0x0⟩, ⟨4, 8, .ro, 0x0⟩, ⟨16, 16, .ro, 0x0⟩, ⟨32, 16, .ro, 0x0⟩]⟩
/-- WDN_DENY -/
def regRowWDN_DENY : RegRow := ⟨0x118, 1, 0x0, .nobody, [⟨0, 32, .ro, 0x0⟩, ⟨32, 12, .ro, 0x0⟩]⟩
/-- WDN_LOAD -/
def regRowWDN_LOAD : RegRow := ⟨0x120, 1, 0x0, .w, [⟨18, 34, .rw, 0x0⟩]⟩
/-- WDN_WRES -/
def regRowWDN_WRES : RegRow := ⟨0x400, 16, 0x10, .w, [⟨0, 64, .rw, 0x0⟩]⟩
/-- WDN_WRPL -/
def regRowWDN_WRPL : RegRow := ⟨0x408, 16, 0x10, .w, [⟨0, 16, .wo, 0x0⟩, ⟨16, 8, .wo, 0x0⟩]⟩
/-- SWD_CTL -/
def regRowSWD_CTL : RegRow := ⟨0x100, 1, 0x0, .w, [⟨0, 1, .w1s, 0x0⟩]⟩
/-- SWD_P1 -/
def regRowSWD_P1 : RegRow := ⟨0x108, 1, 0x0, .w, [⟨0, 24, .rw, 0x10000⟩]⟩
/-- SWD_P2 -/
def regRowSWD_P2 : RegRow := ⟨0x110, 1, 0x0, .w, [⟨0, 24, .rw, 0x8000⟩]⟩
/-- SWD_KICK -/
def regRowSWD_KICK : RegRow := ⟨0x118, 1, 0x0, .w, [⟨0, 16, .wo, 0x0⟩]⟩
/-- SWD_STAT -/
def regRowSWD_STAT : RegRow := ⟨0x120, 1, 0x0, .nobody, [⟨0, 2, .ro, 0x0⟩, ⟨2, 1, .ro, 0x0⟩, ⟨8, 24, .ro, 0x0⟩]⟩
/-- LG_CTL -/
def regRowLG_CTL : RegRow := ⟨0x100, 1, 0x0, .w, [⟨0, 1, .wo, 0x0⟩]⟩
/-- LG_STAT -/
def regRowLG_STAT : RegRow := ⟨0x108, 1, 0x0, .nobody, [⟨0, 6, .ro, 0x1⟩, ⟨6, 1, .ro, 0x0⟩, ⟨7, 2, .ro, 0x0⟩, ⟨9, 1, .ro, 0x0⟩, ⟨16, 10, .ro, 0x3E8⟩]⟩
/-- LG_SEQ_NEW -/
def regRowLG_SEQ_NEW : RegRow := ⟨0x110, 1, 0x0, .nobody, [⟨0, 64, .ro, 0x0⟩]⟩
/-- LG_SEQ_EXP -/
def regRowLG_SEQ_EXP : RegRow := ⟨0x120, 1, 0x0, .nobody, [⟨0, 64, .ro, 0x0⟩]⟩
/-- LG_WIND -/
def regRowLG_WIND : RegRow := ⟨0x128, 1, 0x0, .ownerOrW, [⟨0, 64, .rw, 0x0⟩]⟩
/-- LG_LOSS -/
def regRowLG_LOSS : RegRow := ⟨0x130, 1, 0x0, .nobody, [⟨0, 32, .ro, 0x0⟩]⟩
/-- LG_LIVE -/
def regRowLG_LIVE : RegRow := ⟨0x138, 1, 0x0, .nobody, [⟨0, 13, .ro, 0x0⟩, ⟨16, 13, .ro, 0x0⟩]⟩
/-- LG_EXP -/
def regRowLG_EXP : RegRow := ⟨0x140, 1, 0x0, .ownerOrW, [⟨18, 34, .rw, 0x0⟩]⟩
/-- LG_EXP_CTL -/
def regRowLG_EXP_CTL : RegRow := ⟨0x148, 1, 0x0, .ownerOrW, [⟨0, 16, .rw, 0x400⟩, ⟨16, 1, .wo, 0x0⟩]⟩
/-- LG_EXP_STAT -/
def regRowLG_EXP_STAT : RegRow := ⟨0x150, 1, 0x0, .nobody, [⟨0, 2, .ro, 0x0⟩, ⟨16, 16, .ro, 0x0⟩, ⟨32, 32, .ro, 0x0⟩]⟩
/-- DMG_CFG -/
def regRowDMG_CFG : RegRow := ⟨0x100, 1, 0x0, .boot, [⟨0, 2, .rw, 0x0⟩, ⟨2, 1, .rw, 0x0⟩, ⟨3, 1, .w1s, 0x0⟩]⟩
/-- DMG_TOP -/
def regRowDMG_TOP : RegRow := ⟨0x108, 1, 0x0, .nobody, [⟨0, 43, .ro, 0x0⟩]⟩
/-- DMG_PHASE -/
def regRowDMG_PHASE : RegRow := ⟨0x110, 1, 0x0, .owner, [⟨0, 8, .rw, 0xC⟩, ⟨8, 8, .rw, 0x4⟩, ⟨16, 8, .rw, 0xC⟩, ⟨24, 8, .rw, 0x38⟩]⟩
/-- DMG_CHMAP -/
def regRowDMG_CHMAP : RegRow := ⟨0x118, 1, 0x0, .nobody, [⟨0, 4, .ro, 0x0⟩, ⟨4, 4, .ro, 0x1⟩, ⟨8, 4, .ro, 0x2⟩, ⟨12, 4, .ro, 0x3⟩, ⟨16, 4, .ro, 0x4⟩, ⟨20, 4, .ro, 0x5⟩, ⟨24, 4, .ro, 0x6⟩, ⟨28, 4, .ro, 0x7⟩, ⟨32, 4, .ro, 0x8⟩, ⟨36, 4, .ro, 0x9⟩, ⟨40, 4, .ro, 0xA⟩, ⟨44, 4, .ro, 0xB⟩, ⟨48, 4, .ro, 0xC⟩, ⟨52, 4, .ro, 0xD⟩, ⟨56, 4, .ro, 0xE⟩]⟩
/-- DMG_SPARE_CTL -/
def regRowDMG_SPARE_CTL : RegRow := ⟨0x120, 1, 0x0, .owner, [⟨0, 4, .rw, 0xF⟩, ⟨4, 4, .rw, 0x0⟩, ⟨8, 1, .wo, 0x0⟩, ⟨9, 1, .rw, 0x1⟩]⟩
/-- DMG_SPARE_STAT -/
def regRowDMG_SPARE_STAT : RegRow := ⟨0x128, 1, 0x0, .nobody, [⟨0, 2, .ro, 0x0⟩, ⟨2, 4, .ro, 0x0⟩, ⟨8, 8, .ro, 0x0⟩, ⟨16, 16, .ro, 0x0⟩]⟩
/-- DMC_CTL -/
def regRowDMC_CTL : RegRow := ⟨0x100, 1, 0x0, .owner, [⟨0, 2, .rw, 0x2⟩, ⟨8, 5, .rw, 0xC⟩, ⟨13, 5, .rw, 0x4⟩]⟩
/-- DMC_STAT -/
def regRowDMC_STAT : RegRow := ⟨0x108, 1, 0x0, .nobody, [⟨0, 1, .ro, 0x0⟩, ⟨1, 1, .ro, 0x0⟩, ⟨2, 1, .ro, 0x0⟩, ⟨3, 1, .ro, 0x0⟩, ⟨4, 2, .ro, 0x0⟩, ⟨6, 8, .ro, 0x0⟩]⟩
/-- DMC_REF -/
def regRowDMC_REF : RegRow := ⟨0x110, 1, 0x0, .owner, [⟨0, 1, .rw, 0x0⟩]⟩
/-- DMC_RT -/
def regRowDMC_RT : RegRow := ⟨0x118, 1, 0x0, .owner, [⟨0, 16, .rw, 0x3E8⟩, ⟨16, 8, .rw, 0x14⟩]⟩
/-- DMC_SCRUB -/
def regRowDMC_SCRUB : RegRow := ⟨0x120, 1, 0x0, .owner, [⟨0, 8, .rw, 0x18⟩]⟩
/-- DMC_CE_THR -/
def regRowDMC_CE_THR : RegRow := ⟨0x128, 1, 0x0, .owner, [⟨0, 16, .rw, 0x100⟩, ⟨16, 16, .rw, 0xE10⟩]⟩
/-- DMC_COLCNT -/
def regRowDMC_COLCNT : RegRow := ⟨0x400, 64, 0x8, .nobody, [⟨0, 5, .ro, 0x0⟩, ⟨8, 5, .ro, 0x0⟩, ⟨16, 5, .ro, 0x0⟩, ⟨24, 5, .ro, 0x0⟩]⟩
/-- PCIE_CFG -/
def regRowPCIE_CFG : RegRow := ⟨0x100, 1, 0x0, .owner, [⟨0, 2, .rw, 0x0⟩, ⟨2, 1, .rw, 0x0⟩]⟩
/-- PCIE_MSI -/
def regRowPCIE_MSI : RegRow := ⟨0x108, 1, 0x0, .owner, [⟨20, 32, .rw, 0xFEE⟩]⟩
/-- IOM_RTE -/
def regRowIOM_RTE : RegRow := ⟨0x100, 64, 0x20, .platHOrW, [⟨0, 16, .rw, 0x0⟩, ⟨16, 16, .rw, 0xFFFF⟩, ⟨32, 8, .rw, 0xFF⟩, ⟨40, 1, .rw, 0x0⟩, ⟨41, 1, .rw, 0x0⟩, ⟨42, 1, .rw, 0x0⟩, ⟨48, 16, .rw, 0x0⟩]⟩
/-- IOM_S1 -/
def regRowIOM_S1 : RegRow := ⟨0x108, 64, 0x20, .attrHOrW, [⟨0, 1, .rw, 0x0⟩, ⟨12, 40, .rw, 0x0⟩]⟩
/-- IOM_S2 -/
def regRowIOM_S2 : RegRow := ⟨0x110, 64, 0x20, .attrHOrW, [⟨0, 1, .rw, 0x0⟩, ⟨7, 45, .rw, 0x0⟩]⟩
/-- IOM_VEC -/
def regRowIOM_VEC : RegRow := ⟨0x118, 64, 0x20, .attrHOrW, [⟨0, 13, .rw, 0x0⟩, ⟨13, 1, .rw, 0x0⟩, ⟨16, 13, .rw, 0x0⟩, ⟨29, 1, .rw, 0x0⟩]⟩
/-- IOM_INV -/
def regRowIOM_INV : RegRow := ⟨0x900, 1, 0x0, .special, [⟨0, 2, .rw, 0x0⟩, ⟨2, 6, .rw, 0x0⟩, ⟨8, 1, .wo, 0x0⟩, ⟨12, 52, .rw, 0x0⟩]⟩
/-- IOM_INV_STAT -/
def regRowIOM_INV_STAT : RegRow := ⟨0x908, 1, 0x0, .nobody, [⟨0, 2, .ro, 0x0⟩]⟩
/-- IOM_PRGR -/
def regRowIOM_PRGR : RegRow := ⟨0x910, 1, 0x0, .special, [⟨0, 16, .wo, 0x0⟩, ⟨16, 9, .wo, 0x0⟩, ⟨25, 2, .wo, 0x0⟩]⟩
/-- DMA_ATTR -/
def regRowDMA_ATTR : RegRow := ⟨0x100, 1, 0x0, .platHOrW, [⟨0, 8, .rw, 0xFF⟩]⟩
/-- DMA_CTL -/
def regRowDMA_CTL : RegRow := ⟨0x108, 1, 0x0, .attrHOrW, [⟨0, 18, .rw, 0x0⟩, ⟨18, 1, .rw, 0x0⟩, ⟨19, 1, .rw, 0x1⟩, ⟨20, 1, .rw, 0x0⟩, ⟨24, 4, .rw, 0x4⟩]⟩
/-- DMA_XLAT -/
def regRowDMA_XLAT : RegRow := ⟨0x110, 1, 0x0, .attrHOrW, [⟨0, 1, .rw, 0x0⟩, ⟨7, 45, .rw, 0x0⟩]⟩
/-- DMA_STAT -/
def regRowDMA_STAT : RegRow := ⟨0x118, 1, 0x0, .nobody, [⟨0, 2, .ro, 0x0⟩, ⟨2, 18, .ro, 0x0⟩]⟩
/-- IRT -/
def regRowIRT : RegRow := ⟨0x800, 256, 0x8, .platHOrW, [⟨0, 8, .rw, 0xFF⟩, ⟨8, 1, .rw, 0x0⟩, ⟨9, 1, .rw, 0x0⟩, ⟨10, 6, .rw, 0x3F⟩, ⟨16, 7, .rw, 0x0⟩, ⟨23, 4, .rw, 0x0⟩, ⟨28, 18, .rw, 0x0⟩, ⟨48, 16, .ro, 0x0⟩]⟩
/-- IRR_STAT -/
def regRowIRR_STAT : RegRow := ⟨0x100, 1, 0x0, .nobody, [⟨0, 16, .ro, 0x0⟩, ⟨16, 11, .ro, 0x0⟩]⟩
/-- GPIO_PIN -/
def regRowGPIO_PIN : RegRow := ⟨0x100, 16, 0x8, .special, [⟨0, 8, .rw, 0xFF⟩, ⟨8, 1, .rw, 0x0⟩, ⟨9, 1, .rw, 0x0⟩, ⟨10, 1, .ro, 0x0⟩, ⟨11, 2, .rw, 0x0⟩, ⟨16, 13, .rw, 0x0⟩]⟩
/-- FABG_NODE -/
def regRowFABG_NODE : RegRow := ⟨0x100, 1, 0x0, .owner, [⟨0, 18, .rw, 0x0⟩, ⟨18, 3, .rw, 0x7⟩, ⟨21, 3, .rw, 0x7⟩, ⟨24, 1, .rw, 0x0⟩, ⟨25, 1, .rw, 0x0⟩, ⟨26, 18, .rw, 0x0⟩]⟩
/-- FABG_SUB -/
def regRowFABG_SUB : RegRow := ⟨0x108, 6, 0x8, .owner, [⟨0, 18, .rw, 0x0⟩, ⟨20, 18, .rw, 0x0⟩, ⟨38, 1, .rw, 0x0⟩, ⟨39, 1, .rw, 0x0⟩]⟩
/-- FABG_SYNC -/
def regRowFABG_SYNC : RegRow := ⟨0x140, 1, 0x0, .owner, [⟨0, 1, .rw, 0x0⟩, ⟨1, 2, .ro, 0x0⟩, ⟨16, 16, .rw, 0x3E8⟩, ⟨32, 32, .ro, 0x0⟩]⟩
/-- FABG_CTL -/
def regRowFABG_CTL : RegRow := ⟨0x148, 1, 0x0, .w, [⟨0, 1, .rw, 0x0⟩, ⟨1, 1, .wo, 0x0⟩]⟩
/-- FABG_RSTKEY -/
def regRowFABG_RSTKEY : RegRow := ⟨0x150, 1, 0x0, .w, [⟨0, 64, .wo, 0x0⟩]⟩
/-- FABG_GRP -/
def regRowFABG_GRP : RegRow := ⟨0x400, 64, 0x8, .platHOrW, [⟨0, 16, .rw, 0x0⟩, ⟨16, 6, .rw, 0x0⟩, ⟨22, 1, .rw, 0x0⟩, ⟨23, 6, .rw, 0x0⟩, ⟨29, 1, .rw, 0x0⟩, ⟨30, 1, .rw, 0x0⟩, ⟨31, 18, .rw, 0x0⟩]⟩
/-- FAB_PORT_CTL -/
def regRowFAB_PORT_CTL : RegRow := ⟨0x100, 1, 0x0, .owner, [⟨0, 1, .rw, 0x0⟩, ⟨1, 1, .wo, 0x0⟩, ⟨2, 1, .wo, 0x0⟩, ⟨3, 2, .rw, 0x0⟩, ⟨5, 1, .rw, 0x0⟩]⟩
/-- FAB_PORT_STAT -/
def regRowFAB_PORT_STAT : RegRow := ⟨0x108, 1, 0x0, .nobody, [⟨0, 3, .ro, 0x0⟩, ⟨3, 2, .ro, 0x0⟩, ⟨16, 16, .ro, 0x0⟩, ⟨32, 16, .ro, 0x0⟩, ⟨48, 16, .ro, 0x0⟩]⟩
/-- FXC_ACC -/
def regRowFXC_ACC : RegRow := ⟨0x100, 1, 0x0, .platHOrW, [⟨0, 16, .rw, 0x0⟩, ⟨16, 1, .rw, 0x0⟩]⟩
/-- FXC_RING -/
def regRowFXC_RING : RegRow := ⟨0x108, 1, 0x0, .ownerHOrW, [⟨0, 5, .rw, 0x0⟩, ⟨18, 34, .rw, 0x0⟩]⟩
/-- FXC_TAIL -/
def regRowFXC_TAIL : RegRow := ⟨0x110, 1, 0x0, .owner, [⟨0, 32, .rw, 0x0⟩]⟩
/-- FXC_HEAD -/
def regRowFXC_HEAD : RegRow := ⟨0x118, 1, 0x0, .nobody, [⟨0, 32, .ro, 0x0⟩]⟩
/-- FXC_XLAT -/
def regRowFXC_XLAT : RegRow := ⟨0x120, 1, 0x0, .ownerHOrW, [⟨0, 1, .rw, 0x0⟩, ⟨7, 45, .rw, 0x0⟩]⟩
/-- FXC_WIN_CTL -/
def regRowFXC_WIN_CTL : RegRow := ⟨0x200, 16, 0x20, .ownerHOrW, [⟨0, 1, .rw, 0x0⟩, ⟨1, 1, .rw, 0x0⟩, ⟨2, 1, .rw, 0x0⟩, ⟨18, 34, .rw, 0x0⟩]⟩
/-- FXC_WIN_SIZE -/
def regRowFXC_WIN_SIZE : RegRow := ⟨0x208, 16, 0x20, .ownerHOrW, [⟨0, 40, .rw, 0x0⟩, ⟨40, 16, .rw, 0x0⟩]⟩
/-- FXC_WIN_KEY -/
def regRowFXC_WIN_KEY : RegRow := ⟨0x210, 16, 0x20, .ownerHOrW, [⟨0, 64, .wo, 0x0⟩]⟩
/-- PWC_DEV_REQ -/
def regRowPWC_DEV_REQ : RegRow := ⟨0x100, 1, 0x0, .owner, [⟨0, 3, .rw, 0x0⟩, ⟨3, 1, .wo, 0x0⟩, ⟨16, 16, .rw, 0x3E8⟩]⟩
/-- PWC_DEV_STAT -/
def regRowPWC_DEV_STAT : RegRow := ⟨0x108, 1, 0x0, .nobody, [⟨0, 3, .ro, 0x0⟩, ⟨3, 3, .ro, 0x0⟩, ⟨6, 4, .ro, 0x0⟩, ⟨32, 12, .ro, 0x0⟩]⟩
/-- PWC_REFUSALS -/
def regRowPWC_REFUSALS : RegRow := ⟨0x110, 1, 0x0, .nobody, [⟨0, 32, .ro, 0x0⟩]⟩
/-- PWC_ISL -/
def regRowPWC_ISL : RegRow := ⟨0x400, 136, 0x8, .nobody, [⟨0, 3, .ro, 0x0⟩, ⟨3, 1, .ro, 0x0⟩, ⟨4, 1, .ro, 0x0⟩, ⟨16, 12, .ro, 0x0⟩, ⟨28, 4, .ro, 0x0⟩, ⟨32, 32, .ro, 0x0⟩]⟩
/-- RMT_LIM -/
def regRowRMT_LIM : RegRow := ⟨0x100, 1, 0x0, .owner, [⟨0, 12, .rw, 0xD02⟩, ⟨16, 12, .rw, 0x578⟩, ⟨32, 6, .rw, 0x28⟩]⟩
/-- RMT_CTL -/
def regRowRMT_CTL : RegRow := ⟨0x108, 1, 0x0, .owner, [⟨0, 8, .rw, 0xA⟩]⟩
/-- RMT_STAT -/
def regRowRMT_STAT : RegRow := ⟨0x110, 1, 0x0, .nobody, [⟨0, 12, .ro, 0x0⟩, ⟨12, 12, .ro, 0x0⟩]⟩
/-- RMT_POOL -/
def regRowRMT_POOL : RegRow := ⟨0x400, 64, 0x8, .owner, [⟨0, 12, .rw, 0x0⟩, ⟨12, 12, .ro, 0x0⟩, ⟨24, 16, .ro, 0x0⟩]⟩
/-- IDX_CLB -/
def regRowIDX_CLB : RegRow := ⟨0x400, 96, 0x8, .special, [⟨0, 5, .rw, 0x0⟩, ⟨5, 5, .rw, 0x17⟩, ⟨10, 1, .rw, 0x0⟩, ⟨16, 16, .rw, 0x3E8⟩, ⟨32, 5, .ro, 0x12⟩]⟩
/-- IDX_THERM -/
def regRowIDX_THERM : RegRow := ⟨0x100, 1, 0x0, .owner, [⟨0, 8, .rw, 0x62⟩, ⟨8, 8, .ro, 0x0⟩, ⟨16, 2, .ro, 0x0⟩]⟩
/-- IDX_LOG -/
def regRowIDX_LOG : RegRow := ⟨0x108, 1, 0x0, .owner, [⟨0, 5, .rw, 0xC⟩, ⟨18, 34, .rw, 0x0⟩]⟩
/-- IDX_LOG_HEAD -/
def regRowIDX_LOG_HEAD : RegRow := ⟨0x110, 1, 0x0, .nobody, [⟨0, 32, .ro, 0x0⟩]⟩
/-- IDX_STAT -/
def regRowIDX_STAT : RegRow := ⟨0x118, 1, 0x0, .nobody, [⟨0, 4, .ro, 0x0⟩]⟩
/-- ANN_HEAD -/
def regRowANN_HEAD : RegRow := ⟨0x100, 1, 0x0, .nobody, [⟨0, 32, .ro, 0x0⟩]⟩
/-- ANN_START -/
def regRowANN_START : RegRow := ⟨0x200, 16, 0x20, .nobody, [⟨0, 64, .ro, 0x0⟩]⟩
/-- ANN_END -/
def regRowANN_END : RegRow := ⟨0x208, 16, 0x20, .nobody, [⟨0, 64, .ro, 0x0⟩]⟩
/-- ANN_KIND -/
def regRowANN_KIND : RegRow := ⟨0x210, 16, 0x20, .nobody, [⟨0, 8, .ro, 0x0⟩, ⟨8, 8, .ro, 0x0⟩]⟩
/-- RST_REQ -/
def regRowRST_REQ : RegRow := ⟨0x100, 1, 0x0, .special, [⟨0, 3, .rw, 0x0⟩, ⟨3, 7, .rw, 0x0⟩, ⟨10, 4, .rw, 0x0⟩, ⟨14, 12, .rw, 0x0⟩, ⟨26, 1, .wo, 0x0⟩]⟩
/-- RST_STAT -/
def regRowRST_STAT : RegRow := ⟨0x108, 1, 0x0, .nobody, [⟨0, 2, .ro, 0x0⟩, ⟨2, 3, .ro, 0x0⟩]⟩
/-- RST_CFG -/
def regRowRST_CFG : RegRow := ⟨0x110, 1, 0x0, .w, [⟨0, 1, .rw, 0x0⟩]⟩
/-- RST_WAKE -/
def regRowRST_WAKE : RegRow := ⟨0x118, 1, 0x0, .nobody, [⟨0, 3, .ro, 0x0⟩, ⟨4, 4, .ro, 0x0⟩, ⟨8, 8, .ro, 0x0⟩, ⟨16, 8, .ro, 0x0⟩, ⟨24, 2, .ro, 0x0⟩, ⟨26, 2, .ro, 0x0⟩, ⟨48, 16, .ro, 0x0⟩]⟩
/-- RST_HOV_CTL -/
def regRowRST_HOV_CTL : RegRow := ⟨0x120, 1, 0x0, .boot, [⟨0, 6, .rw, 0x1⟩, ⟨6, 7, .rw, 0x0⟩, ⟨18, 34, .rw, 0x0⟩, ⟨52, 1, .wo, 0x0⟩]⟩
/-- RST_HOV_PC -/
def regRowRST_HOV_PC : RegRow := ⟨0x128, 1, 0x0, .boot, [⟨1, 63, .rw, 0x0⟩]⟩
/-- RST_ARB -/
def regRowRST_ARB : RegRow := ⟨0x208, 4, 0x8, .w, [⟨0, 32, .rw, 0x0⟩]⟩
/-- TBC_SET -/
def regRowTBC_SET : RegRow := ⟨0x100, 1, 0x0, .owner, [⟨0, 64, .wo, 0x0⟩]⟩
/-- TBC_SLEW -/
def regRowTBC_SLEW : RegRow := ⟨0x108, 1, 0x0, .owner, [⟨0, 24, .rw, 0x0⟩]⟩
/-- TBC_STAT -/
def regRowTBC_STAT : RegRow := ⟨0x110, 1, 0x0, .owner, [⟨0, 2, .ro, 0x0⟩, ⟨2, 1, .w1c, 0x0⟩]⟩
/-- ERRLOG_HEAD -/
def regRowERRLOG_HEAD : RegRow := ⟨0x300, 1, 0x0, .nobody, [⟨0, 32, .ro, 0x0⟩]⟩
/-- ERRLOG_ADDR -/
def regRowERRLOG_ADDR : RegRow := ⟨0x400, 16, 0x20, .nobody, [⟨0, 64, .ro, 0x0⟩]⟩
/-- ERRLOG_INFO -/
def regRowERRLOG_INFO : RegRow := ⟨0x408, 16, 0x20, .nobody, [⟨0, 64, .ro, 0x0⟩]⟩
/-- ERRLOG_TB -/
def regRowERRLOG_TB : RegRow := ⟨0x410, 16, 0x20, .nobody, [⟨0, 64, .ro, 0x0⟩]⟩
/-- ERRLOG_W3 -/
def regRowERRLOG_W3 : RegRow := ⟨0x418, 16, 0x20, .nobody, [⟨0, 4, .ro, 0x0⟩, ⟨4, 3, .ro, 0x0⟩, ⟨7, 1, .ro, 0x0⟩, ⟨8, 6, .ro, 0x0⟩, ⟨14, 4, .ro, 0x0⟩]⟩
/-- IST_REQ -/
def regRowIST_REQ : RegRow := ⟨0x100, 1, 0x0, .special, [⟨0, 2, .rw, 0x0⟩, ⟨2, 7, .rw, 0x0⟩, ⟨9, 3, .rw, 0x7⟩, ⟨12, 1, .wo, 0x0⟩, ⟨16, 16, .rw, 0x3E8⟩]⟩
/-- IST_STAT -/
def regRowIST_STAT : RegRow := ⟨0x108, 1, 0x0, .nobody, [⟨0, 4, .ro, 0x0⟩, ⟨8, 8, .ro, 0x0⟩, ⟨16, 16, .ro, 0x0⟩, ⟨32, 32, .ro, 0x0⟩]⟩
/-- IST_DTM -/
def regRowIST_DTM : RegRow := ⟨0x110, 1, 0x0, .nobody, [⟨0, 8, .ro, 0x0⟩, ⟨8, 1, .ro, 0x0⟩]⟩
/-- UPT_SRC -/
def regRowUPT_SRC : RegRow := ⟨0x100, 1, 0x0, .owner, [⟨18, 34, .rw, 0x0⟩]⟩
/-- UPT_CTL -/
def regRowUPT_CTL : RegRow := ⟨0x108, 1, 0x0, .owner, [⟨0, 1, .wo, 0x0⟩, ⟨1, 1, .wo, 0x0⟩]⟩
/-- UPT_APPLY -/
def regRowUPT_APPLY : RegRow := ⟨0x110, 1, 0x0, .special, [⟨0, 1, .rw, 0x0⟩, ⟨1, 7, .rw, 0x0⟩, ⟨8, 1, .wo, 0x0⟩, ⟨16, 16, .rw, 0x3E8⟩]⟩
/-- UPT_STAT -/
def regRowUPT_STAT : RegRow := ⟨0x118, 1, 0x0, .nobody, [⟨0, 4, .ro, 0x0⟩, ⟨8, 8, .ro, 0x0⟩, ⟨16, 16, .ro, 0x0⟩]⟩
/-- UPT_VER -/
def regRowUPT_VER : RegRow := ⟨0x120, 1, 0x0, .nobody, [⟨0, 32, .ro, 0x0⟩, ⟨32, 32, .ro, 0x0⟩]⟩
/-- USQ_PATCH_STAT -/
def regRowUSQ_PATCH_STAT : RegRow := ⟨0x100, 1, 0x0, .nobody, [⟨0, 32, .ro, 0x0⟩, ⟨32, 11, .ro, 0x0⟩, ⟨43, 6, .ro, 0x0⟩, ⟨49, 1, .ro, 0x0⟩]⟩
/-- USQ_TRC_CTL -/
def regRowUSQ_TRC_CTL : RegRow := ⟨0x108, 1, 0x0, .ownerHOrW, [⟨0, 1, .rw, 0x0⟩, ⟨1, 8, .rw, 0x0⟩, ⟨9, 1, .rw, 0x0⟩, ⟨16, 32, .ro, 0x0⟩]⟩
/-- USQ_TRC -/
def regRowUSQ_TRC : RegRow := ⟨0x600, 16, 0x8, .nobody, [⟨0, 13, .ro, 0x0⟩, ⟨13, 1, .ro, 0x0⟩, ⟨14, 8, .ro, 0x0⟩, ⟨32, 32, .ro, 0x0⟩]⟩
/-- DMC_SEQ_STAT -/
def regRowDMC_SEQ_STAT : RegRow := ⟨0x130, 1, 0x0, .nobody, [⟨0, 32, .ro, 0x0⟩, ⟨32, 1, .ro, 0x0⟩]⟩
/-- ATL_HEAD -/
def regRowATL_HEAD : RegRow := ⟨0x100, 1, 0x0, .nobody, [⟨0, 32, .ro, 0x0⟩]⟩
/-- ATL_ADDR -/
def regRowATL_ADDR : RegRow := ⟨0x400, 16, 0x20, .nobody, [⟨0, 64, .ro, 0x0⟩]⟩
/-- ATL_INFO -/
def regRowATL_INFO : RegRow := ⟨0x408, 16, 0x20, .nobody, [⟨0, 3, .ro, 0x0⟩, ⟨3, 1, .ro, 0x0⟩, ⟨4, 6, .ro, 0x0⟩, ⟨10, 1, .ro, 0x0⟩, ⟨11, 2, .ro, 0x0⟩, ⟨13, 7, .ro, 0x0⟩, ⟨20, 4, .ro, 0x0⟩, ⟨24, 13, .ro, 0x0⟩]⟩
/-- ATL_TB -/
def regRowATL_TB : RegRow := ⟨0x410, 16, 0x20, .nobody, [⟨0, 64, .ro, 0x0⟩]⟩
/-- DEV_IDENT -/
def regRowDEV_IDENT : RegRow := ⟨0x100, 1, 0x0, .nobody, [⟨0, 8, .ro, 0xB1⟩, ⟨8, 4, .ro, 0x1⟩, ⟨16, 16, .ro, 0x1536⟩]⟩
/-- DEV_UID -/
def regRowDEV_UID : RegRow := ⟨0x108, 1, 0x0, .nobody, [⟨0, 64, .ro, 0x0⟩]⟩
/-- BLK_ID -/
def regRowBLK_ID : RegRow := ⟨0x0, 1, 0x0, .nobody, [⟨0, 12, .ro, 0x0⟩, ⟨12, 8, .ro, 0x0⟩, ⟨20, 1, .ro, 0x0⟩, ⟨24, 8, .ro, 0x1⟩]⟩
/-- BLK_CAP -/
def regRowBLK_CAP : RegRow := ⟨0x8, 1, 0x0, .nobody, [⟨0, 1, .ro, 0x0⟩, ⟨1, 4, .ro, 0x0⟩]⟩
/-- BLK_CTRL -/
def regRowBLK_CTRL : RegRow := ⟨0x10, 1, 0x0, .owner, []⟩
/-- BLK_STAT -/
def regRowBLK_STAT : RegRow := ⟨0x18, 1, 0x0, .nobody, [⟨0, 1, .ro, 0x1⟩]⟩
/-- BLK_OWNER -/
def regRowBLK_OWNER : RegRow := ⟨0x20, 1, 0x0, .special, [⟨0, 6, .rw, 0x3F⟩, ⟨6, 1, .rw, 0x1⟩, ⟨7, 1, .rw, 0x0⟩]⟩
/-- BLK_PWR -/
def regRowBLK_PWR : RegRow := ⟨0x28, 1, 0x0, .special, [⟨0, 3, .rw, 0x0⟩, ⟨3, 1, .rw, 0x0⟩, ⟨4, 3, .ro, 0x0⟩, ⟨7, 1, .ro, 0x0⟩, ⟨8, 4, .ro, 0x0⟩, ⟨32, 32, .ro, 0x0⟩]⟩
/-- IRQ_STAT -/
def regRowIRQ_STAT : RegRow := ⟨0x40, 1, 0x0, .owner, [⟨0, 63, .w1c, 0x0⟩, ⟨63, 1, .w1c, 0x0⟩]⟩
/-- IRQ_EN -/
def regRowIRQ_EN : RegRow := ⟨0x48, 1, 0x0, .owner, [⟨0, 64, .rw, 0x0⟩]⟩
/-- IRQ_SET -/
def regRowIRQ_SET : RegRow := ⟨0x50, 1, 0x0, .owner, [⟨0, 64, .wo, 0x0⟩]⟩
/-- IRQ_ROUTE -/
def regRowIRQ_ROUTE : RegRow := ⟨0x58, 1, 0x0, .owner, [⟨0, 13, .rw, 0x0⟩, ⟨13, 1, .rw, 0x0⟩]⟩
/-- ERR_STAT -/
def regRowERR_STAT : RegRow := ⟨0x80, 1, 0x0, .owner, [⟨0, 1, .w1c, 0x0⟩, ⟨1, 1, .w1c, 0x0⟩, ⟨2, 1, .w1c, 0x0⟩, ⟨3, 1, .w1c, 0x0⟩, ⟨4, 3, .ro, 0x0⟩]⟩
/-- ERR_COUNT -/
def regRowERR_COUNT : RegRow := ⟨0x98, 1, 0x0, .nobody, [⟨0, 16, .ro, 0x0⟩, ⟨16, 16, .ro, 0x0⟩]⟩
/-- ERR_INJECT -/
def regRowERR_INJECT : RegRow := ⟨0xA0, 1, 0x0, .ownerOrW, [⟨0, 2, .rw, 0x0⟩, ⟨2, 6, .rw, 0x0⟩, ⟨8, 1, .w1s, 0x0⟩]⟩
/-- ERR_ADDR -/
def regRowERR_ADDR : RegRow := ⟨0x88, 1, 0x0, .nobody, [⟨0, 64, .ro, 0x0⟩]⟩
/-- ERR_INFO -/
def regRowERR_INFO : RegRow := ⟨0x90, 1, 0x0, .nobody, [⟨0, 64, .ro, 0x0⟩]⟩
/-- BLK_FREEZE -/
def regRowBLK_FREEZE : RegRow := ⟨0x30, 1, 0x0, .owner, [⟨0, 1, .rw, 0x0⟩, ⟨1, 1, .ro, 0x0⟩, ⟨2, 1, .ro, 0x1⟩]⟩
/-- ARB_CTL -/
def regRowARB_CTL : RegRow := ⟨0x800, 1, 0x0, .owner, [⟨0, 16, .rw, 0x0⟩, ⟨16, 16, .rw, 0x40⟩, ⟨32, 1, .rw, 0x1⟩]⟩
/-- ARB_HOG -/
def regRowARB_HOG : RegRow := ⟨0x808, 1, 0x0, .owner, [⟨0, 32, .w1c, 0x0⟩, ⟨32, 5, .ro, 0x0⟩]⟩
/-- ARB_REQ -/
def regRowARB_REQ : RegRow := ⟨0x810, 1, 0x0, .nobody, [⟨0, 32, .ro, 0x0⟩, ⟨32, 5, .ro, 0x0⟩, ⟨37, 1, .ro, 0x0⟩]⟩
/-- ARB_TURN -/
def regRowARB_TURN : RegRow := ⟨0x818, 2, 0x8, .nobody, [⟨0, 4, .ro, 0x0⟩, ⟨4, 4, .ro, 0x0⟩, ⟨8, 4, .ro, 0x0⟩, ⟨12, 4, .ro, 0x0⟩, ⟨16, 4, .ro, 0x0⟩, ⟨20, 4, .ro, 0x0⟩, ⟨24, 4, .ro, 0x0⟩, ⟨28, 4, .ro, 0x0⟩, ⟨32, 4, .ro, 0x0⟩, ⟨36, 4, .ro, 0x0⟩, ⟨40, 4, .ro, 0x0⟩, ⟨44, 4, .ro, 0x0⟩, ⟨48, 4, .ro, 0x0⟩, ⟨52, 4, .ro, 0x0⟩, ⟨56, 4, .ro, 0x0⟩, ⟨60, 4, .ro, 0x0⟩]⟩
/-- ARB_PRIO -/
def regRowARB_PRIO : RegRow := ⟨0x880, 2, 0x8, .owner, [⟨0, 4, .rw, 0x8⟩, ⟨4, 4, .rw, 0x8⟩, ⟨8, 4, .rw, 0x8⟩, ⟨12, 4, .rw, 0x8⟩, ⟨16, 4, .rw, 0x8⟩, ⟨20, 4, .rw, 0x8⟩, ⟨24, 4, .rw, 0x8⟩, ⟨28, 4, .rw, 0x8⟩, ⟨32, 4, .rw, 0x8⟩, ⟨36, 4, .rw, 0x8⟩, ⟨40, 4, .rw, 0x8⟩, ⟨44, 4, .rw, 0x8⟩, ⟨48, 4, .rw, 0x8⟩, ⟨52, 4, .rw, 0x8⟩, ⟨56, 4, .rw, 0x8⟩, ⟨60, 4, .rw, 0x8⟩]⟩
/-- LG_PUBKEY -/
def regRowLG_PUBKEY : RegRow := ⟨0x200, 12, 0x8, .nobody, [⟨0, 64, .ro, 0x0⟩]⟩
/-- LG_CERT -/
def regRowLG_CERT : RegRow := ⟨0x800, 256, 0x8, .nobody, [⟨0, 64, .ro, 0x0⟩]⟩

/-- The registers common to every block page (R490, R492, R466). -/
def commonRows : List RegRow := [regRowBLK_ID, regRowBLK_CAP, regRowBLK_CTRL, regRowBLK_STAT, regRowBLK_OWNER, regRowBLK_PWR, regRowIRQ_STAT, regRowIRQ_EN, regRowIRQ_SET, regRowIRQ_ROUTE, regRowERR_STAT, regRowERR_COUNT, regRowERR_INJECT, regRowERR_ADDR, regRowERR_INFO]
/-- The registers of an arbitrating page (R283). -/
def arbRows : List RegRow := [regRowBLK_FREEZE, regRowARB_CTL, regRowARB_HOG, regRowARB_REQ, regRowARB_TURN, regRowARB_PRIO]
/-- A block's own registers, from its chapter. -/
def Blk.rows : Blk → List RegRow
  | .dev => [regRowDEV_IDENT, regRowDEV_UID]
  | .pwc => [regRowPWC_DEV_REQ, regRowPWC_DEV_STAT, regRowPWC_REFUSALS, regRowPWC_ISL]
  | .rst => [regRowRST_REQ, regRowRST_STAT, regRowRST_CFG, regRowRST_WAKE, regRowRST_HOV_CTL, regRowRST_HOV_PC, regRowRST_ARB]
  | .tbc => [regRowTBC_SET, regRowTBC_SLEW, regRowTBC_STAT]
  | .swd => [regRowSWD_CTL, regRowSWD_P1, regRowSWD_P2, regRowSWD_KICK, regRowSWD_STAT]
  | .gpio => [regRowGPIO_PIN]
  | .atl => [regRowATL_HEAD, regRowATL_ADDR, regRowATL_INFO, regRowATL_TB]
  | .wdn => [regRowWDN_CTL, regRowWDN_WSEL, regRowWDN_STAT, regRowWDN_DENY, regRowWDN_LOAD, regRowWDN_WRES, regRowWDN_WRPL]
  | .lg => [regRowLG_CTL, regRowLG_STAT, regRowLG_SEQ_NEW, regRowLG_SEQ_EXP, regRowLG_WIND, regRowLG_LOSS, regRowLG_LIVE, regRowLG_EXP, regRowLG_EXP_CTL, regRowLG_EXP_STAT, regRowLG_PUBKEY, regRowLG_CERT]
  | .upt => [regRowUPT_SRC, regRowUPT_CTL, regRowUPT_APPLY, regRowUPT_STAT, regRowUPT_VER]
  | .rmt => [regRowRMT_LIM, regRowRMT_CTL, regRowRMT_STAT, regRowRMT_POOL]
  | .idx => [regRowIDX_CLB, regRowIDX_THERM, regRowIDX_LOG, regRowIDX_LOG_HEAD, regRowIDX_STAT]
  | .cmt => [regRowCMT_CLUSTER, regRowCMT_BAND, regRowCMT_COLOR]
  | .l3bm => [regRowL3BM_FLUSH, regRowL3BM_FLUSH_STAT]
  | .dmg => [regRowDMG_CFG, regRowDMG_TOP, regRowDMG_PHASE, regRowDMG_CHMAP, regRowDMG_SPARE_CTL, regRowDMG_SPARE_STAT]
  | .fabg => [regRowFABG_NODE, regRowFABG_SUB, regRowFABG_SYNC, regRowFABG_CTL, regRowFABG_RSTKEY, regRowFABG_GRP]
  | .hub => []
  | .pcie => [regRowPCIE_CFG, regRowPCIE_MSI]
  | .iom => [regRowIOM_RTE, regRowIOM_S1, regRowIOM_S2, regRowIOM_VEC, regRowIOM_INV, regRowIOM_INV_STAT, regRowIOM_PRGR]
  | .fab => [regRowFAB_PORT_CTL, regRowFAB_PORT_STAT]
  | .mesh => []
  | .dmc => [regRowDMC_CTL, regRowDMC_STAT, regRowDMC_REF, regRowDMC_RT, regRowDMC_SCRUB, regRowDMC_CE_THR, regRowDMC_COLCNT, regRowDMC_SEQ_STAT]
  | .irr => [regRowIRT, regRowIRR_STAT]
  | .dma => [regRowDMA_ATTR, regRowDMA_CTL, regRowDMA_XLAT, regRowDMA_STAT]
  | .l3s => [regRowL3S_WAYS, regRowL3S_CE_THR, regRowL3S_SPARE_CTL, regRowL3S_SPARE_STAT]
  | .dsp => [regRowDSP_HOME, regRowDSP_STAT, regRowDSP_QFAULT, regRowDSP_PARK, regRowDSP_STEALS, regRowDSP_BROKEN]
  | .l2c => arbRows ++ [regRowL2C_PF, regRowL2C_STAT]
  | .usq => arbRows ++ [regRowERRLOG_HEAD, regRowERRLOG_ADDR, regRowERRLOG_INFO, regRowERRLOG_TB, regRowERRLOG_W3, regRowUSQ_PATCH_STAT, regRowUSQ_TRC_CTL, regRowUSQ_TRC]
  | .cii => [regRowCII_PEND, regRowCII_SET, regRowCII_EN, regRowCII_LVL, regRowCII_STAT]
  | .cmp => [regRowCMP_STEER, regRowCMP_CTL, regRowCMP_STAT, regRowCMP_DTM, regRowCMP_BAR_CTL]
  | .bar => [regRowBAR_ARRIVE, regRowBAR_GEN]
  | .qm => [regRowQM_RANGE, regRowQM_DTB, regRowQM_STEAL]
  | .ist => [regRowIST_REQ, regRowIST_STAT, regRowIST_DTM]
  | .fxc => [regRowFXC_ACC, regRowFXC_RING, regRowFXC_TAIL, regRowFXC_HEAD, regRowFXC_XLAT, regRowFXC_WIN_CTL, regRowFXC_WIN_SIZE, regRowFXC_WIN_KEY]
  | .ann => [regRowANN_HEAD, regRowANN_START, regRowANN_END, regRowANN_KIND]
  | .bwMesh => [regRowBEAT_MAP, regRowBW_STAT]
  | .bwL3s => [regRowBEAT_MAP, regRowBW_STAT]
  | .bwD2d => [regRowBEAT_MAP, regRowBW_STAT]
  | .bwDram => [regRowBEAT_MAP, regRowBW_STAT]
  | .bwHub => [regRowBEAT_MAP, regRowBW_STAT]
  | .dmaa => arbRows
  | .pcoa => arbRows

/-! Keys of the registers, by instance. -/
/-- CII_PEND. -/
def Reg.CII_PEND (n : Nat) (i : Nat) : Nat := regKey (0x220 + n) (0x100 + 0x40 * i)
/-- CII_SET. -/
def Reg.CII_SET (n : Nat) (i : Nat) : Nat := regKey (0x220 + n) (0x108 + 0x40 * i)
/-- CII_EN. -/
def Reg.CII_EN (n : Nat) (i : Nat) : Nat := regKey (0x220 + n) (0x110 + 0x40 * i)
/-- CII_LVL. -/
def Reg.CII_LVL (n : Nat) (i : Nat) : Nat := regKey (0x220 + n) (0x118 + 0x40 * i)
/-- CII_STAT. -/
def Reg.CII_STAT (n : Nat) (i : Nat) : Nat := regKey (0x220 + n) (0x120 + 0x40 * i)
/-- L2C_PF. -/
def Reg.L2C_PF (n : Nat) : Nat := regKey (0x160 + n) (0x100)
/-- L2C_STAT. -/
def Reg.L2C_STAT (n : Nat) : Nat := regKey (0x160 + n) (0x108)
/-- L3S_WAYS. -/
def Reg.L3S_WAYS (n : Nat) : Nat := regKey (0xC0 + n) (0x100)
/-- L3S_CE_THR. -/
def Reg.L3S_CE_THR (n : Nat) : Nat := regKey (0xC0 + n) (0x108)
/-- L3S_SPARE_CTL. -/
def Reg.L3S_SPARE_CTL (n : Nat) : Nat := regKey (0xC0 + n) (0x110)
/-- L3S_SPARE_STAT. -/
def Reg.L3S_SPARE_STAT (n : Nat) : Nat := regKey (0xC0 + n) (0x118)
/-- L3BM_FLUSH. -/
def Reg.L3BM_FLUSH : Nat := regKey 0x16 (0x100)
/-- L3BM_FLUSH_STAT. -/
def Reg.L3BM_FLUSH_STAT : Nat := regKey 0x16 (0x108)
/-- QM_RANGE. -/
def Reg.QM_RANGE (n : Nat) : Nat := regKey (0x300 + n) (0x100)
/-- QM_DTB. -/
def Reg.QM_DTB (n : Nat) : Nat := regKey (0x300 + n) (0x108)
/-- QM_STEAL. -/
def Reg.QM_STEAL (n : Nat) : Nat := regKey (0x300 + n) (0x110)
/-- DSP_HOME. -/
def Reg.DSP_HOME (n : Nat) (i : Nat) : Nat := regKey (0x100 + n) (0x100 + 0x20 * i)
/-- DSP_STAT. -/
def Reg.DSP_STAT (n : Nat) (i : Nat) : Nat := regKey (0x100 + n) (0x108 + 0x20 * i)
/-- DSP_QFAULT. -/
def Reg.DSP_QFAULT (n : Nat) (i : Nat) : Nat := regKey (0x100 + n) (0x110 + 0x20 * i)
/-- DSP_PARK. -/
def Reg.DSP_PARK (n : Nat) (i : Nat) : Nat := regKey (0x100 + n) (0x118 + 0x20 * i)
/-- DSP_STEALS. -/
def Reg.DSP_STEALS (n : Nat) : Nat := regKey (0x100 + n) (0x300)
/-- DSP_BROKEN. -/
def Reg.DSP_BROKEN (n : Nat) : Nat := regKey (0x100 + n) (0x308)
/-- CMT_CLUSTER. -/
def Reg.CMT_CLUSTER (i : Nat) : Nat := regKey 0x15 (0x100 + 0x8 * i)
/-- CMT_BAND. -/
def Reg.CMT_BAND (i : Nat) : Nat := regKey 0x15 (0x400 + 0x8 * i)
/-- CMT_COLOR. -/
def Reg.CMT_COLOR (i : Nat) : Nat := regKey 0x15 (0x600 + 0x8 * i)
/-- CMP_STEER. -/
def Reg.CMP_STEER (n : Nat) (i : Nat) : Nat := regKey (0x280 + n) (0x100 + 0x8 * i)
/-- CMP_CTL. -/
def Reg.CMP_CTL (n : Nat) : Nat := regKey (0x280 + n) (0x300)
/-- CMP_STAT. -/
def Reg.CMP_STAT (n : Nat) : Nat := regKey (0x280 + n) (0x308)
/-- CMP_DTM. -/
def Reg.CMP_DTM (n : Nat) : Nat := regKey (0x280 + n) (0x310)
/-- CMP_BAR_CTL. -/
def Reg.CMP_BAR_CTL (n : Nat) : Nat := regKey (0x280 + n) (0x318)
/-- BAR_ARRIVE. -/
def Reg.BAR_ARRIVE (n : Nat) : Nat := regKey (0x2C0 + n) (0x100)
/-- BAR_GEN. -/
def Reg.BAR_GEN (n : Nat) : Nat := regKey (0x2C0 + n) (0x108)
/-- BEAT_MAP of a beat-wheel page. -/
def Reg.BEAT_MAP (page : Nat) (i : Nat) : Nat := regKey page (0x100 + 0x8 * i)
/-- BW_STAT of a beat-wheel page. -/
def Reg.BW_STAT (page : Nat) : Nat := regKey page (0x300)
/-- WDN_CTL. -/
def Reg.WDN_CTL : Nat := regKey 0x10 (0x100)
/-- WDN_WSEL. -/
def Reg.WDN_WSEL : Nat := regKey 0x10 (0x108)
/-- WDN_STAT. -/
def Reg.WDN_STAT : Nat := regKey 0x10 (0x110)
/-- WDN_DENY. -/
def Reg.WDN_DENY : Nat := regKey 0x10 (0x118)
/-- WDN_LOAD. -/
def Reg.WDN_LOAD : Nat := regKey 0x10 (0x120)
/-- WDN_WRES. -/
def Reg.WDN_WRES (i : Nat) : Nat := regKey 0x10 (0x400 + 0x10 * i)
/-- WDN_WRPL. -/
def Reg.WDN_WRPL (i : Nat) : Nat := regKey 0x10 (0x408 + 0x10 * i)
/-- SWD_CTL. -/
def Reg.SWD_CTL : Nat := regKey 0x4 (0x100)
/-- SWD_P1. -/
def Reg.SWD_P1 : Nat := regKey 0x4 (0x108)
/-- SWD_P2. -/
def Reg.SWD_P2 : Nat := regKey 0x4 (0x110)
/-- SWD_KICK. -/
def Reg.SWD_KICK : Nat := regKey 0x4 (0x118)
/-- SWD_STAT. -/
def Reg.SWD_STAT : Nat := regKey 0x4 (0x120)
/-- LG_CTL. -/
def Reg.LG_CTL : Nat := regKey 0x11 (0x100)
/-- LG_STAT. -/
def Reg.LG_STAT : Nat := regKey 0x11 (0x108)
/-- LG_SEQ_NEW. -/
def Reg.LG_SEQ_NEW : Nat := regKey 0x11 (0x110)
/-- LG_SEQ_EXP. -/
def Reg.LG_SEQ_EXP : Nat := regKey 0x11 (0x120)
/-- LG_WIND. -/
def Reg.LG_WIND : Nat := regKey 0x11 (0x128)
/-- LG_LOSS. -/
def Reg.LG_LOSS : Nat := regKey 0x11 (0x130)
/-- LG_LIVE. -/
def Reg.LG_LIVE : Nat := regKey 0x11 (0x138)
/-- LG_EXP. -/
def Reg.LG_EXP : Nat := regKey 0x11 (0x140)
/-- LG_EXP_CTL. -/
def Reg.LG_EXP_CTL : Nat := regKey 0x11 (0x148)
/-- LG_EXP_STAT. -/
def Reg.LG_EXP_STAT : Nat := regKey 0x11 (0x150)
/-- DMG_CFG. -/
def Reg.DMG_CFG : Nat := regKey 0x17 (0x100)
/-- DMG_TOP. -/
def Reg.DMG_TOP : Nat := regKey 0x17 (0x108)
/-- DMG_PHASE. -/
def Reg.DMG_PHASE : Nat := regKey 0x17 (0x110)
/-- DMG_CHMAP. -/
def Reg.DMG_CHMAP : Nat := regKey 0x17 (0x118)
/-- DMG_SPARE_CTL. -/
def Reg.DMG_SPARE_CTL : Nat := regKey 0x17 (0x120)
/-- DMG_SPARE_STAT. -/
def Reg.DMG_SPARE_STAT : Nat := regKey 0x17 (0x128)
/-- DMC_CTL. -/
def Reg.DMC_CTL (n : Nat) : Nat := regKey (0x40 + n) (0x100)
/-- DMC_STAT. -/
def Reg.DMC_STAT (n : Nat) : Nat := regKey (0x40 + n) (0x108)
/-- DMC_REF. -/
def Reg.DMC_REF (n : Nat) : Nat := regKey (0x40 + n) (0x110)
/-- DMC_RT. -/
def Reg.DMC_RT (n : Nat) : Nat := regKey (0x40 + n) (0x118)
/-- DMC_SCRUB. -/
def Reg.DMC_SCRUB (n : Nat) : Nat := regKey (0x40 + n) (0x120)
/-- DMC_CE_THR. -/
def Reg.DMC_CE_THR (n : Nat) : Nat := regKey (0x40 + n) (0x128)
/-- DMC_COLCNT. -/
def Reg.DMC_COLCNT (n : Nat) (i : Nat) : Nat := regKey (0x40 + n) (0x400 + 0x8 * i)
/-- PCIE_CFG. -/
def Reg.PCIE_CFG (n : Nat) : Nat := regKey (0x24 + n) (0x100)
/-- PCIE_MSI. -/
def Reg.PCIE_MSI (n : Nat) : Nat := regKey (0x24 + n) (0x108)
/-- IOM_RTE. -/
def Reg.IOM_RTE (n : Nat) (i : Nat) : Nat := regKey (0x28 + n) (0x100 + 0x20 * i)
/-- IOM_S1. -/
def Reg.IOM_S1 (n : Nat) (i : Nat) : Nat := regKey (0x28 + n) (0x108 + 0x20 * i)
/-- IOM_S2. -/
def Reg.IOM_S2 (n : Nat) (i : Nat) : Nat := regKey (0x28 + n) (0x110 + 0x20 * i)
/-- IOM_VEC. -/
def Reg.IOM_VEC (n : Nat) (i : Nat) : Nat := regKey (0x28 + n) (0x118 + 0x20 * i)
/-- IOM_INV. -/
def Reg.IOM_INV (n : Nat) : Nat := regKey (0x28 + n) (0x900)
/-- IOM_INV_STAT. -/
def Reg.IOM_INV_STAT (n : Nat) : Nat := regKey (0x28 + n) (0x908)
/-- IOM_PRGR. -/
def Reg.IOM_PRGR (n : Nat) : Nat := regKey (0x28 + n) (0x910)
/-- DMA_ATTR. -/
def Reg.DMA_ATTR (n : Nat) : Nat := regKey (0x80 + n) (0x100)
/-- DMA_CTL. -/
def Reg.DMA_CTL (n : Nat) : Nat := regKey (0x80 + n) (0x108)
/-- DMA_XLAT. -/
def Reg.DMA_XLAT (n : Nat) : Nat := regKey (0x80 + n) (0x110)
/-- DMA_STAT. -/
def Reg.DMA_STAT (n : Nat) : Nat := regKey (0x80 + n) (0x118)
/-- IRT. -/
def Reg.IRT (n : Nat) (i : Nat) : Nat := regKey (0x50 + n) (0x800 + 0x8 * i)
/-- IRR_STAT. -/
def Reg.IRR_STAT (n : Nat) : Nat := regKey (0x50 + n) (0x100)
/-- GPIO_PIN. -/
def Reg.GPIO_PIN (i : Nat) : Nat := regKey 0x5 (0x100 + 0x8 * i)
/-- FABG_NODE. -/
def Reg.FABG_NODE : Nat := regKey 0x18 (0x100)
/-- FABG_SUB. -/
def Reg.FABG_SUB (i : Nat) : Nat := regKey 0x18 (0x108 + 0x8 * i)
/-- FABG_SYNC. -/
def Reg.FABG_SYNC : Nat := regKey 0x18 (0x140)
/-- FABG_CTL. -/
def Reg.FABG_CTL : Nat := regKey 0x18 (0x148)
/-- FABG_RSTKEY. -/
def Reg.FABG_RSTKEY : Nat := regKey 0x18 (0x150)
/-- FABG_GRP. -/
def Reg.FABG_GRP (i : Nat) : Nat := regKey 0x18 (0x400 + 0x8 * i)
/-- FAB_PORT_CTL. -/
def Reg.FAB_PORT_CTL (n : Nat) : Nat := regKey (0x30 + n) (0x100)
/-- FAB_PORT_STAT. -/
def Reg.FAB_PORT_STAT (n : Nat) : Nat := regKey (0x30 + n) (0x108)
/-- FXC_ACC. -/
def Reg.FXC_ACC (n : Nat) : Nat := regKey (0x380 + n) (0x100)
/-- FXC_RING. -/
def Reg.FXC_RING (n : Nat) : Nat := regKey (0x380 + n) (0x108)
/-- FXC_TAIL. -/
def Reg.FXC_TAIL (n : Nat) : Nat := regKey (0x380 + n) (0x110)
/-- FXC_HEAD. -/
def Reg.FXC_HEAD (n : Nat) : Nat := regKey (0x380 + n) (0x118)
/-- FXC_XLAT. -/
def Reg.FXC_XLAT (n : Nat) : Nat := regKey (0x380 + n) (0x120)
/-- FXC_WIN_CTL. -/
def Reg.FXC_WIN_CTL (n : Nat) (i : Nat) : Nat := regKey (0x380 + n) (0x200 + 0x20 * i)
/-- FXC_WIN_SIZE. -/
def Reg.FXC_WIN_SIZE (n : Nat) (i : Nat) : Nat := regKey (0x380 + n) (0x208 + 0x20 * i)
/-- FXC_WIN_KEY. -/
def Reg.FXC_WIN_KEY (n : Nat) (i : Nat) : Nat := regKey (0x380 + n) (0x210 + 0x20 * i)
/-- PWC_DEV_REQ. -/
def Reg.PWC_DEV_REQ : Nat := regKey 0x1 (0x100)
/-- PWC_DEV_STAT. -/
def Reg.PWC_DEV_STAT : Nat := regKey 0x1 (0x108)
/-- PWC_REFUSALS. -/
def Reg.PWC_REFUSALS : Nat := regKey 0x1 (0x110)
/-- PWC_ISL. -/
def Reg.PWC_ISL (i : Nat) : Nat := regKey 0x1 (0x400 + 0x8 * i)
/-- RMT_LIM. -/
def Reg.RMT_LIM : Nat := regKey 0x13 (0x100)
/-- RMT_CTL. -/
def Reg.RMT_CTL : Nat := regKey 0x13 (0x108)
/-- RMT_STAT. -/
def Reg.RMT_STAT : Nat := regKey 0x13 (0x110)
/-- RMT_POOL. -/
def Reg.RMT_POOL (i : Nat) : Nat := regKey 0x13 (0x400 + 0x8 * i)
/-- IDX_CLB. -/
def Reg.IDX_CLB (i : Nat) : Nat := regKey 0x14 (0x400 + 0x8 * i)
/-- IDX_THERM. -/
def Reg.IDX_THERM : Nat := regKey 0x14 (0x100)
/-- IDX_LOG. -/
def Reg.IDX_LOG : Nat := regKey 0x14 (0x108)
/-- IDX_LOG_HEAD. -/
def Reg.IDX_LOG_HEAD : Nat := regKey 0x14 (0x110)
/-- IDX_STAT. -/
def Reg.IDX_STAT : Nat := regKey 0x14 (0x118)
/-- ANN_HEAD. -/
def Reg.ANN_HEAD (n : Nat) : Nat := regKey (0x3C0 + n) (0x100)
/-- ANN_START. -/
def Reg.ANN_START (n : Nat) (i : Nat) : Nat := regKey (0x3C0 + n) (0x200 + 0x20 * i)
/-- ANN_END. -/
def Reg.ANN_END (n : Nat) (i : Nat) : Nat := regKey (0x3C0 + n) (0x208 + 0x20 * i)
/-- ANN_KIND. -/
def Reg.ANN_KIND (n : Nat) (i : Nat) : Nat := regKey (0x3C0 + n) (0x210 + 0x20 * i)
/-- RST_REQ. -/
def Reg.RST_REQ : Nat := regKey 0x2 (0x100)
/-- RST_STAT. -/
def Reg.RST_STAT : Nat := regKey 0x2 (0x108)
/-- RST_CFG. -/
def Reg.RST_CFG : Nat := regKey 0x2 (0x110)
/-- RST_WAKE. -/
def Reg.RST_WAKE : Nat := regKey 0x2 (0x118)
/-- RST_HOV_CTL. -/
def Reg.RST_HOV_CTL : Nat := regKey 0x2 (0x120)
/-- RST_HOV_PC. -/
def Reg.RST_HOV_PC : Nat := regKey 0x2 (0x128)
/-- RST_ARB. -/
def Reg.RST_ARB (i : Nat) : Nat := regKey 0x2 (0x208 + 0x8 * i)
/-- TBC_SET. -/
def Reg.TBC_SET : Nat := regKey 0x3 (0x100)
/-- TBC_SLEW. -/
def Reg.TBC_SLEW : Nat := regKey 0x3 (0x108)
/-- TBC_STAT. -/
def Reg.TBC_STAT : Nat := regKey 0x3 (0x110)
/-- ERRLOG_HEAD. -/
def Reg.ERRLOG_HEAD (n : Nat) : Nat := regKey (0x1C0 + n) (0x300)
/-- ERRLOG_ADDR. -/
def Reg.ERRLOG_ADDR (n : Nat) (i : Nat) : Nat := regKey (0x1C0 + n) (0x400 + 0x20 * i)
/-- ERRLOG_INFO. -/
def Reg.ERRLOG_INFO (n : Nat) (i : Nat) : Nat := regKey (0x1C0 + n) (0x408 + 0x20 * i)
/-- ERRLOG_TB. -/
def Reg.ERRLOG_TB (n : Nat) (i : Nat) : Nat := regKey (0x1C0 + n) (0x410 + 0x20 * i)
/-- ERRLOG_W3. -/
def Reg.ERRLOG_W3 (n : Nat) (i : Nat) : Nat := regKey (0x1C0 + n) (0x418 + 0x20 * i)
/-- IST_REQ. -/
def Reg.IST_REQ (n : Nat) : Nat := regKey (0x340 + n) (0x100)
/-- IST_STAT. -/
def Reg.IST_STAT (n : Nat) : Nat := regKey (0x340 + n) (0x108)
/-- IST_DTM. -/
def Reg.IST_DTM (n : Nat) : Nat := regKey (0x340 + n) (0x110)
/-- UPT_SRC. -/
def Reg.UPT_SRC : Nat := regKey 0x12 (0x100)
/-- UPT_CTL. -/
def Reg.UPT_CTL : Nat := regKey 0x12 (0x108)
/-- UPT_APPLY. -/
def Reg.UPT_APPLY : Nat := regKey 0x12 (0x110)
/-- UPT_STAT. -/
def Reg.UPT_STAT : Nat := regKey 0x12 (0x118)
/-- UPT_VER. -/
def Reg.UPT_VER : Nat := regKey 0x12 (0x120)
/-- USQ_PATCH_STAT. -/
def Reg.USQ_PATCH_STAT (n : Nat) : Nat := regKey (0x1C0 + n) (0x100)
/-- USQ_TRC_CTL. -/
def Reg.USQ_TRC_CTL (n : Nat) : Nat := regKey (0x1C0 + n) (0x108)
/-- USQ_TRC. -/
def Reg.USQ_TRC (n : Nat) (i : Nat) : Nat := regKey (0x1C0 + n) (0x600 + 0x8 * i)
/-- DMC_SEQ_STAT. -/
def Reg.DMC_SEQ_STAT (n : Nat) : Nat := regKey (0x40 + n) (0x130)
/-- ATL_HEAD. -/
def Reg.ATL_HEAD : Nat := regKey 0x6 (0x100)
/-- ATL_ADDR. -/
def Reg.ATL_ADDR (i : Nat) : Nat := regKey 0x6 (0x400 + 0x20 * i)
/-- ATL_INFO. -/
def Reg.ATL_INFO (i : Nat) : Nat := regKey 0x6 (0x408 + 0x20 * i)
/-- ATL_TB. -/
def Reg.ATL_TB (i : Nat) : Nat := regKey 0x6 (0x410 + 0x20 * i)
/-- DEV_IDENT. -/
def Reg.DEV_IDENT : Nat := regKey 0x0 (0x100)
/-- DEV_UID. -/
def Reg.DEV_UID : Nat := regKey 0x0 (0x108)
/-- BLK_ID of a page. -/
def Reg.BLK_ID (page : Nat) : Nat := regKey page (0x0)
/-- BLK_CAP of a page. -/
def Reg.BLK_CAP (page : Nat) : Nat := regKey page (0x8)
/-- BLK_CTRL of a page. -/
def Reg.BLK_CTRL (page : Nat) : Nat := regKey page (0x10)
/-- BLK_STAT of a page. -/
def Reg.BLK_STAT (page : Nat) : Nat := regKey page (0x18)
/-- BLK_OWNER of a page. -/
def Reg.BLK_OWNER (page : Nat) : Nat := regKey page (0x20)
/-- BLK_PWR of a page. -/
def Reg.BLK_PWR (page : Nat) : Nat := regKey page (0x28)
/-- IRQ_STAT of a page. -/
def Reg.IRQ_STAT (page : Nat) : Nat := regKey page (0x40)
/-- IRQ_EN of a page. -/
def Reg.IRQ_EN (page : Nat) : Nat := regKey page (0x48)
/-- IRQ_SET of a page. -/
def Reg.IRQ_SET (page : Nat) : Nat := regKey page (0x50)
/-- IRQ_ROUTE of a page. -/
def Reg.IRQ_ROUTE (page : Nat) : Nat := regKey page (0x58)
/-- ERR_STAT of a page. -/
def Reg.ERR_STAT (page : Nat) : Nat := regKey page (0x80)
/-- ERR_COUNT of a page. -/
def Reg.ERR_COUNT (page : Nat) : Nat := regKey page (0x98)
/-- ERR_INJECT of a page. -/
def Reg.ERR_INJECT (page : Nat) : Nat := regKey page (0xA0)
/-- ERR_ADDR of a page. -/
def Reg.ERR_ADDR (page : Nat) : Nat := regKey page (0x88)
/-- ERR_INFO of a page. -/
def Reg.ERR_INFO (page : Nat) : Nat := regKey page (0x90)
/-- BLK_FREEZE of a page. -/
def Reg.BLK_FREEZE (page : Nat) : Nat := regKey page (0x30)
/-- ARB_CTL of a page. -/
def Reg.ARB_CTL (page : Nat) : Nat := regKey page (0x800)
/-- ARB_HOG of a page. -/
def Reg.ARB_HOG (page : Nat) : Nat := regKey page (0x808)
/-- ARB_REQ of a page. -/
def Reg.ARB_REQ (page : Nat) : Nat := regKey page (0x810)
/-- ARB_TURN of a page. -/
def Reg.ARB_TURN (page : Nat) (i : Nat) : Nat := regKey page (0x818 + 0x8 * i)
/-- ARB_PRIO of a page. -/
def Reg.ARB_PRIO (page : Nat) (i : Nat) : Nat := regKey page (0x880 + 0x8 * i)
/-- LG_PUBKEY. -/
def Reg.LG_PUBKEY (i : Nat) : Nat := regKey 0x11 (0x200 + 0x8 * i)
/-- LG_CERT. -/
def Reg.LG_CERT (i : Nat) : Nat := regKey 0x11 (0x800 + 0x8 * i)

/-! Fields of the registers. -/
def Fld.CII_PEND_TIMER : Fld := ⟨0, 2⟩
def Fld.CII_PEND_LOCAL : Fld := ⟨2, 5⟩
def Fld.CII_PEND_MSG : Fld := ⟨8, 56⟩
def Fld.CII_SET_LOCAL : Fld := ⟨2, 5⟩
def Fld.CII_SET_MSG : Fld := ⟨8, 56⟩
def Fld.CII_EN_LOCAL : Fld := ⟨0, 7⟩
def Fld.CII_EN_MSG : Fld := ⟨8, 56⟩
def Fld.CII_LVL_FIXED_LO : Fld := ⟨0, 4⟩
def Fld.CII_LVL_ANN : Fld := ⟨4, 1⟩
def Fld.CII_LVL_FIXED_HI : Fld := ⟨5, 2⟩
def Fld.CII_LVL_MSG : Fld := ⟨8, 56⟩
def Fld.CII_STAT_LAST_ID : Fld := ⟨0, 6⟩
def Fld.CII_STAT_LAST_VALID : Fld := ⟨7, 1⟩
def Fld.CII_STAT_HALTED : Fld := ⟨8, 1⟩
def Fld.L2C_PF_MAX : Fld := ⟨0, 2⟩
def Fld.L2C_PF_CUR : Fld := ⟨2, 2⟩
def Fld.L2C_STAT_FLUSHING : Fld := ⟨0, 1⟩
def Fld.L2C_STAT_EMPTY : Fld := ⟨1, 1⟩
def Fld.L3S_WAYS_FAILED : Fld := ⟨0, 17⟩
def Fld.L3S_WAYS_SPARE_IN : Fld := ⟨17, 1⟩
def Fld.L3S_WAYS_SPARE_FOR : Fld := ⟨18, 4⟩
def Fld.L3S_CE_THR_THR : Fld := ⟨0, 16⟩
def Fld.L3S_CE_THR_WINDOW_MS : Fld := ⟨16, 16⟩
def Fld.L3S_SPARE_CTL_WAY : Fld := ⟨0, 4⟩
def Fld.L3S_SPARE_CTL_GO : Fld := ⟨4, 1⟩
def Fld.L3S_SPARE_STAT_STATE : Fld := ⟨0, 2⟩
def Fld.L3S_SPARE_STAT_SETS_DONE : Fld := ⟨2, 12⟩
def Fld.L3BM_FLUSH_BAND : Fld := ⟨0, 6⟩
def Fld.L3BM_FLUSH_GO : Fld := ⟨6, 1⟩
def Fld.L3BM_FLUSH_TIMEOUT_US : Fld := ⟨16, 16⟩
def Fld.L3BM_FLUSH_STAT_RESULT : Fld := ⟨0, 3⟩
def Fld.L3BM_FLUSH_STAT_LINES_WB : Fld := ⟨16, 16⟩
def Fld.QM_RANGE_BASE : Fld := ⟨0, 18⟩
def Fld.QM_RANGE_COUNT : Fld := ⟨20, 19⟩
def Fld.QM_DTB_BASE : Fld := ⟨18, 34⟩
def Fld.QM_STEAL_LOCAL : Fld := ⟨0, 1⟩
def Fld.QM_STEAL_CROSS : Fld := ⟨1, 1⟩
def Fld.QM_STEAL_EPOCH_US : Fld := ⟨16, 16⟩
def Fld.DSP_HOME_Q0 : Fld := ⟨0, 18⟩
def Fld.DSP_HOME_EN0 : Fld := ⟨18, 1⟩
def Fld.DSP_HOME_Q1 : Fld := ⟨20, 18⟩
def Fld.DSP_HOME_EN1 : Fld := ⟨38, 1⟩
def Fld.DSP_STAT_QID : Fld := ⟨0, 18⟩
def Fld.DSP_STAT_STATE : Fld := ⟨18, 2⟩
def Fld.DSP_STAT_STOLEN : Fld := ⟨20, 1⟩
def Fld.DSP_STAT_PREEMPT_PEND : Fld := ⟨21, 1⟩
def Fld.DSP_QFAULT_REASON : Fld := ⟨0, 4⟩
def Fld.DSP_QFAULT_QUEUE : Fld := ⟨8, 18⟩
def Fld.DSP_PARK_PC : Fld := ⟨1, 63⟩
def Fld.DSP_STEALS_COUNT : Fld := ⟨0, 48⟩
def Fld.DSP_BROKEN_COUNT : Fld := ⟨0, 16⟩
def Fld.CMT_CLUSTER_CID : Fld := ⟨0, 6⟩
def Fld.CMT_CLUSTER_EN : Fld := ⟨6, 1⟩
def Fld.CMT_CLUSTER_DRAINED : Fld := ⟨7, 1⟩
def Fld.CMT_CLUSTER_FAILED : Fld := ⟨8, 1⟩
def Fld.CMT_CLUSTER_RESULT : Fld := ⟨9, 2⟩
def Fld.CMT_CLUSTER_TIMEOUT_US : Fld := ⟨16, 16⟩
def Fld.CMT_BAND_CID : Fld := ⟨0, 6⟩
def Fld.CMT_BAND_EN : Fld := ⟨6, 1⟩
def Fld.CMT_BAND_CLEAN : Fld := ⟨7, 1⟩
def Fld.CMT_COLOR_CID : Fld := ⟨0, 6⟩
def Fld.CMT_COLOR_EN : Fld := ⟨6, 1⟩
def Fld.CMT_COLOR_BUSY : Fld := ⟨7, 1⟩
def Fld.CMT_COLOR_RESULT : Fld := ⟨8, 3⟩
def Fld.CMP_STEER_BAND : Fld := ⟨0, 6⟩
def Fld.CMP_STEER_VOID : Fld := ⟨6, 1⟩
def Fld.CMP_CTL_LENDOK : Fld := ⟨0, 1⟩
def Fld.CMP_CTL_BORROW : Fld := ⟨1, 1⟩
def Fld.CMP_STAT_STEER_BUSY : Fld := ⟨0, 1⟩
def Fld.CMP_STAT_LEND_ACTIVE : Fld := ⟨1, 1⟩
def Fld.CMP_DTM_SLOT : Fld := ⟨0, 6⟩
def Fld.CMP_DTM_EN : Fld := ⟨6, 1⟩
def Fld.CMP_BAR_CTL_PER_CLUSTER : Fld := ⟨0, 5⟩
def Fld.CMP_BAR_CTL_EN : Fld := ⟨5, 1⟩
def Fld.BAR_ARRIVE_W : Fld := ⟨0, 64⟩
def Fld.BAR_GEN_GEN : Fld := ⟨0, 32⟩
def Fld.BEAT_MAP_CID : Fld := ⟨0, 6⟩
def Fld.BEAT_MAP_EN : Fld := ⟨6, 1⟩
def Fld.BEAT_MAP_LEND : Fld := ⟨7, 1⟩
def Fld.BW_STAT_POS : Fld := ⟨0, 6⟩
def Fld.BW_STAT_PENDING : Fld := ⟨6, 1⟩
def Fld.BW_STAT_BORROWED : Fld := ⟨16, 48⟩
def Fld.WDN_CTL_WCL : Fld := ⟨0, 7⟩
def Fld.WDN_CTL_OPEN : Fld := ⟨7, 1⟩
def Fld.WDN_CTL_RESTART : Fld := ⟨8, 1⟩
def Fld.WDN_CTL_SLOT : Fld := ⟨9, 1⟩
def Fld.WDN_CTL_TMO_US : Fld := ⟨16, 32⟩
def Fld.WDN_WSEL_CORE : Fld := ⟨0, 16⟩
def Fld.WDN_STAT_STATE : Fld := ⟨0, 2⟩
def Fld.WDN_STAT_SLOT : Fld := ⟨2, 1⟩
def Fld.WDN_STAT_CAUSE : Fld := ⟨3, 1⟩
def Fld.WDN_STAT_QDEPTH : Fld := ⟨4, 8⟩
def Fld.WDN_STAT_LATE : Fld := ⟨16, 16⟩
def Fld.WDN_STAT_RESTARTS : Fld := ⟨32, 16⟩
def Fld.WDN_DENY_COUNT : Fld := ⟨0, 32⟩
def Fld.WDN_DENY_LAST_BLK : Fld := ⟨32, 12⟩
def Fld.WDN_LOAD_BASE : Fld := ⟨18, 34⟩
def Fld.WDN_WRES_RES : Fld := ⟨0, 64⟩
def Fld.WDN_WRPL_ID : Fld := ⟨0, 16⟩
def Fld.WDN_WRPL_ST : Fld := ⟨16, 8⟩
def Fld.SWD_CTL_EN : Fld := ⟨0, 1⟩
def Fld.SWD_P1_TICKS : Fld := ⟨0, 24⟩
def Fld.SWD_P2_TICKS : Fld := ⟨0, 24⟩
def Fld.SWD_KICK_KEY : Fld := ⟨0, 16⟩
def Fld.SWD_STAT_STAGE : Fld := ⟨0, 2⟩
def Fld.SWD_STAT_DEVRST : Fld := ⟨2, 1⟩
def Fld.SWD_STAT_COUNT : Fld := ⟨8, 24⟩
def Fld.LG_CTL_FORMAT : Fld := ⟨0, 1⟩
def Fld.LG_STAT_GRAN : Fld := ⟨0, 6⟩
def Fld.LG_STAT_CLOSING : Fld := ⟨6, 1⟩
def Fld.LG_STAT_SYNC : Fld := ⟨7, 2⟩
def Fld.LG_STAT_EXPORTING : Fld := ⟨9, 1⟩
def Fld.LG_STAT_FREE_PERMIL : Fld := ⟨16, 10⟩
def Fld.LG_SEQ_NEW_SEQ : Fld := ⟨0, 64⟩
def Fld.LG_SEQ_EXP_SEQ : Fld := ⟨0, 64⟩
def Fld.LG_WIND_SEQ : Fld := ⟨0, 64⟩
def Fld.LG_LOSS_COUNT : Fld := ⟨0, 32⟩
def Fld.LG_LIVE_LIVE : Fld := ⟨0, 13⟩
def Fld.LG_LIVE_PEAK : Fld := ⟨16, 13⟩
def Fld.LG_EXP_BASE : Fld := ⟨18, 34⟩
def Fld.LG_EXP_CTL_MAXKIB : Fld := ⟨0, 16⟩
def Fld.LG_EXP_CTL_GO : Fld := ⟨16, 1⟩
def Fld.LG_EXP_STAT_RESULT : Fld := ⟨0, 2⟩
def Fld.LG_EXP_STAT_COUNT : Fld := ⟨16, 16⟩
def Fld.LG_EXP_STAT_BYTES : Fld := ⟨32, 32⟩
def Fld.DMG_CFG_ORDER : Fld := ⟨0, 2⟩
def Fld.DMG_CFG_SPARE : Fld := ⟨2, 1⟩
def Fld.DMG_CFG_LOCK : Fld := ⟨3, 1⟩
def Fld.DMG_TOP_TOP : Fld := ⟨0, 43⟩
def Fld.DMG_PHASE_RREV : Fld := ⟨0, 8⟩
def Fld.DMG_PHASE_WREV : Fld := ⟨8, 8⟩
def Fld.DMG_PHASE_GUARD_RW : Fld := ⟨16, 8⟩
def Fld.DMG_PHASE_GUARD_WR : Fld := ⟨24, 8⟩
def Fld.DMG_CHMAP_SLOT_0 : Fld := ⟨0, 4⟩
def Fld.DMG_CHMAP_SLOT_1 : Fld := ⟨4, 4⟩
def Fld.DMG_CHMAP_SLOT_2 : Fld := ⟨8, 4⟩
def Fld.DMG_CHMAP_SLOT_3 : Fld := ⟨12, 4⟩
def Fld.DMG_CHMAP_SLOT_4 : Fld := ⟨16, 4⟩
def Fld.DMG_CHMAP_SLOT_5 : Fld := ⟨20, 4⟩
def Fld.DMG_CHMAP_SLOT_6 : Fld := ⟨24, 4⟩
def Fld.DMG_CHMAP_SLOT_7 : Fld := ⟨28, 4⟩
def Fld.DMG_CHMAP_SLOT_8 : Fld := ⟨32, 4⟩
def Fld.DMG_CHMAP_SLOT_9 : Fld := ⟨36, 4⟩
def Fld.DMG_CHMAP_SLOT_10 : Fld := ⟨40, 4⟩
def Fld.DMG_CHMAP_SLOT_11 : Fld := ⟨44, 4⟩
def Fld.DMG_CHMAP_SLOT_12 : Fld := ⟨48, 4⟩
def Fld.DMG_CHMAP_SLOT_13 : Fld := ⟨52, 4⟩
def Fld.DMG_CHMAP_SLOT_14 : Fld := ⟨56, 4⟩
def Fld.DMG_SPARE_CTL_SPARE_CH : Fld := ⟨0, 4⟩
def Fld.DMG_SPARE_CTL_TARGET : Fld := ⟨4, 4⟩
def Fld.DMG_SPARE_CTL_GO : Fld := ⟨8, 1⟩
def Fld.DMG_SPARE_CTL_AUTO : Fld := ⟨9, 1⟩
def Fld.DMG_SPARE_STAT_STATE : Fld := ⟨0, 2⟩
def Fld.DMG_SPARE_STAT_FROM : Fld := ⟨2, 4⟩
def Fld.DMG_SPARE_STAT_PERCENT : Fld := ⟨8, 8⟩
def Fld.DMG_SPARE_STAT_LATE : Fld := ⟨16, 16⟩
def Fld.DMC_CTL_PAGE : Fld := ⟨0, 2⟩
def Fld.DMC_CTL_WHI : Fld := ⟨8, 5⟩
def Fld.DMC_CTL_WLO : Fld := ⟨13, 5⟩
def Fld.DMC_STAT_PRESENT : Fld := ⟨0, 1⟩
def Fld.DMC_STAT_DEGRADED : Fld := ⟨1, 1⟩
def Fld.DMC_STAT_PTFULL : Fld := ⟨2, 1⟩
def Fld.DMC_STAT_RETRAIN : Fld := ⟨3, 1⟩
def Fld.DMC_STAT_RATE : Fld := ⟨4, 2⟩
def Fld.DMC_STAT_TEMP : Fld := ⟨6, 8⟩
def Fld.DMC_REF_SB : Fld := ⟨0, 1⟩
def Fld.DMC_RT_PERIOD_MS : Fld := ⟨0, 16⟩
def Fld.DMC_RT_DRIFT : Fld := ⟨16, 8⟩
def Fld.DMC_SCRUB_PERIOD_H : Fld := ⟨0, 8⟩
def Fld.DMC_CE_THR_THR : Fld := ⟨0, 16⟩
def Fld.DMC_CE_THR_WINDOW_S : Fld := ⟨16, 16⟩
def Fld.DMC_COLCNT_QUOTA_A : Fld := ⟨0, 5⟩
def Fld.DMC_COLCNT_GOT_A : Fld := ⟨8, 5⟩
def Fld.DMC_COLCNT_QUOTA_B : Fld := ⟨16, 5⟩
def Fld.DMC_COLCNT_GOT_B : Fld := ⟨24, 5⟩
def Fld.PCIE_CFG_BIF : Fld := ⟨0, 2⟩
def Fld.PCIE_CFG_RDERR : Fld := ⟨2, 1⟩
def Fld.PCIE_MSI_BASE : Fld := ⟨20, 32⟩
def Fld.IOM_RTE_RID : Fld := ⟨0, 16⟩
def Fld.IOM_RTE_MASK : Fld := ⟨16, 16⟩
def Fld.IOM_RTE_ATTR : Fld := ⟨32, 8⟩
def Fld.IOM_RTE_EN : Fld := ⟨40, 1⟩
def Fld.IOM_RTE_ATS : Fld := ⟨41, 1⟩
def Fld.IOM_RTE_PRI : Fld := ⟨42, 1⟩
def Fld.IOM_RTE_TAG : Fld := ⟨48, 16⟩
def Fld.IOM_S1_EN : Fld := ⟨0, 1⟩
def Fld.IOM_S1_BASE : Fld := ⟨12, 40⟩
def Fld.IOM_S2_EN : Fld := ⟨0, 1⟩
def Fld.IOM_S2_BASE : Fld := ⟨7, 45⟩
def Fld.IOM_VEC_FVEC : Fld := ⟨0, 13⟩
def Fld.IOM_VEC_FEN : Fld := ⟨13, 1⟩
def Fld.IOM_VEC_PVEC : Fld := ⟨16, 13⟩
def Fld.IOM_VEC_PEN : Fld := ⟨29, 1⟩
def Fld.IOM_INV_SCOPE : Fld := ⟨0, 2⟩
def Fld.IOM_INV_ENTRY : Fld := ⟨2, 6⟩
def Fld.IOM_INV_GO : Fld := ⟨8, 1⟩
def Fld.IOM_INV_ADDR : Fld := ⟨12, 52⟩
def Fld.IOM_INV_STAT_STATE : Fld := ⟨0, 2⟩
def Fld.IOM_PRGR_RID : Fld := ⟨0, 16⟩
def Fld.IOM_PRGR_PRGI : Fld := ⟨16, 9⟩
def Fld.IOM_PRGR_CODE : Fld := ⟨25, 2⟩
def Fld.DMA_ATTR_ATTR : Fld := ⟨0, 8⟩
def Fld.DMA_CTL_HOMEQ : Fld := ⟨0, 18⟩
def Fld.DMA_CTL_EN : Fld := ⟨18, 1⟩
def Fld.DMA_CTL_STEALD : Fld := ⟨19, 1⟩
def Fld.DMA_CTL_STEALX : Fld := ⟨20, 1⟩
def Fld.DMA_CTL_SLEEPT : Fld := ⟨24, 4⟩
def Fld.DMA_XLAT_EN : Fld := ⟨0, 1⟩
def Fld.DMA_XLAT_BASE : Fld := ⟨7, 45⟩
def Fld.DMA_STAT_STATE : Fld := ⟨0, 2⟩
def Fld.DMA_STAT_QID : Fld := ⟨2, 18⟩
def Fld.IRT_ATTR : Fld := ⟨0, 8⟩
def Fld.IRT_EN : Fld := ⟨8, 1⟩
def Fld.IRT_MODE : Fld := ⟨9, 1⟩
def Fld.IRT_ID : Fld := ⟨10, 6⟩
def Fld.IRT_CLUSTER : Fld := ⟨16, 7⟩
def Fld.IRT_CORE : Fld := ⟨23, 4⟩
def Fld.IRT_QUEUE : Fld := ⟨28, 18⟩
def Fld.IRT_MERGES : Fld := ⟨48, 16⟩
def Fld.IRR_STAT_DROPS : Fld := ⟨0, 16⟩
def Fld.IRR_STAT_HELD : Fld := ⟨16, 11⟩
def Fld.GPIO_PIN_ATTR : Fld := ⟨0, 8⟩
def Fld.GPIO_PIN_DIR : Fld := ⟨8, 1⟩
def Fld.GPIO_PIN_OUT : Fld := ⟨9, 1⟩
def Fld.GPIO_PIN_IN : Fld := ⟨10, 1⟩
def Fld.GPIO_PIN_EDGE : Fld := ⟨11, 2⟩
def Fld.GPIO_PIN_VEC : Fld := ⟨16, 13⟩
def Fld.FABG_NODE_NODE : Fld := ⟨0, 18⟩
def Fld.FABG_NODE_UP : Fld := ⟨18, 3⟩
def Fld.FABG_NODE_DN : Fld := ⟨21, 3⟩
def Fld.FABG_NODE_RING : Fld := ⟨24, 1⟩
def Fld.FABG_NODE_EN : Fld := ⟨25, 1⟩
def Fld.FABG_NODE_RINGN : Fld := ⟨26, 18⟩
def Fld.FABG_SUB_LO : Fld := ⟨0, 18⟩
def Fld.FABG_SUB_HI : Fld := ⟨20, 18⟩
def Fld.FABG_SUB_EN : Fld := ⟨38, 1⟩
def Fld.FABG_SUB_RSTFWD : Fld := ⟨39, 1⟩
def Fld.FABG_SYNC_MASTER : Fld := ⟨0, 1⟩
def Fld.FABG_SYNC_STATE : Fld := ⟨1, 2⟩
def Fld.FABG_SYNC_PERIOD_US : Fld := ⟨16, 16⟩
def Fld.FABG_SYNC_ERR_NS : Fld := ⟨32, 32⟩
def Fld.FABG_CTL_RSTIN : Fld := ⟨0, 1⟩
def Fld.FABG_CTL_RSTOUT : Fld := ⟨1, 1⟩
def Fld.FABG_RSTKEY_KEY : Fld := ⟨0, 64⟩
def Fld.FABG_GRP_FDOM : Fld := ⟨0, 16⟩
def Fld.FABG_GRP_CID : Fld := ⟨16, 6⟩
def Fld.FABG_GRP_MEMBER : Fld := ⟨22, 1⟩
def Fld.FABG_GRP_PORTMASK : Fld := ⟨23, 6⟩
def Fld.FABG_GRP_ROOT : Fld := ⟨29, 1⟩
def Fld.FABG_GRP_EN : Fld := ⟨30, 1⟩
def Fld.FABG_GRP_BQUEUE : Fld := ⟨31, 18⟩
def Fld.FAB_PORT_CTL_EN : Fld := ⟨0, 1⟩
def Fld.FAB_PORT_CTL_RETRAIN : Fld := ⟨1, 1⟩
def Fld.FAB_PORT_CTL_UNQ : Fld := ⟨2, 1⟩
def Fld.FAB_PORT_CTL_MINW : Fld := ⟨3, 2⟩
def Fld.FAB_PORT_CTL_REACH : Fld := ⟨5, 1⟩
def Fld.FAB_PORT_STAT_STATE : Fld := ⟨0, 3⟩
def Fld.FAB_PORT_STAT_WIDTH : Fld := ⟨3, 2⟩
def Fld.FAB_PORT_STAT_VIOL : Fld := ⟨16, 16⟩
def Fld.FAB_PORT_STAT_REPLAY : Fld := ⟨32, 16⟩
def Fld.FAB_PORT_STAT_REFUSED : Fld := ⟨48, 16⟩
def Fld.FXC_ACC_FDOM : Fld := ⟨0, 16⟩
def Fld.FXC_ACC_EN : Fld := ⟨16, 1⟩
def Fld.FXC_RING_LOG2DEPTH : Fld := ⟨0, 5⟩
def Fld.FXC_RING_BASE : Fld := ⟨18, 34⟩
def Fld.FXC_TAIL_TAIL : Fld := ⟨0, 32⟩
def Fld.FXC_HEAD_HEAD : Fld := ⟨0, 32⟩
def Fld.FXC_XLAT_EN : Fld := ⟨0, 1⟩
def Fld.FXC_XLAT_BASE : Fld := ⟨7, 45⟩
def Fld.FXC_WIN_CTL_EN : Fld := ⟨0, 1⟩
def Fld.FXC_WIN_CTL_R : Fld := ⟨1, 1⟩
def Fld.FXC_WIN_CTL_W : Fld := ⟨2, 1⟩
def Fld.FXC_WIN_CTL_BASE : Fld := ⟨18, 34⟩
def Fld.FXC_WIN_SIZE_SIZE : Fld := ⟨0, 40⟩
def Fld.FXC_WIN_SIZE_TAG : Fld := ⟨40, 16⟩
def Fld.FXC_WIN_KEY_KEY : Fld := ⟨0, 64⟩
def Fld.PWC_DEV_REQ_STATE : Fld := ⟨0, 3⟩
def Fld.PWC_DEV_REQ_GO : Fld := ⟨3, 1⟩
def Fld.PWC_DEV_REQ_DELAY_US : Fld := ⟨16, 16⟩
def Fld.PWC_DEV_STAT_STATE : Fld := ⟨0, 3⟩
def Fld.PWC_DEV_STAT_RESULT : Fld := ⟨3, 3⟩
def Fld.PWC_DEV_STAT_LAST_REASON : Fld := ⟨6, 4⟩
def Fld.PWC_DEV_STAT_LAST_BLK : Fld := ⟨32, 12⟩
def Fld.PWC_REFUSALS_COUNT : Fld := ⟨0, 32⟩
def Fld.PWC_ISL_STATE : Fld := ⟨0, 3⟩
def Fld.PWC_ISL_FAILED : Fld := ⟨3, 1⟩
def Fld.PWC_ISL_PHASE : Fld := ⟨4, 1⟩
def Fld.PWC_ISL_LAST_BLK : Fld := ⟨16, 12⟩
def Fld.PWC_ISL_LAST_REASON : Fld := ⟨28, 4⟩
def Fld.PWC_ISL_ABORTS : Fld := ⟨32, 32⟩
def Fld.RMT_LIM_ILIM : Fld := ⟨0, 12⟩
def Fld.RMT_LIM_PLAT : Fld := ⟨16, 12⟩
def Fld.RMT_LIM_RAMP : Fld := ⟨32, 6⟩
def Fld.RMT_CTL_BOOST_MS : Fld := ⟨0, 8⟩
def Fld.RMT_STAT_VIN : Fld := ⟨0, 12⟩
def Fld.RMT_STAT_PCOMMIT : Fld := ⟨12, 12⟩
def Fld.RMT_POOL_SHARE : Fld := ⟨0, 12⟩
def Fld.RMT_POOL_COMMIT : Fld := ⟨12, 12⟩
def Fld.RMT_POOL_REFUSED : Fld := ⟨24, 16⟩
def Fld.IDX_CLB_FMIN : Fld := ⟨0, 5⟩
def Fld.IDX_CLB_FMAX : Fld := ⟨5, 5⟩
def Fld.IDX_CLB_AUTO : Fld := ⟨10, 1⟩
def Fld.IDX_CLB_SLEEP_US : Fld := ⟨16, 16⟩
def Fld.IDX_CLB_CUR : Fld := ⟨32, 5⟩
def Fld.IDX_THERM_EMERG : Fld := ⟨0, 8⟩
def Fld.IDX_THERM_HOT : Fld := ⟨8, 8⟩
def Fld.IDX_THERM_LEVEL : Fld := ⟨16, 2⟩
def Fld.IDX_LOG_LOG2DEPTH : Fld := ⟨0, 5⟩
def Fld.IDX_LOG_BASE : Fld := ⟨18, 34⟩
def Fld.IDX_LOG_HEAD_HEAD : Fld := ⟨0, 32⟩
def Fld.IDX_STAT_ALIVE : Fld := ⟨0, 4⟩
def Fld.ANN_HEAD_HEAD : Fld := ⟨0, 32⟩
def Fld.ANN_START_START : Fld := ⟨0, 64⟩
def Fld.ANN_END_END : Fld := ⟨0, 64⟩
def Fld.ANN_KIND_KIND : Fld := ⟨0, 8⟩
def Fld.ANN_KIND_DETAIL : Fld := ⟨8, 8⟩
def Fld.RST_REQ_KIND : Fld := ⟨0, 3⟩
def Fld.RST_REQ_TARGET : Fld := ⟨3, 7⟩
def Fld.RST_REQ_CORE : Fld := ⟨10, 4⟩
def Fld.RST_REQ_BLK : Fld := ⟨14, 12⟩
def Fld.RST_REQ_GO : Fld := ⟨26, 1⟩
def Fld.RST_STAT_RESULT : Fld := ⟨0, 2⟩
def Fld.RST_STAT_LAST_KIND : Fld := ⟨2, 3⟩
def Fld.RST_CFG_KEEPDRAM : Fld := ⟨0, 1⟩
def Fld.RST_WAKE_CAUSE : Fld := ⟨0, 3⟩
def Fld.RST_WAKE_STAGE : Fld := ⟨4, 4⟩
def Fld.RST_WAKE_FAIL : Fld := ⟨8, 8⟩
def Fld.RST_WAKE_ISLAND : Fld := ⟨16, 8⟩
def Fld.RST_WAKE_RETRY : Fld := ⟨24, 2⟩
def Fld.RST_WAKE_SLOT : Fld := ⟨26, 2⟩
def Fld.RST_WAKE_STARTS : Fld := ⟨48, 16⟩
def Fld.RST_HOV_CTL_PLAT : Fld := ⟨0, 6⟩
def Fld.RST_HOV_CTL_HCL : Fld := ⟨6, 7⟩
def Fld.RST_HOV_CTL_WLOAD : Fld := ⟨18, 34⟩
def Fld.RST_HOV_CTL_GO : Fld := ⟨52, 1⟩
def Fld.RST_HOV_PC_PC : Fld := ⟨1, 63⟩
def Fld.RST_ARB_MIN : Fld := ⟨0, 32⟩
def Fld.TBC_SET_TB : Fld := ⟨0, 64⟩
def Fld.TBC_SLEW_PPB : Fld := ⟨0, 24⟩
def Fld.TBC_STAT_SRC : Fld := ⟨0, 2⟩
def Fld.TBC_STAT_STEPPED : Fld := ⟨2, 1⟩
def Fld.ERRLOG_HEAD_HEAD : Fld := ⟨0, 32⟩
def Fld.ERRLOG_ADDR_ADDR : Fld := ⟨0, 64⟩
def Fld.ERRLOG_INFO_INFO : Fld := ⟨0, 64⟩
def Fld.ERRLOG_TB_TB : Fld := ⟨0, 64⟩
def Fld.ERRLOG_W3_KIND : Fld := ⟨0, 4⟩
def Fld.ERRLOG_W3_SEV : Fld := ⟨4, 3⟩
def Fld.ERRLOG_W3_INJ : Fld := ⟨7, 1⟩
def Fld.ERRLOG_W3_CID : Fld := ⟨8, 6⟩
def Fld.ERRLOG_W3_CORE : Fld := ⟨14, 4⟩
def Fld.IST_REQ_KIND : Fld := ⟨0, 2⟩
def Fld.IST_REQ_TARGET : Fld := ⟨2, 7⟩
def Fld.IST_REQ_SEL : Fld := ⟨9, 3⟩
def Fld.IST_REQ_GO : Fld := ⟨12, 1⟩
def Fld.IST_REQ_TIMEOUT_US : Fld := ⟨16, 16⟩
def Fld.IST_STAT_RESULT : Fld := ⟨0, 4⟩
def Fld.IST_STAT_DETAIL : Fld := ⟨8, 8⟩
def Fld.IST_STAT_DRAIN_US : Fld := ⟨16, 16⟩
def Fld.IST_STAT_RUN_US : Fld := ⟨32, 32⟩
def Fld.IST_DTM_SLACK : Fld := ⟨0, 8⟩
def Fld.IST_DTM_LATE : Fld := ⟨8, 1⟩
def Fld.UPT_SRC_BASE : Fld := ⟨18, 34⟩
def Fld.UPT_CTL_STAGE : Fld := ⟨0, 1⟩
def Fld.UPT_CTL_COMMIT : Fld := ⟨1, 1⟩
def Fld.UPT_APPLY_KIND : Fld := ⟨0, 1⟩
def Fld.UPT_APPLY_TARGET : Fld := ⟨1, 7⟩
def Fld.UPT_APPLY_GO : Fld := ⟨8, 1⟩
def Fld.UPT_APPLY_TIMEOUT_US : Fld := ⟨16, 16⟩
def Fld.UPT_STAT_RESULT : Fld := ⟨0, 4⟩
def Fld.UPT_STAT_DETAIL : Fld := ⟨8, 8⟩
def Fld.UPT_STAT_DRAIN_US : Fld := ⟨16, 16⟩
def Fld.UPT_VER_INSERVICE : Fld := ⟨0, 32⟩
def Fld.UPT_VER_PENDING : Fld := ⟨32, 32⟩
def Fld.USQ_PATCH_STAT_VERSION : Fld := ⟨0, 32⟩
def Fld.USQ_PATCH_STAT_NPATCH : Fld := ⟨32, 11⟩
def Fld.USQ_PATCH_STAT_NHOOK : Fld := ⟨43, 6⟩
def Fld.USQ_PATCH_STAT_LOADING : Fld := ⟨49, 1⟩
def Fld.USQ_TRC_CTL_EN : Fld := ⟨0, 1⟩
def Fld.USQ_TRC_CTL_FILTER : Fld := ⟨1, 8⟩
def Fld.USQ_TRC_CTL_ALL : Fld := ⟨9, 1⟩
def Fld.USQ_TRC_CTL_HEAD : Fld := ⟨16, 32⟩
def Fld.USQ_TRC_ADDR : Fld := ⟨0, 13⟩
def Fld.USQ_TRC_SPACE : Fld := ⟨13, 1⟩
def Fld.USQ_TRC_TAG : Fld := ⟨14, 8⟩
def Fld.USQ_TRC_TB : Fld := ⟨32, 32⟩
def Fld.DMC_SEQ_STAT_VERSION : Fld := ⟨0, 32⟩
def Fld.DMC_SEQ_STAT_LOADING : Fld := ⟨32, 1⟩
def Fld.ATL_HEAD_HEAD : Fld := ⟨0, 32⟩
def Fld.ATL_ADDR_ADDR : Fld := ⟨0, 64⟩
def Fld.ATL_INFO_KIND : Fld := ⟨0, 3⟩
def Fld.ATL_INFO_WRITE : Fld := ⟨3, 1⟩
def Fld.ATL_INFO_CID : Fld := ⟨4, 6⟩
def Fld.ATL_INFO_SEC : Fld := ⟨10, 1⟩
def Fld.ATL_INFO_LVL : Fld := ⟨11, 2⟩
def Fld.ATL_INFO_CLUSTER : Fld := ⟨13, 7⟩
def Fld.ATL_INFO_CORE : Fld := ⟨20, 4⟩
def Fld.ATL_INFO_VEC : Fld := ⟨24, 13⟩
def Fld.ATL_TB_TB : Fld := ⟨0, 64⟩
def Fld.DEV_IDENT_STEPPING : Fld := ⟨0, 8⟩
def Fld.DEV_IDENT_VARIANT : Fld := ⟨8, 4⟩
def Fld.DEV_IDENT_PART : Fld := ⟨16, 16⟩
def Fld.DEV_UID_UID : Fld := ⟨0, 64⟩
def Fld.BLK_ID_ID : Fld := ⟨0, 12⟩
def Fld.BLK_ID_ISLAND : Fld := ⟨12, 8⟩
def Fld.BLK_ID_LEAD : Fld := ⟨20, 1⟩
def Fld.BLK_ID_LAYOUT : Fld := ⟨24, 8⟩
def Fld.BLK_CAP_ARB : Fld := ⟨0, 1⟩
def Fld.BLK_CAP_INJT : Fld := ⟨1, 4⟩
def Fld.BLK_STAT_RUN : Fld := ⟨0, 1⟩
def Fld.BLK_OWNER_CID : Fld := ⟨0, 6⟩
def Fld.BLK_OWNER_SEC : Fld := ⟨6, 1⟩
def Fld.BLK_OWNER_LOCK : Fld := ⟨7, 1⟩
def Fld.BLK_PWR_REQ : Fld := ⟨0, 3⟩
def Fld.BLK_PWR_AUTOWAKE : Fld := ⟨3, 1⟩
def Fld.BLK_PWR_STATE : Fld := ⟨4, 3⟩
def Fld.BLK_PWR_PENDING : Fld := ⟨7, 1⟩
def Fld.BLK_PWR_LAST_REASON : Fld := ⟨8, 4⟩
def Fld.BLK_PWR_REFUSALS : Fld := ⟨32, 32⟩
def Fld.IRQ_STAT_BLK : Fld := ⟨0, 63⟩
def Fld.IRQ_STAT_ERR : Fld := ⟨63, 1⟩
def Fld.IRQ_EN_EN : Fld := ⟨0, 64⟩
def Fld.IRQ_SET_SET : Fld := ⟨0, 64⟩
def Fld.IRQ_ROUTE_VEC : Fld := ⟨0, 13⟩
def Fld.IRQ_ROUTE_EN : Fld := ⟨13, 1⟩
def Fld.ERR_STAT_CE : Fld := ⟨0, 1⟩
def Fld.ERR_STAT_UE : Fld := ⟨1, 1⟩
def Fld.ERR_STAT_DENY : Fld := ⟨2, 1⟩
def Fld.ERR_STAT_OVER : Fld := ⟨3, 1⟩
def Fld.ERR_STAT_SEV : Fld := ⟨4, 3⟩
def Fld.ERR_COUNT_COUNT : Fld := ⟨0, 16⟩
def Fld.ERR_COUNT_UECOUNT : Fld := ⟨16, 16⟩
def Fld.ERR_INJECT_TYPE : Fld := ⟨0, 2⟩
def Fld.ERR_INJECT_CID : Fld := ⟨2, 6⟩
def Fld.ERR_INJECT_ARM : Fld := ⟨8, 1⟩
def Fld.ERR_ADDR_ADDR : Fld := ⟨0, 64⟩
def Fld.ERR_INFO_INFO : Fld := ⟨0, 64⟩
def Fld.BLK_FREEZE_FREEZE : Fld := ⟨0, 1⟩
def Fld.BLK_FREEZE_SYS : Fld := ⟨1, 1⟩
def Fld.BLK_FREEZE_IDLE : Fld := ⟨2, 1⟩
def Fld.ARB_CTL_HOLD_MAX : Fld := ⟨0, 16⟩
def Fld.ARB_CTL_PENALTY : Fld := ⟨16, 16⟩
def Fld.ARB_CTL_PARK : Fld := ⟨32, 1⟩
def Fld.ARB_HOG_HOG : Fld := ⟨0, 32⟩
def Fld.ARB_HOG_LAST : Fld := ⟨32, 5⟩
def Fld.ARB_REQ_ASK : Fld := ⟨0, 32⟩
def Fld.ARB_REQ_OWNER : Fld := ⟨32, 5⟩
def Fld.ARB_REQ_HELD : Fld := ⟨37, 1⟩
def Fld.ARB_TURN_TURN_0 : Fld := ⟨0, 4⟩
def Fld.ARB_TURN_TURN_1 : Fld := ⟨4, 4⟩
def Fld.ARB_TURN_TURN_2 : Fld := ⟨8, 4⟩
def Fld.ARB_TURN_TURN_3 : Fld := ⟨12, 4⟩
def Fld.ARB_TURN_TURN_4 : Fld := ⟨16, 4⟩
def Fld.ARB_TURN_TURN_5 : Fld := ⟨20, 4⟩
def Fld.ARB_TURN_TURN_6 : Fld := ⟨24, 4⟩
def Fld.ARB_TURN_TURN_7 : Fld := ⟨28, 4⟩
def Fld.ARB_TURN_TURN_8 : Fld := ⟨32, 4⟩
def Fld.ARB_TURN_TURN_9 : Fld := ⟨36, 4⟩
def Fld.ARB_TURN_TURN_10 : Fld := ⟨40, 4⟩
def Fld.ARB_TURN_TURN_11 : Fld := ⟨44, 4⟩
def Fld.ARB_TURN_TURN_12 : Fld := ⟨48, 4⟩
def Fld.ARB_TURN_TURN_13 : Fld := ⟨52, 4⟩
def Fld.ARB_TURN_TURN_14 : Fld := ⟨56, 4⟩
def Fld.ARB_TURN_TURN_15 : Fld := ⟨60, 4⟩
def Fld.ARB_PRIO_PRIO_0 : Fld := ⟨0, 4⟩
def Fld.ARB_PRIO_PRIO_1 : Fld := ⟨4, 4⟩
def Fld.ARB_PRIO_PRIO_2 : Fld := ⟨8, 4⟩
def Fld.ARB_PRIO_PRIO_3 : Fld := ⟨12, 4⟩
def Fld.ARB_PRIO_PRIO_4 : Fld := ⟨16, 4⟩
def Fld.ARB_PRIO_PRIO_5 : Fld := ⟨20, 4⟩
def Fld.ARB_PRIO_PRIO_6 : Fld := ⟨24, 4⟩
def Fld.ARB_PRIO_PRIO_7 : Fld := ⟨28, 4⟩
def Fld.ARB_PRIO_PRIO_8 : Fld := ⟨32, 4⟩
def Fld.ARB_PRIO_PRIO_9 : Fld := ⟨36, 4⟩
def Fld.ARB_PRIO_PRIO_10 : Fld := ⟨40, 4⟩
def Fld.ARB_PRIO_PRIO_11 : Fld := ⟨44, 4⟩
def Fld.ARB_PRIO_PRIO_12 : Fld := ⟨48, 4⟩
def Fld.ARB_PRIO_PRIO_13 : Fld := ⟨52, 4⟩
def Fld.ARB_PRIO_PRIO_14 : Fld := ⟨56, 4⟩
def Fld.ARB_PRIO_PRIO_15 : Fld := ⟨60, 4⟩
def Fld.LG_PUBKEY_KEY : Fld := ⟨0, 64⟩
def Fld.LG_CERT_CERT : Fld := ⟨0, 64⟩
def Fld.CMT_ERR_INFO_REQ : Fld := ⟨0, 6⟩
def Fld.CMT_ERR_INFO_COLOR : Fld := ⟨6, 6⟩
def Fld.CMT_ERR_INFO_OWNER : Fld := ⟨12, 6⟩
def Fld.CMT_ERR_INFO_OWNED : Fld := ⟨18, 1⟩
def Fld.CMT_ERR_INFO_SOURCE : Fld := ⟨19, 3⟩
def Fld.DMC_ERR_INFO_KIND : Fld := ⟨0, 2⟩
def Fld.DMC_ERR_INFO_SC : Fld := ⟨2, 1⟩
def Fld.DMC_ERR_INFO_RANK : Fld := ⟨3, 2⟩
def Fld.DMC_ERR_INFO_BG : Fld := ⟨5, 3⟩
def Fld.DMC_ERR_INFO_BA : Fld := ⟨8, 2⟩
def Fld.DMC_ERR_INFO_ROW : Fld := ⟨10, 17⟩
def Fld.DMC_ERR_INFO_CB : Fld := ⟨27, 7⟩
def Fld.DMC_ERR_INFO_SYM : Fld := ⟨34, 4⟩
def Fld.DMC_ERR_INFO_WORD : Fld := ⟨38, 3⟩
def Fld.DMC_ERR_INFO_CID : Fld := ⟨41, 2⟩
def Fld.DMC_ERR_INFO_SCRUB : Fld := ⟨43, 1⟩
def Fld.IOM_ERR_INFO_RID : Fld := ⟨0, 16⟩
def Fld.IOM_ERR_INFO_ENTRY : Fld := ⟨16, 6⟩
def Fld.IOM_ERR_INFO_DETAIL : Fld := ⟨22, 12⟩
def Fld.FAB_ERR_INFO_REASON : Fld := ⟨0, 4⟩
def Fld.FAB_ERR_INFO_SRC : Fld := ⟨8, 18⟩
def Fld.FAB_ERR_INFO_TYPE : Fld := ⟨26, 8⟩
def Fld.DISCARD_COUNT : Fld := ⟨0, 5⟩
def Fld.DISCARD_DEV : Fld := ⟨5, 1⟩
def Fld.DISCARD_SPILL : Fld := ⟨6, 1⟩
def Fld.DISCARD_MAINT : Fld := ⟨7, 1⟩
def Fld.DISCARD_CORE : Fld := ⟨8, 4⟩
def Fld.DISCARD_CID : Fld := ⟨12, 6⟩
def Fld.DISCARD_KIND : Fld := ⟨18, 2⟩
def Fld.QD_CTL_V : Fld := ⟨0, 1⟩
def Fld.QD_CTL_KIND : Fld := ⟨1, 1⟩
def Fld.QD_CTL_LVL : Fld := ⟨2, 2⟩
def Fld.QD_CTL_PUSHLVL : Fld := ⟨4, 2⟩
def Fld.QD_CTL_NOSTEAL : Fld := ⟨6, 1⟩
def Fld.QD_CTL_PREEMPT : Fld := ⟨7, 1⟩
def Fld.QD_CTL_TENANT_FENCE : Fld := ⟨8, 1⟩
def Fld.QD_CTL_REMOTE : Fld := ⟨9, 1⟩
def Fld.QD_CTL_TAGMODE : Fld := ⟨10, 2⟩
def Fld.QD_CTL_LOG2DEPTH : Fld := ⟨12, 5⟩
def Fld.QD_CTL_CID : Fld := ⟨17, 6⟩
def Fld.QD_CTL_TAG : Fld := ⟨32, 16⟩
def Fld.QD_CTL_QUANTUM_US : Fld := ⟨48, 16⟩
def Fld.SATTR_CID : Fld := ⟨0, 6⟩
def Fld.SATTR_SEC : Fld := ⟨6, 1⟩
def Fld.SATTR_LOCK : Fld := ⟨7, 1⟩
def Fld.LGFLAGS_GRAN : Fld := ⟨0, 6⟩
def Fld.LGFLAGS_INTERRUPTED : Fld := ⟨6, 1⟩
def Fld.LGFLAGS_RESUMED : Fld := ⟨7, 1⟩
def Fld.LGFLAGS_SAT_ANY : Fld := ⟨8, 1⟩
def Fld.LGFLAGS_OVERFLOW : Fld := ⟨9, 1⟩
def Fld.LGFLAGS_TB_STEP : Fld := ⟨10, 1⟩
def Fld.LGFLAGS_SYNC : Fld := ⟨11, 2⟩
def Fld.LGFLAGS_PARTIAL : Fld := ⟨13, 1⟩
def Fld.LGFLAGS_LOSS : Fld := ⟨14, 1⟩
def Fld.LGFLAGS_GENESIS : Fld := ⟨15, 1⟩
def Fld.LGFLAGS_THROTTLE : Fld := ⟨16, 1⟩
def Fld.FSYN_LVL : Fld := ⟨0, 3⟩
def Fld.FSYN_STG : Fld := ⟨3, 1⟩
def Fld.FSYN_S1PTW : Fld := ⟨4, 1⟩
def Fld.FSYN_WNR : Fld := ⟨5, 1⟩
def Fld.FSYN_FETCH : Fld := ⟨6, 1⟩
def Fld.FSYN_ATOM : Fld := ⟨7, 1⟩
def Fld.FSYN_TYPE : Fld := ⟨8, 4⟩
def Fld.FSYN_IPAV : Fld := ⟨12, 1⟩
def Fld.ECAUSE_CAUSE : Fld := ⟨0, 8⟩
def Fld.ECAUSE_FROM : Fld := ⟨8, 2⟩
def Fld.ECAUSE_DS : Fld := ⟨10, 1⟩
def Fld.ECAUSE_STK : Fld := ⟨11, 1⟩
def Fld.ECAUSE_TKO : Fld := ⟨12, 1⟩
def Fld.ECAUSE_ESC : Fld := ⟨13, 1⟩
def Fld.ECAUSE_DEF : Fld := ⟨14, 1⟩
def Fld.ECAUSE_IRQ : Fld := ⟨16, 6⟩
def Fld.ESR_V : Fld := ⟨0, 1⟩
def Fld.ESR_DZ : Fld := ⟨1, 1⟩
def Fld.ESR_OVTRAP : Fld := ⟨2, 1⟩
def Fld.ESR_DZTRAP : Fld := ⟨3, 1⟩
def Fld.ESR_LVL : Fld := ⟨8, 2⟩
def Fld.ESR_SEC : Fld := ⟨10, 1⟩
def Fld.ESR_IE : Fld := ⟨11, 1⟩
def Fld.ESR_SCD : Fld := ⟨16, 5⟩

/-- The row that holds an offset, with the instance index; none where the offset is reserved (R490). -/
def findRow : List RegRow → Nat → Option (RegRow × Nat)
  | [], _ => none
  | r :: t, off =>
    if r.off ≤ off ∧ off < r.off + max 8 (r.count * r.stride) ∧ (r.count ≤ 1 ∨ (off - r.off) % r.stride = 0) ∧ (1 < r.count ∨ off = r.off) then
      some (r, if r.count ≤ 1 then 0 else (off - r.off) / r.stride)
    else findRow t off

/-- The row of an offset of a block: the common layout first, then the block's own map. -/
def Blk.row (b : Blk) (off : Nat) : Option (RegRow × Nat) :=
  match findRow commonRows off with
  | some r => some r
  | none => findRow b.rows off

/-- The reset value that a register's fields give. -/
def rowReset : List FieldRow → Nat
  | [] => 0
  | f :: t => (f.rst <<< f.lo) + rowReset t

end Sys2Proof.Machine
end

