-- ==== Sys2Proof/Machine/State.lean ====
section
/-! DEFINITION. The state of the ZX-1536 as plain data: the cores, the clusters, the coherent lines and DRAM, the
register atlas, and the engines of each chapter with what they hold in flight. -/

namespace Sys2Proof.Machine

/-- Why the block stops. -/
inductive Fault where
  /-- Raised by the meaning of a command whose operands are not those of any row (Instr.wf is false): a literal without
  immediate parcels, more immediate parcels than a format holds. Safe: no hardware step is lost. -/
  | illFormed
  deriving DecidableEq, Repr

/-- Why the model gives no meaning. -/
inductive Refusal where
  /-- Raised by an arm of exec that has no meaning yet, with the row's mnemonic. Safe: nothing is claimed of it. -/
  | notModelled (mnemonic : String)
  deriving DecidableEq, Repr

/-! ### The core (chapters 2 to 8) -/

/-- A bank of the operand stack registers (R30). -/
structure Bank where
  osb : Word := 0#64
  osl : Word := 0#64
  osp : Word := 0#64
  deriving DecidableEq, Repr

/-- The system registers marked "yes" in the CSYNC column (R45). -/
structure SyncRegs where
  evbK : Word := 0#64
  evbHW : Word := 0#64
  ttag : Word := 0#64
  asid : Word := 0#64
  ptbS1 : Word := 0#64
  tctlS1 : Word := 0#64
  vmid : Word := 0#64
  ptbS2 : Word := 0#64
  tctlS2 : Word := 0#64
  coreCtl : Word := 0#64
  fmask : Word := 0x3F#64
  deriving DecidableEq, Repr

/-- The exception registers of one handler level (R116, R122): FIPA exists at HW only. -/
structure ExcRegs where
  epc : Word := 0#64
  esr : Word := 0#64
  ecause : Word := 0#64
  escr : Word := 0#64
  fsyn : Word := 0#64
  faddr : Word := 0#64
  fipa : Word := 0#64
  deriving DecidableEq, Repr

/-- The performance counter registers (R156 to R158); `irq` marks counters whose overflow interrupt is still to be posted. -/
structure Perf where
  pmc : List Word := List.replicate 8 0#64
  pmsel : List Word := List.replicate 8 0#64
  pmovf : Word := 0#64
  pmctl : Word := 0#64
  pmdtm : Word := 0#64
  irq : BitVec 8 := 0#8
  deriving DecidableEq, Repr

/-- Memory types in increasing strength (R168). -/
inductive MemType where
  | wb | nc | devPosted | devStrict
  deriving DecidableEq, Repr

/-- What a store buffer entry does when it drains (R184). -/
inductive SbKind where
  | store | clean | flush | inv | iclean
  deriving DecidableEq, Repr

/-- A line that a maintenance entry names, with the lowest address of the operation in it; `act`: the operation acts on it, which it
does not in a page of another type than normal write-back (R216). -/
structure MaintLine where
  line : Nat
  va : Word
  ipa : Option Nat
  act : Bool
  deriving DecidableEq, Repr

/-- An entry of the store buffer (R184). A store holds its bytes within one line; a maintenance entry holds its lines.
`bar` marks that an SBAR stands before the entry; `lvl`, `va` and `ipa` are those of the committing instruction. -/
structure SbEntry where
  kind : SbKind
  pa : Nat := 0
  size : Nat := 0
  data : Word := 0#64
  lines : List MaintLine := []
  mt : MemType := .wb
  va : Word := 0#64
  ipa : Option Nat := none
  lvl : BitVec 2 := 0#2
  /-- the tag of the instruction that committed the entry -/
  tag : BitVec 16 := 0#16
  spill : Bool := false
  bar : Bool := false
  parityBad : Bool := false
  deriving DecidableEq, Repr

/-- An error of a drained entry waiting to be reported (R122), with what its syndrome holds. -/
structure Deferred where
  cause : Nat
  addr : Word
  wnr : Bool
  ipa : Option Nat
  deriving DecidableEq, Repr

/-- The syndrome of a fault (R177). `hw` says that the cause is taken at HW whatever R111's table gives by level (the
stage-2 part of a walk, R175). -/
structure FaultInfo where
  cause : Nat
  lvl : Nat := 0
  stg : Bool := false
  s1ptw : Bool := false
  wnr : Bool := false
  fetch : Bool := false
  atom : Bool := false
  typ : Nat := 0
  ipav : Bool := false
  addr : Word := 0#64
  ipa : Nat := 0
  hw : Bool := false
  deriving DecidableEq, Repr

/-- Which TLB of the cluster holds an entry (R178). -/
inductive TlbLoc where
  | cluster
  | itlb (core : Nat)
  | dtlb (core : Nat)
  deriving DecidableEq, Repr

/-- The three kinds of TLB entry (R178). -/
inductive TlbKind where
  | combined | s2page | table (stage lvl : Nat)
  deriving DecidableEq, Repr

/-- A TLB entry. For a table entry `inp` is the address of the entry and `out` its value; for the others they are the
input and output page addresses. `s1` and `s2` hold the leaves' permission bits [10:0] used by a hit. -/
structure TlbEntry where
  loc : TlbLoc
  kind : TlbKind
  vmid : Nat
  asid : Nat
  glob : Bool
  size : Nat
  inp : Nat
  out : Nat
  ipa : Nat
  s1 : Option Nat
  s2 : Option Nat
  s1Lvl : Nat
  s2Lvl : Nat
  deriving DecidableEq, Repr

/-- An outstanding line fill (R142); `demand`: a load has taken its data, which it writes in program order whatever returns first
(R188). -/
structure Miss where
  pa : Nat
  excl : Bool
  demand : Bool := false
  deriving DecidableEq, Repr

/-- A branch target buffer entry (R144). -/
structure BtbEntry where
  set : Nat
  tag : BitVec 12
  target : Word
  deriving DecidableEq, Repr

/-- The task a core runs: what its frame carried and what a save needs (R235 to R237). -/
structure Task where
  qid : BitVec 18
  lvl : BitVec 2
  /-- QD_CTL.PREEMPT and QUANTUM_US as read at the claim -/
  preempt : Bool
  quantum : Nat
  stolen : Bool
  accInstr : Nat
  accNs : Nat
  enqTb : Word
  user : List Word
  startTb : Nat
  startInstr : Nat
  deriving DecidableEq, Repr

/-- What an exception entry overwrote, kept until the handler's first instruction so that an interrupt can take the entry
over (R133): the level and counter registers before the commit, and the cause that would be dropped. -/
structure EntryRec where
  cause : Nat
  irq : Nat
  edge : Bool
  deferred : Option Deferred
  opAddr : Word
  epc : Word
  saved : ExcRegs
  level : BitVec 2
  perf : Perf
  deriving DecidableEq, Repr

/-- What a core does (R113, R238, R248, R299). -/
inductive RunState where
  | off | parked | running | waiting | wcalling | pushing | halted
  deriving DecidableEq, Repr

/-- One core. -/
structure Core where
  run : RunState := .off
  pc : Word := 0#64
  lr : Word := 0#64
  fp : Word := 0#64
  /-- the stack cache, top entry first; SR.SCD is its length -/
  stack : List Word := []
  v : Bool := false
  dz : Bool := false
  ovtrap : Bool := false
  dztrap : Bool := false
  ie : Bool := false
  lvl : BitVec 2 := 0#2
  bankU : Bank := {}
  bankK : Bank := {}
  bankHW : Bank := {}
  excK : ExcRegs := {}
  excHW : ExcRegs := {}
  /-- the CSYNC registers as last written, and as in effect -/
  sync : SyncRegs := {}
  eff : SyncRegs := {}
  tcmpK : Word := 0xFFFFFFFFFFFFFFFF#64
  tcmpHW : Word := 0xFFFFFFFFFFFFFFFF#64
  qid : BitVec 18 := 0#18
  perf : Perf := {}
  /-- an MTS to a performance counter register that acts from the next instruction: its level, number and value (R158) -/
  perfNext : Option (Nat × Nat × Word) := none
  /-- the store buffer, oldest first -/
  sb : List SbEntry := []
  /-- an SBAR waits to be placed before the next entry -/
  sbar : Bool := false
  /-- device-posted stores that have left the buffer and are not yet performed, oldest first (R192) -/
  posted : List SbEntry := []
  deferred : List Deferred := []
  misses : List Miss := []
  lineBuf : Option Nat := none
  rstack : List Word := []
  btb : List BtbEntry := []
  task : Option Task := none
  lastTag : Option (BitVec 16) := none
  instrs : Nat := 0
  useInstr : Nat := 0
  chargeTb : Nat := 0
  /-- the tag that the use counted since `chargeTb` is charged to (R46) -/
  useTag : BitVec 16 := 0#16
  entry : Option EntryRec := none
  wcall : Option (BitVec 16) := none
  wresult : Option (Word × Word) := none
  remote : Option (BitVec 16) := none
  tlbPend : List Nat := []
  farOld : Word := 0#64
  /-- in IDLE (R421) -/
  idle : Bool := false
  /-- a reset of the core is draining its store buffer; the KIND of R203 -/
  resetting : Option Nat := none
  /-- the core has failed and the spare has its CORE_ID (R15, R132) -/
  retired : Bool := false
  /-- something may have become takeable since the core parked (R248) -/
  woken : Bool := false
  /-- a frame was published into a home queue since WAIT began (R238) -/
  homeFrame : Bool := false
  /-- a frame was published into home slot 0 while another queue's task runs (R250) -/
  hot : Bool := false
  deriving DecidableEq, Repr

/-! ### Clusters and caches (chapters 7 and 9) -/

/-- The states of a copy (R209). -/
inductive Mesi where
  | m | e | s
  deriving DecidableEq, Repr

/-- A cluster's copy of a line: its L2 state, and the cores whose L1D and L1I hold it. -/
structure L2Copy where
  cl : Nat
  st : Mesi
  d : List (Nat × Mesi)
  i : List Nat
  deriving DecidableEq, Repr

/-- A line present in the L3 (R209): its coherent value, the dirty and poison bits, and the copies above it. -/
structure CLine where
  data : BitVec 512
  dirty : Bool
  poison : Bool
  band : Nat
  way : Nat
  copies : List L2Copy
  deriving DecidableEq, Repr

/-- Why a cluster or channel is drained. -/
inductive DrainBy where
  | cmt | test (comp : Nat) | patch
  deriving DecidableEq, Repr

/-- A cluster's own state beside its cores and pages. -/
structure Cluster where
  tlb : List TlbEntry := []
  inv : List TlbInv := []
  mask : BitVec 32 := 0#32
  peer : List (Nat × BitVec 32) := []
  /-- tasks that a failed core has lost: the marks on their frames (R15), oldest first -/
  failedTasks : List Task := []
  spareUsed : Bool := false
  /-- the time of the last AES or CLMUL instruction, and of the last refusal of crypto leave while it stands (R417) -/
  cryptoUse : Nat := 0
  cryptoRef : Option Nat := none
  drain : Option DrainBy := none
  resetKind : Option Nat := none
  /-- the compartment for which the cluster last ran (R264) -/
  ranAs : Nat := 0
  /-- the operating point towards which the cluster steps (R420) -/
  ramp : Option Nat := none
  deriving DecidableEq, Repr

/-! ### Metering and the ledger (chapter 13) -/

/-- The meters of one key, index 0 to 7 (R310). -/
structure KeyUse where
  cid : Nat
  tag : Nat
  m : List Nat
  deriving DecidableEq, Repr

/-- A metering point: its bank of the open span and of the closing one (R316). -/
structure MeterPt where
  cur : List KeyUse := []
  old : List KeyUse := []
  /-- use since the last energy interval, and the part of it before the last strike (R312) -/
  intv : List KeyUse := []
  intvOld : List KeyUse := []
  deriving DecidableEq, Repr

/-- A span being counted (R315 to R319). -/
structure Span where
  tbStart : Word := 0#64
  tbEnd : Word := 0#64
  keys : List KeyUse := []
  ovf : List Nat := List.replicate 8 0
  overflow : Bool := false
  bandMs : List Nat := List.replicate 64 0
  energyUn : Nat := 0
  dropped : Nat := 0
  lost : Bool := false
  stepNs : Int := 0
  stepped : Bool := false
  resumed : Bool := false
  interrupted : Bool := false
  throttle : Bool := false
  minutes : Nat := 0
  /-- sync state and error bound at the strike that ended the span (R318) -/
  sync : Nat := 0
  syncErr : Nat := 0
  deriving DecidableEq, Repr

/-- A ledger record (R320). -/
structure Record where
  seq : Word
  span : Span
  gran : Nat
  loss : Bool
  lossCount : Nat
  genesis : Bool
  node : Nat
  prevHash : List Byte
  hash : List Byte
  sig : List Byte
  bad : Bool := false
  deriving DecidableEq, Repr

/-- The checkpoint in MRAM (R328). -/
structure Checkpoint where
  tb : Word
  openSpan : Span
  accum : Option Span
  closed : Option Span
  /-- the fabric's timebase status at that time (R318) -/
  sync : Nat
  syncErr : Nat
  deriving DecidableEq, Repr

/-- The ledger engine. -/
structure Ledger where
  records : List Record := []
  openSpan : Span := {}
  closing : Option Span := none
  accum : Option Span := none
  /-- the strike that closes the span is past T + 1 ms -/
  closed : Bool := false
  genesis : Bool := true
  lastHash : List Byte := List.replicate 48 0#8
  lastLoss : Nat := 0
  gran : Nat := 1
  checkpoint : Option Checkpoint := none
  metering : Bool := false
  /-- metering was interrupted and the records of R328 are still to be written -/
  stopped : Bool := false
  nextPartial : Bool := false
  /-- the free space was at or above 20 % at the last strike and GRAN is not 1 (R325) -/
  relax : Bool := false
  /-- the last millisecond boundary of the timebase counted (R313) -/
  msDone : Option Nat := none
  /-- a running export: base, limit in bytes, newest record at GO -/
  exporting : Option (Nat × Nat × Nat) := none
  deriving DecidableEq, Repr

/-! ### DRAM (chapter 14) -/

/-- A request in a bank queue, or waiting for one at its home slice (R336, R337). `merged`: not a partial write still to be merged;
`fetched`: the line of such a write has been read; `key`: what its transfer is charged to (R311). -/
structure DramReq where
  pa : Nat
  cid : Nat
  wr : Bool
  data : BitVec 512
  mask : BitVec 64
  merged : Bool
  poison : Bool := false
  fetched : Bool := false
  key : Option (Nat × Nat) := none
  deriving DecidableEq, Repr

/-- A running sparing copy (R352). -/
structure SpareCopy where
  target : Nat
  spare : Nat
  deriving DecidableEq, Repr

/-- The controllers' own state. -/
structure Dram where
  geom : DramGeom := {}
  /-- bank queues, by subchannel * 64 + half * 32 + bank -/
  q : List (Nat × List DramReq) := []
  /-- requests whose half is full or whose channel is held, at their home slices, oldest first (R336, R347) -/
  wait : List DramReq := []
  /-- open rows plus 1, by subchannel * 256 + rank * 32 + bank -/
  rows : List (Nat × Nat) := []
  hits : List (Nat × Nat) := []
  rot : List (Nat × Nat) := []
  writing : List (Nat × Bool) := []
  draining : List (Nat × Bool) := []
  /-- slots since the phase began, by subchannel (R341) -/
  since : List (Nat × Nat) := []
  /-- whether the current column slot has carried its command, by subchannel (R341) -/
  used : List (Nat × Bool) := []
  /-- same-bank refreshes done, by subchannel (R344) -/
  refreshed : List (Nat × Nat) := []
  /-- column slots in effect, a 64-bit mask by subchannel -/
  cols : List (Nat × Nat) := []
  /-- column slots are computed again at the next slot 0: a color sweep has ended (R340) -/
  recalc : List Nat := []
  pages : List (Nat × Bool) := []
  poisonTab : List (Nat × List Nat) := []
  fails : List (Nat × Nat) := []
  held : List Nat := []
  copy : Option SpareCopy := none
  /-- a channel whose copy waits for the training of the spare (R345, R352) -/
  copyWait : Option Nat := none
  /-- failed attempts of full training, by channel (R345) -/
  tries : List (Nat × Nat) := []
  zeroed : Bool := false
  /-- times of corrected errors, by subchannel * 16 + symbol (R352) -/
  ce : List (Nat × List Nat) := []
  deriving DecidableEq, Repr

/-! ### I/O (chapter 15) -/

/-- An event on its way to a router (R374 to R376): its global vector, the source's attribute, and what an event frame
carries. -/
structure Ev where
  vec : Nat
  attr : Nat
  cls : Nat
  src : Nat
  port : Nat
  sc1 : Word
  deriving DecidableEq, Repr

/-- A held MODE-1 event (R377). -/
structure Held where
  ev : Ev
  queue : Nat
  deriving DecidableEq, Repr

/-- An IOTLB entry, tagged by requester entry (R362). -/
structure IoTlb where
  port : Nat
  ent : Nat
  iova : Nat
  ipa : Nat
  pa : Nat
  size : Nat
  r : Bool
  w : Bool
  d1 : Bool
  d2 : Bool
  mt : MemType
  deriving DecidableEq, Repr

/-- A job a DMA engine holds (R369). -/
structure DmaJob where
  words : List Word
  qid : Nat
  cid : Nat
  deriving DecidableEq, Repr

/-- The ports', engines' and routers' own state. `evq` holds events that the router has not yet taken up. -/
structure Io where
  evq : List Ev := []
  held : List Held := []
  iotlb : List IoTlb := []
  atsWait : List (Nat × Nat) := []
  links : List (Nat × Nat) := []
  aer : List (Nat × Nat) := []
  ideStopped : List Nat := []
  prgSent : List (Nat × Nat) := []
  bifNow : List (Nat × Nat) := []
  jobs : List (Nat × Option DmaJob) := []
  dmaStop : List Nat := []
  deriving DecidableEq, Repr

/-! ### The fabric (chapter 16) -/

/-- A fabric port's link state. -/
structure FabPort where
  credits : List Nat := [512, 512, 512, 512]
  nextSeq : Nat := 0
  expect : Nat := 0
  replay : List Frame := []
  waitq : List Frame := []
  crcErrs : List Nat := []
  viols : List Nat := []
  tries : Nat := 0
  nakDue : Option (Nat × Nat) := none
  replayFrom : Option Nat := none
  helloOk : Bool := false
  /-- the link was up and retrains: its frames are held and its routes stay (R383) -/
  again : Bool := false
  /-- the time at which the exchange in progress began (R407) -/
  syncAt : Option Word := none
  deriving DecidableEq, Repr

/-- A command read from a ring (R397), with its index and what it waits for. -/
structure FxcCmd where
  idx : Nat
  words : List Word
  started : Bool
  opids : List Nat
  done : Nat
  status : Option Nat
  result : Word
  startTb : Nat
  deriving DecidableEq, Repr

/-- A group's generation in progress (R401). -/
structure GroupGen where
  gen : Nat := 0
  localC : Option Int := none
  fromPorts : List (Nat × Int) := []
  rop : Option Nat := none
  mixed : Bool := false
  /-- a part of the group is lost to it: the root has been told (R392) -/
  lost : Bool := false
  deriving DecidableEq, Repr

/-- The fabric unit's own state. -/
structure Fab where
  ports : List (Nat × FabPort) := []
  cmds : List (Nat × List FxcCmd) := []
  groups : List (Nat × GroupGen) := []
  snaps : List (Nat × Word) := []
  gets : List (Nat × Nat) := []
  nextOp : Nat := 0
  lastSync : Nat := 0
  hops : Nat := 0
  /-- what a snapshot captured, by compartment (R404) -/
  shots : List (Nat × List Word) := []
  /-- the ports on which the last RESET left the device (R405) -/
  resetOut : List Nat := []
  deriving DecidableEq, Repr

/-! ### Power, start-up, patches, pins (chapters 17 to 22) -/

/-- A handshake in progress for an island (R424): the blocks that have not yet answered with ACK, and the reason of the
first refusal. -/
structure Handshake where
  island : Nat
  target : Nat
  device : Bool
  fromW : Bool
  waiting : List Nat
  startTb : Nat
  refused : Option Nat := none
  /-- begun by Index (R421) -/
  auto : Bool := false
  deriving DecidableEq, Repr

/-- An outstanding leave (R416). -/
structure Leave where
  op : LeaveOp
  credits : Nat
  tb : Nat
  deriving DecidableEq, Repr

/-- A declared event in force (R11, R437): its kind, detail and start, and the ring position of its start entry. -/
structure Declared where
  kind : Nat
  detail : Nat
  start : Word
  pos : List (Nat × Nat)
  deriving DecidableEq, Repr

/-- The power controller's, remontoir's and Index's own state. -/
structure Power where
  leaves : List Leave := []
  hs : List Handshake := []
  /-- a REQ written while a handshake is pending for the island (R424): the request, and whether W made it -/
  newReq : List (Nat × (Nat × Bool)) := []
  /-- measurements above ILIM in a row (R419) -/
  overs : Nat := 0
  declared : List Declared := []
  /-- voltage margins in mV by island (R431) -/
  margins : List (Nat × Nat) := []
  /-- level 1 is in force on its own trigger (R435) -/
  level1 : Bool := false
  prochotOut : Bool := false
  prochotIn : Bool := false
  droops : List (Nat × Nat) := []
  /-- islands that an access is waking (R430) -/
  wakeWait : List Nat := []
  /-- the operating points Index has decided, by cluster, and those of the mesh islands, below nominal under the throttle -/
  wanted : List (Nat × Nat) := []
  meshPt : List (Nat × Nat) := []
  /-- what W has last written into the BLK_PWR.REQ of a page, by page: the state to which it agrees (R297) -/
  agreed : List (Nat × Nat) := []
  /-- when a trigger of the emergency throttle was last present (R435) -/
  trigTb : Nat := 0
  deriving DecidableEq, Repr

/-- Where the Keeper and the device stand (R445, R448). -/
inductive BootState where
  | noPower | starting | limp | recoveryHold | dramHold | off | offLocked | waitHandover | running
  deriving DecidableEq, Repr

/-- A microcode image in the Keeper's boot SRAM (R480, R482): its version and decrypted payload. -/
structure UImage where
  version : Nat
  payload : List Byte
  deriving DecidableEq, Repr

/-- The start-up sequence, the flash, the MRAM images and the patch images. `wimg` and `ifw` hold containers by slot. -/
structure Boot where
  st : BootState := .noPower
  /-- SPI NOR, 32 MiB; an erased byte reads 0xFF -/
  flash : List Host.Cell := []
  wimg : List (Nat × List Byte) := []
  ifw : List (Nat × List Byte) := []
  inService : Option UImage := none
  pending : Option UImage := none
  hovLocked : Bool := false
  handedOver : Bool := false
  mgmtReply : Option (Word × Word) := none
  /-- the lifecycle that the Keeper has read: manufacturing, or deployed (R308, R515) -/
  manufacturing : Bool := false
  /-- kinds whose anti-rollback value in MRAM was uncorrectable and stands at 0xFFFF_FFFF until W writes it again (R461) -/
  arbBad : List Nat := []
  /-- the report whose later steps wait in DRAM hold (R448) -/
  report : Option StartReport := none
  deriving DecidableEq, Repr

/-- A warden request (R299, R300): the sender, its arguments, and the warden core it was delivered to. -/
structure WReq where
  id : BitVec 16
  cid : Nat
  lvl : BitVec 2
  cluster : Nat
  core : Nat
  ttag : Nat
  arg : Word
  fn : Word
  delivered : Option Nat
  tb : Nat
  deriving DecidableEq, Repr

/-- The warden block's own state (R299 to R307). -/
structure Warden where
  q : List WReq := []
  lastComp : Nat := 63
  lastCore : Nat := 15
  openedOnce : Bool := false
  restarted : Bool := false
  down : Bool := false
  /-- when the watchdog last loaded its count (R305) -/
  swdTb : Nat := 0
  deriving DecidableEq, Repr

/-- The states of the JTAG TAP (R515, IEEE 1149.1). -/
inductive Tap where
  | reset | idle | selDr | capDr | shDr | ex1Dr | pauDr | ex2Dr | updDr | selIr | capIr | shIr | ex1Ir | pauIr | ex2Ir | updIr
  deriving DecidableEq, Repr

/-- The instructions that the TAP offers in the deployed lifecycle, and those that it offers besides in the manufacturing lifecycle:
EXTEST and the debug instructions (R515). -/
inductive TapIns where
  | idcode | bypass | sample | extest | debug
  deriving DecidableEq, Repr

/-- The JTAG port (R515): its state, its instruction, and the two shift registers. -/
structure Jtag where
  st : Tap := .reset
  ir : TapIns := .idcode
  irShift : BitVec 4 := 0#4
  dr : BitVec 32 := 0#32
  tdo : Bool := false
  deriving DecidableEq, Repr

/-- The low-speed output pins (R509, R516): 1 is asserted. -/
structure Pins where
  faultN : Bool := false
  thermtripN : Bool := false
  pwrgood : Bool := false
  deriving DecidableEq, Repr

/-- An in-service test from its GO to its end (R469); `running` from step 4 on. -/
structure IstRun where
  kind : Nat
  target : Nat
  sel : Nat
  running : Bool
  deriving DecidableEq, Repr

/-- The patch agent's apply in progress (R483). -/
structure Apply where
  kind : Nat
  target : Nat
  ver : Nat
  deriving DecidableEq, Repr

/-- An arbiter's state (R283 to R290). -/
structure Arb where
  owner : Nat := 0
  held : Bool := false
  parked : Bool := false
  hold : Nat := 0
  last : List (Nat × Nat) := []
  penal : List (Nat × Nat) := []
  suspended : List Nat := []
  deriving DecidableEq, Repr

/-- A barrier generation (R281). -/
structure Barrier where
  parts : List Nat := []
  /-- arrivals of each cluster not yet used by a release -/
  counts : List (Nat × Nat) := []
  per : Nat := 1
  running : Bool := false
  deriving DecidableEq, Repr

/-- Compartment and wheel state that is not a register: maps in effect, sweeps, re-steers, barriers, arbiters
(chapter 11). -/
structure Comp where
  /-- beat maps in effect, by wheel * 64 + slot; the BEAT_MAP registers hold the values last written -/
  maps : List (Nat × Word) := []
  lastBorrow : List (Nat × Nat) := []
  /-- new values of colors being swept -/
  sweeps : List (Nat × Word) := []
  /-- running re-steers: key comp * 64 + j, the old band, the sets taken (R271) -/
  resteer : List (Nat × Nat × Nat) := []
  /-- the tree of each used set of a cache, by set key (R204, R208) -/
  plru : List (Nat × Nat) := []
  /-- the line last put into each way of an L1 or L2, by set key * 16 + way: its number + 1; the way is empty where the cache no longer
  holds that line -/
  tags : List (Nat × Nat) := []
  bars : List (Nat × Barrier) := []
  arbs : List (Nat × Arb) := []
  bandFlush : Option (Nat × Nat) := none
  /-- ways waiting for the spare by slice, the running one first (R222, R224) -/
  spare : List (Nat × List Nat) := []
  /-- times of corrected errors, by slice * 32 + way -/
  wayErrs : List (Nat × List Nat) := []
  deriving DecidableEq, Repr

/-- The ordering codes of the part: ZX1536-B1-S and ZX1536-B1-L (R1). -/
inductive OrderCode where
  | b1s | b1l
  deriving DecidableEq, Repr

/-- The whole block. `pending` is the queue of commands, first in, first out. -/
structure State where
  pending : List Instr := []
  /-- the code the part was ordered by, fixed for its life (R1, R4). DESIGN CHOICE at reset, log 14 -/
  code : OrderCode := .b1s
  /-- the model's own count of open values taken -/
  free : Nat := 0
  tb : BitVec 64 := 0#64
  /-- a TBC_SET waiting for the next correction, and the slew not yet applied, in 10^-6 ns (R443) -/
  tbSet : Option Word := none
  slewAcc : Int := 0
  /-- the register atlas: key page * 4096 + offset; an unlisted register reads its reset value -/
  regs : List (Nat × Word) := []
  /-- values still in force of registers that hold a newer value, whose heading names a later moment for its effect -/
  latched : List (Nat × Word) := []
  cores : List (Nat × Core) := []
  clusters : List (Nat × Cluster) := []
  /-- DRAM by byte; an unlisted byte reads 0 -/
  mem : List Host.Cell := []
  /-- DRAM lines stored with poison -/
  poison : List Nat := []
  /-- lines present in the L3, by PA[51:6] -/
  lines : List (Nat × CLine) := []
  comp : Comp := {}
  warden : Warden := {}
  meters : List (Nat × MeterPt) := []
  ledger : Ledger := {}
  dram : Dram := {}
  io : Io := {}
  fab : Fab := {}
  power : Power := {}
  boot : Boot := {}
  apply : Option Apply := none
  /-- tests by compartment page -/
  ist : List (Nat × IstRun) := []
  /-- the microcode image in the patch RAM of each cluster n and, at 96 + n, in the sequencer of each channel n (R480) -/
  units : List (Nat × UImage) := []
  jtag : Jtag := {}
  pins : Pins := {}
  deriving DecidableEq, Repr

/-- The state when VSTBY powers on and nothing has run: every field at the value the manual gives or the log names. -/
def State.reset : State := {}

end Sys2Proof.Machine
end

