-- ==== Sys2Proof/Machine/Ops.lean ====
section
/-! DEFINITION. The named operations over the state: registers of the atlas and their reset values, cores and clusters,
who owns a page and who asks, the error, denial and stray logs, block interrupts, and pending interrupts of a core. -/

namespace Sys2Proof.Machine

open Host

/-! ### Small helpers -/

/-- The number of a flag. -/
def b2n (b : Bool) : Nat := if b then 1 else 0

/-- Element `i` of a list replaced. -/
def listSet {α : Type} : List α → Nat → α → List α
  | [], _, _ => []
  | _ :: t, 0, v => v :: t
  | h :: t, n + 1, v => h :: listSet t n v

/-- Fold a list of naturals through a state. -/
def foldN {α β : Type} (f : α → β → β) : List α → β → β
  | [], b => b
  | a :: t, b => foldN f t (f a b)

/-- The address of an atlas page (R489). -/
def pageAddr (page : Nat) : Nat := 0xFF00000000000 + page * 4096

/-- The physical address of a register by key. -/
def regAddr (key : Nat) : Nat := 0xFF00000000000 + key

/-! ### Registers -/

/-- The island that a page lies in (R500, R501); 255 for BAR_c. -/
def Blk.island (b : Blk) (i : Nat) : Nat :=
  match b with
  | .dev | .pwc | .rst | .tbc | .swd | .gpio | .atl => 135
  | .wdn => 133
  | .lg | .upt | .rmt | .cmt | .l3bm | .cmp | .qm | .ist | .ann => 134
  | .idx => 132
  | .dmg | .fabg | .fxc => 130
  | .hub => 130 + i
  | .pcie | .iom => 120 + i
  | .fab => 124 + i
  | .mesh => 96 + i
  | .dmc => 104 + i
  | .irr => 130 + i / 16
  | .dma => 130 + i / 32
  | .l3s => 96 + i / 8
  | .dsp | .l2c | .usq | .cii => i
  | .bar => 255
  | .bwMesh => 96 + i
  | .bwL3s => 96 + i / 8
  | .bwD2d => if i < 32 then 96 + (i / 2) % 8 else 130 + (i / 2 - 16)
  | .bwDram => 104 + i / 2
  | .bwHub => 130 + i
  | .dmaa => 130 + i / 64
  | .pcoa => 120 + i / 64

/-- Whether a page is the lead page of its island (R500). -/
def Blk.lead : Blk → Bool
  | .pwc | .wdn | .lg | .idx | .hub | .pcie | .fab | .mesh | .dmc | .dsp => true
  | _ => false

/-- Whether a page holds an arbiter (R500). -/
def Blk.arb : Blk → Bool
  | .l2c | .usq | .dmaa | .pcoa => true
  | _ => false

/-- The number of requesters of an arbiter (R283). -/
def Blk.arbReqs : Blk → Nat
  | .dmaa => 32
  | .pcoa => 17
  | _ => 18

/-- What BLK_ID of a page reads (R490). -/
def blkIdReset (page : Nat) (b : Blk) (i : Nat) : Nat :=
  page + b.island i * 2 ^ 12 + b2n b.lead * 2 ^ 20 + 2 ^ 24

/-- What the ordering code changes in a register's reset value: on the ZX1536-B1-L the variant is 2, the current limit 2670,
the platform pool 1230, and every cluster's operating point 14 (R1, R4, the maps of RMT_LIM and IDX_CLB). -/
def codeReset (code : OrderCode) (b : Blk) (off : Nat) (v : Word) : Word :=
  match code with
  | .b1s => v
  | .b1l =>
    if b = .dev ∧ off = 0x100 then putN v 8 4 2
    else if b = .rmt ∧ off = 0x100 then putN (putN v 0 12 2670) 16 12 1230
    else if b = .idx ∧ 0x400 ≤ off ∧ off < 0x700 then putN v 32 5 14
    else v

/-- The value of a register at reset: the fields' reset values of its map; the fixed words of a page; per-device values
from Config; the registers whose value depends on the ordering code. -/
def resetOf (code : OrderCode) (key : Nat) : Word :=
  let page := key / 4096
  let off := key % 4096
  match Blk.ofPage page with
  | none => 0#64
  | some (b, i) =>
    if off = 0x000 then BitVec.ofNat 64 (blkIdReset page b i)
    else if off = 0x008 then BitVec.ofNat 64 (b2n b.arb + (Config.injt page).toNat * 2)
    else if b = .dev ∧ off = 0x108 then Config.devUid
    else if b = .lg ∧ 0x200 ≤ off ∧ off < 0x260 then Config.pubKey ((off - 0x200) / 8)
    else if b.arb ∧ off = 0x888 then BitVec.ofNat 64 (0x8888888888888888 % 2 ^ (4 * (b.arbReqs - 16)))
    else if b = .lg ∧ 0x800 ≤ off then Config.cert ((off - 0x800) / 8)
    else match b.row off with
      | none => 0#64
      | some (r, _) => codeReset code b off (BitVec.ofNat 64 (rowReset r.fields))

/-- The stored value of a register. -/
def State.rd (s : State) (k : Nat) : Word := smGet (resetOf s.code) s.regs k

/-- A register stored. -/
def State.wr (s : State) (k : Nat) (v : Word) : State := { s with regs := smPut (resetOf s.code) s.regs k v }

/-- A field of a register, as a number. -/
def State.getF (s : State) (k : Nat) (f : Fld) : Nat := fieldN (s.rd k) f.lo f.w

/-- Whether a one-bit field reads 1. -/
def State.isF (s : State) (k : Nat) (f : Fld) : Bool := bitN (s.rd k) f.lo

/-- A field of a register set. -/
def State.setF (s : State) (k : Nat) (f : Fld) (x : Nat) : State := s.wr k (putN (s.rd k) f.lo f.w x)

/-- A counter field raised by `n`, sticking at its largest value. -/
def State.addF (s : State) (k : Nat) (f : Fld) (n : Nat) : State := s.setF k f (stick (2 ^ f.w - 1) (s.getF k f + n))

/-- The value of a register in force: the one before the last write where that has not taken effect yet. -/
def State.forced (s : State) (k : Nat) : Word :=
  match s.latched.find? (fun e => decide (e.1 = k)) with
  | some e => e.2
  | none => s.rd k

/-- A field of the value in force. -/
def State.forcedF (s : State) (k : Nat) (f : Fld) : Nat := fieldN (s.forced k) f.lo f.w

/-- The value in force kept over a write that takes effect later. -/
def State.latch (s : State) (k : Nat) : State :=
  if s.latched.any (fun e => decide (e.1 = k)) then s else { s with latched := smIns k (s.rd k) s.latched }

/-- The moment at which a register's last write takes effect. -/
def State.unlatch (s : State) (k : Nat) : State := { s with latched := s.latched.filter (fun e => !decide (e.1 = k)) }

/-! ### Cores and clusters -/

/-- A core by number: cluster * 16 + CORE_ID[3:0]. -/
def State.core (s : State) (n : Nat) : Core := smGet (fun _ => {}) s.cores n

/-- A core stored. -/
def State.setCore (s : State) (n : Nat) (k : Core) : State := { s with cores := smPut (fun _ => {}) s.cores n k }

/-- A core changed. -/
def State.modCore (s : State) (n : Nat) (f : Core → Core) : State := s.setCore n (f (s.core n))

/-- A cluster by index. -/
def State.cluster (s : State) (n : Nat) : Cluster := smGet (fun _ => {}) s.clusters n

/-- A cluster stored. -/
def State.setCluster (s : State) (n : Nat) (k : Cluster) : State :=
  { s with clusters := smPut (fun _ => {}) s.clusters n k }

/-- A cluster changed. -/
def State.modCluster (s : State) (n : Nat) (f : Cluster → Cluster) : State := s.setCluster n (f (s.cluster n))

/-- The core numbers of a cluster. -/
def clusterCores (n : Nat) : List Nat := natsFrom (n * 16) 16

/-- The compartment of a cluster (R264). -/
def State.cid (s : State) (n : Nat) : Nat := s.getF (Reg.CMT_CLUSTER n) Fld.CMT_CLUSTER_CID

/-- The clusters that a compartment owns, EN = 1. -/
def State.clustersOf (s : State) (c : Nat) : List Nat :=
  (natsFrom 0 96).filter (fun n => s.isF (Reg.CMT_CLUSTER n) Fld.CMT_CLUSTER_EN && decide (s.cid n = c))

/-- The next count of an open value taken. -/
def State.tick (s : State) : State := { s with free := s.free + 1 }

/-- A value the manual leaves open, and the state that has counted it. -/
def State.openWord (s : State) : Word × State := (Config.freeWord s.free, s.tick)

/-- The timebase as a number. -/
def State.now (s : State) : Nat := s.tb.toNat

/-! ### Owners and requesters -/

/-- Page of CMT. -/
def pageCMT : Nat := 0x15

/-- The platform compartment: the one that BLK_OWNER of the CMT page names (R262). -/
def State.platform (s : State) : Nat := s.getF (Reg.BLK_OWNER pageCMT) Fld.SATTR_CID

/-- The attribute word of a derived owner c (R500). -/
def attrOf (c : Nat) : Nat := if c = 63 then 63 + 64 + 128 else c

/-- The owner word of a page (R491, R500). -/
def State.owner (s : State) (page : Nat) : Nat :=
  match Blk.ofPage page with
  | none => 0
  | some (b, i) =>
    match b with
    | .dsp | .l2c | .usq | .cii =>
      if s.isF (Reg.CMT_CLUSTER i) Fld.CMT_CLUSTER_EN then attrOf (s.cid i) else fieldN (s.rd (Reg.BLK_OWNER pageCMT)) 0 8
    | .cmp | .bar | .qm | .ist | .fxc | .ann => attrOf i
    | .dmaa | .pcoa => attrOf (i % 64)
    | .dma => fieldN (s.forced (Reg.DMA_ATTR i)) 0 8
    | _ => fieldN (s.rd (Reg.BLK_OWNER page)) 0 8

/-- Whether a page's owner is derived (R491, R500). -/
def Blk.derivedOwner : Blk → Bool
  | .dsp | .l2c | .usq | .cii | .cmp | .bar | .qm | .ist | .fxc | .ann | .dmaa | .pcoa | .dma => true
  | _ => false

/-- A requester as an access carries it: compartment, world, level, cluster and core; or boot firmware (R447). -/
structure Who where
  cid : Nat
  sec : Bool
  lvl : Nat
  cluster : Nat
  core : Nat
  boot : Bool
  deriving DecidableEq, Repr

/-- The requester that a core is at its present level. -/
def State.whoCore (s : State) (n : Nat) : Who :=
  let c := s.cid (n / 16)
  ⟨c, decide (c = 63), (s.core n).lvl.toNat, n / 16, n % 16, false⟩

/-- Whether boot firmware runs: from step 5 of start-up to hand-over (R445, R447). -/
def State.bootRuns (s : State) : Bool := decide (s.boot.st = .waitHandover) || decide (s.boot.st = .dramHold)

/-- The requester that an agent is; none while it does not run. -/
def State.who (s : State) : Agent → Option Who
  | .core c => if (s.core c.val).run = .running then some (s.whoCore c.val) else none
  | .boot => if s.bootRuns then some ⟨63, true, 3, 127, 0, true⟩ else none

/-- W, the top level of the warden (R42). -/
def Who.isW (w : Who) : Bool := w.sec && decide (w.lvl = 3)

/-- The top level of compartment `c`: H, or W for compartment 63. -/
def Who.isH (w : Who) (c : Nat) : Bool := decide (w.cid = c) && decide (2 ≤ w.lvl)

/-- H of the platform compartment, or W (R263). -/
def State.platHOrW (s : State) (w : Who) : Bool := w.boot || w.isW || w.isH s.platform

/-- W, or boot firmware before hand-over. -/
def Who.wOrBoot (w : Who) : Bool := w.boot || w.isW

/-- H of compartment `c`, or W. -/
def Who.hOrW (w : Who) (c : Nat) : Bool := w.boot || w.isW || w.isH c

/-- The page owner: any requester whose world and compartment equal BLK_OWNER. -/
def State.isOwner (s : State) (w : Who) (page : Nat) : Bool :=
  let o := s.owner page
  decide (w.cid = o % 64) && decide (w.sec = (o / 64 % 2 = 1))

/-- Whether a heading's writer includes the requester. -/
def State.mayWrite (s : State) (w : Who) (page : Nat) (r : Writer) : Bool :=
  w.boot ||
  match r with
  | .nobody => false
  | .owner => s.isOwner w page
  | .ownerH => s.isOwner w page && decide (2 ≤ w.lvl)
  | .ownerOrW => s.isOwner w page || w.isW
  | .ownerHOrW => (s.isOwner w page && decide (2 ≤ w.lvl)) || w.isW
  | .platHOrW => s.platHOrW w
  | .attrHOrW => s.platHOrW w
  | .w => w.isW
  | .boot => false
  | .special => true

/-! ### Block interrupts (R492) -/

/-- The bits of IRQ_STAT that a page defines: ERR, and the block's own. -/
def irqDefined (page : Nat) : Word :=
  match Blk.ofPage page with
  | some (.lg, _) => 0x800000000000003F#64
  | some (.dmc, _) => 0x8000000000000007#64
  | _ => 0x8000000000000000#64

/-- The events owed when (IRQ_STAT AND IRQ_EN) of a page was `old` and is now what the registers give. -/
def State.irqFire (s : State) (page : Nat) (old : Word) : State :=
  let now := s.rd (Reg.IRQ_STAT page) &&& s.rd (Reg.IRQ_EN page)
  if now &&& ~~~old ≠ 0#64 ∧ s.isF (Reg.IRQ_ROUTE page) Fld.IRQ_ROUTE_EN then
    let e : Ev := ⟨s.getF (Reg.IRQ_ROUTE page) Fld.IRQ_ROUTE_VEC, s.owner page % 128, 1, page, 0, s.rd (Reg.IRQ_STAT page)⟩
    { s with io := { s.io with evq := s.io.evq ++ [e] } }
  else s

/-- Bits of IRQ_STAT set by the block or by IRQ_SET. -/
def State.irqRaise (s : State) (page : Nat) (bits : Word) : State :=
  let old := s.rd (Reg.IRQ_STAT page) &&& s.rd (Reg.IRQ_EN page)
  (s.wr (Reg.IRQ_STAT page) (s.rd (Reg.IRQ_STAT page) ||| (bits &&& irqDefined page))).irqFire page old

/-- The ERR bit of IRQ_STAT. -/
def irqERR : Word := 0x8000000000000000#64

/-! ### Logs -/

/-- An error logged in a page's ERR registers (R466, R524). -/
def State.logErr (s : State) (page sev : Nat) (addr info : Word) : State :=
  let k := Reg.ERR_STAT page
  let ue := s.isF k Fld.ERR_STAT_UE
  let s := s.setF k Fld.ERR_STAT_SEV sev
  let s := if sev = 0 then s.setF k Fld.ERR_STAT_CE 1 else s.setF k Fld.ERR_STAT_UE 1
  let s := if ue then s.setF k Fld.ERR_STAT_OVER 1 else s
  let s := s.addF (Reg.ERR_COUNT page) Fld.ERR_COUNT_COUNT 1
  let s := if sev = 0 then s else s.addF (Reg.ERR_COUNT page) Fld.ERR_COUNT_UECOUNT 1
  let s := s.wr (Reg.ERR_ADDR page) addr
  let s := s.wr (Reg.ERR_INFO page) info
  s.irqRaise page irqERR

/-- A denial or stray access logged in a page's ERR registers (R494). -/
def State.logDeny (s : State) (page : Nat) (pa : Nat) : State :=
  let s := s.setF (Reg.ERR_STAT page) Fld.ERR_STAT_DENY 1
  let s := s.addF (Reg.ERR_COUNT page) Fld.ERR_COUNT_COUNT 1
  let s := s.wr (Reg.ERR_ADDR page) (BitVec.ofNat 64 pa)
  s.irqRaise page irqERR

/-- A denial at a register, by key. -/
def State.denyAt (s : State) (key : Nat) : State := s.logDeny (key / 4096) (regAddr key)

/-- An entry of the atlas stray log (R499). -/
def State.stray (s : State) (kind : Nat) (write : Bool) (addr : Nat) (cid : Nat) (sec : Bool) (lvl cluster core vec : Nat) :
    State :=
  let h := s.getF Reg.ATL_HEAD Fld.ATL_HEAD_HEAD
  let i := h % 16
  let info := kind + b2n write * 8 + cid * 16 + b2n sec * 2 ^ 10 + lvl * 2 ^ 11 + cluster * 2 ^ 13 + core * 2 ^ 20 + vec * 2 ^ 24
  let s := s.wr (Reg.ATL_ADDR i) (BitVec.ofNat 64 addr)
  let s := s.wr (Reg.ATL_INFO i) (BitVec.ofNat 64 info)
  let s := s.wr (Reg.ATL_TB i) s.tb
  s.setF Reg.ATL_HEAD Fld.ATL_HEAD_HEAD (h + 1)

/-- A stray access of a requester. -/
def State.strayBy (s : State) (kind : Nat) (write : Bool) (addr : Nat) (w : Who) : State :=
  s.stray kind write addr w.cid w.sec w.lvl w.cluster w.core 0

/-- A dropped interrupt delivery (R499, KIND 4). -/
def State.strayDrop (s : State) (attr cluster core vec : Nat) : State :=
  s.stray 4 false 0 (attr % 64) (attr / 64 % 2 = 1) 0 cluster core vec

/-- The error page of a cluster, which holds its log (R466). -/
def pageUSQ (n : Nat) : Nat := 0x1C0 + n

/-- An error logged whose information word the manual does not lay out: the word is an open value. -/
def State.logErrOpen (s : State) (page sev pa : Nat) : State :=
  let (w, s) := s.openWord
  s.logErr page sev (BitVec.ofNat 64 pa) w

/-- An entry of a cluster's error log ring (R466). -/
def State.logRing (s : State) (n kind sev : Nat) (addr info : Word) (cid core : Nat) (inj : Bool) : State :=
  let h := s.getF (Reg.ERRLOG_HEAD n) Fld.ERRLOG_HEAD_HEAD
  let i := h % 16
  let w3 := kind + sev * 16 + b2n inj * 128 + cid * 256 + core * 2 ^ 14
  let s := s.wr (Reg.ERRLOG_ADDR n i) addr
  let s := s.wr (Reg.ERRLOG_INFO n i) info
  let s := s.wr (Reg.ERRLOG_TB n i) s.tb
  let s := s.wr (Reg.ERRLOG_W3 n i) (BitVec.ofNat 64 w3)
  s.setF (Reg.ERRLOG_HEAD n) Fld.ERRLOG_HEAD_HEAD (h + 1)

/-- An entry of a cluster's error log, with the common ERR registers of its page (R466). -/
def State.logCluster (s : State) (n kind sev : Nat) (addr info : Word) (cid core : Nat) (inj : Bool) : State :=
  (s.logRing n kind sev addr info cid core inj).logErrOpen (pageUSQ n) sev addr.toNat

/-! ### Pending interrupts of a core (R126 to R130) -/

/-- The pending bit of ID `id` set on a core. -/
def State.setPend (s : State) (core id : Nat) : State :=
  let k := Reg.CII_PEND (core / 16) (core % 16)
  s.wr k (putN (s.rd k) id 1 1)

/-- The pending bit of ID `id` cleared on a core. -/
def State.clrPend (s : State) (core id : Nat) : State :=
  let k := Reg.CII_PEND (core / 16) (core % 16)
  s.wr k (putN (s.rd k) id 1 0)

/-- ID `id` set pending on every core of a list. -/
def State.setPends (s : State) (cores : List Nat) (id : Nat) : State := cores.foldl (fun s c => s.setPend c id) s

/-- A core's error summary for its compartment, ID 6 (R126, R462). -/
def State.errSummary (s : State) (core : Nat) : State := s.setPend core 6

/-- CII_PEND with the timers' level conditions in bits 0 and 1 (R126). -/
def State.pendOf (s : State) (core : Nat) : Word :=
  let k := s.core core
  let p := s.rd (Reg.CII_PEND (core / 16) (core % 16))
  putN (putN p 0 1 (b2n (decide (k.tcmpHW.toNat ≤ s.now)))) 1 1 (b2n (decide (k.tcmpK.toNat ≤ s.now)))

/-- Whether ID `id` is pending and enabled on a core. -/
def State.armed (s : State) (core id : Nat) : Bool :=
  bitN (s.pendOf core) id && bitN (s.rd (Reg.CII_EN (core / 16) (core % 16))) id && decide (id ≠ 7)

/-- The target level of ID `id` on a core: true for HW, false for K. -/
def State.idHW (s : State) (core id : Nat) : Bool := bitN (s.rd (Reg.CII_LVL (core / 16) (core % 16))) id

/-- The top level of a core's world: 3 (W) on a warden cluster, 2 (H) elsewhere. -/
def State.topLvl (s : State) (core : Nat) : Nat := if s.cid (core / 16) = 63 then 3 else 2

/-- Whether an interrupt that targets level `t` is takeable at level `l` with `ie` (R128). -/
def takeableAt (t l : Nat) (ie : Bool) : Bool := decide (l < t) || (decide (t = l) && ie)

/-- The interrupt that a core at level `l` with `ie` takes first: HW before K, then the lowest ID (R128). Answers the ID
and whether it targets HW. -/
def State.pickIrq (s : State) (core l : Nat) (ie : Bool) : Option (Nat × Bool) :=
  let top := s.topLvl core
  let hw := (natsFrom 0 64).find? (fun i => s.armed core i && s.idHW core i && takeableAt top l ie)
  match hw with
  | some i => some (i, true)
  | none =>
    match (natsFrom 0 64).find? (fun i => s.armed core i && !s.idHW core i && takeableAt 1 l ie) with
    | some i => some (i, false)
    | none => none

/-- Whether a delivery with an attribute is accepted by a cluster's CII (R130). -/
def State.ciiAccepts (s : State) (n attr : Nat) : Bool :=
  decide (attr % 64 = s.cid n) && decide ((attr / 64 % 2 = 1) ↔ (s.cid n = 63))

end Sys2Proof.Machine
end

