-- ==== Sys2Proof/Machine/Fields.lean ====
section
/-! DEFINITION. What a write does to a register by the Access column of its map (R490, R496). -/

namespace Sys2Proof.Machine

/-- One field of a register after a write of `v`. -/
def fieldWrite (acc v : Word) (f : FieldRow) : Word :=
  let m := maskN f.lo f.w
  match f.acc with
  | .rw => (acc &&& ~~~m) ||| (v &&& m)
  | .w1c => acc &&& ~~~(v &&& m)
  | .w1s => acc ||| (v &&& m)
  | .ro => acc
  | .wo => acc

/-- A register after a write of `v` by its map; reserved bits stay as they are. -/
def fieldsWrite (fs : List FieldRow) (old v : Word) : Word := fs.foldl (fun acc f => fieldWrite acc v f) old

/-- The bits of a register's RW fields. -/
def rwMask (fs : List FieldRow) : Word :=
  fs.foldl (fun acc f => match f.acc with | .rw => acc ||| maskN f.lo f.w | _ => acc) 0#64

/-- The fields of a register by key; none for a reserved offset. -/
def rowOf (key : Nat) : Option RegRow :=
  match Blk.ofPage (key / 4096) with
  | none => none
  | some (b, _) => (b.row (key % 4096)).map (·.1)

/-- A register written by its map alone. -/
def State.putFields (s : State) (key : Nat) (v : Word) : State :=
  match rowOf key with
  | none => s
  | some r => s.wr key (fieldsWrite r.fields (s.rd key) v)

/-- The word a write of 32 bits to half `h` of a register stands for: the RW fields of the other half keep their values,
and its W1C, W1S and WO fields see 0 (R496). -/
def State.halfWord (s : State) (key h : Nat) (v : Word) : Word :=
  let fs := match rowOf key with | none => [] | some r => r.fields
  let mine := maskN (32 * h) 32
  ((v <<< (32 * h)) &&& mine) ||| (s.rd key &&& rwMask fs &&& ~~~mine)

end Sys2Proof.Machine
end

