-- ==== Sys2Proof/Machine/Leave.lean ====
section
/-! DEFINITION. The remontoir (chapter 17): the credits of operating points, the pools, and leave (R413 to R418). -/

namespace Sys2Proof.Machine

/-- Credits per cluster at operating point `p`, that is at 0.8 GHz + p × 100 MHz (R413): the rows of the table, and between
two rows the linear interpolation rounded up. -/
def credits (p : Nat) : Nat :=
  if p ≤ 8 then 4 + (5 * p + 7) / 8
  else if p ≤ 14 then 9 + (6 * (p - 8) + 5) / 6
  else if p ≤ 18 then 15 + (5 * (p - 14) + 3) / 4
  else if p ≤ 21 then 20 + (7 * (p - 18) + 2) / 3
  else 27 + (7 * (p - 21) + 1) / 2

/-- The nominal operating point: 2.6 GHz on the ZX1536-B1-S, 2.2 GHz on the ZX1536-B1-L (R1, R413). -/
def OrderCode.nominal : OrderCode → Nat
  | .b1s => 18
  | .b1l => 14

/-- The rated current limit of the code in credits of 10 mA (R1, R419). -/
def OrderCode.ilim : OrderCode → Nat
  | .b1s => 3330
  | .b1l => 2670

/-- The nominal operating point of the part. -/
def State.nominal (s : State) : Nat := s.code.nominal

/-- The current operating point of a cluster. -/
def State.opPoint (s : State) (n : Nat) : Nat := s.getF (Reg.IDX_CLB n) Fld.IDX_CLB_CUR

/-- Whether an island is in SLEEP or DEEP. -/
def State.asleep (s : State) (i : Nat) : Bool := decide (2 ≤ s.getF (Reg.PWC_ISL i) Fld.PWC_ISL_STATE)

/-- The pool of a leave: none is the platform pool. -/
def State.leavePool (s : State) (o : LeaveOp) : Option Nat :=
  match o with
  | .boost n _ => some (s.cid n.val)
  | .crypto n => some (s.cid n.val)
  | .testCluster c => some c.val
  | .testBand c => some c.val
  | .bandFlush c => some c.val
  | .colorSweep c => some c.val
  | .dram _ => none
  | .pcie _ => none
  | .fabric _ => none

/-- The credits of a leave (R416). -/
def State.leaveCredits (s : State) (o : LeaveOp) : Nat :=
  match o with
  | .boost _ p => credits p.val - credits s.nominal
  | .crypto _ => 6
  | .testCluster _ => 25
  | .testBand _ => 10
  | .bandFlush _ => 8
  | .colorSweep _ => 8
  | .dram _ => 40
  | .pcie _ => 30
  | .fabric _ => 25

/-- Whether a leave is a boost leave, whose credits the operating points already count. -/
def leaveIsBoost : LeaveOp → Bool
  | .boost _ _ => true
  | _ => false

/-- The guaranteed share of a compartment: a SHARE below 4 credits per cluster counts as 4 per cluster (R415). -/
def State.share (s : State) (c : Nat) : Nat :=
  max (s.getF (Reg.RMT_POOL c) Fld.RMT_POOL_SHARE) (4 * (s.clustersOf c).length)

/-- The current limit in effect: values above the code's rating act as the rating (R419). -/
def State.ilim (s : State) : Nat := min s.code.ilim (s.getF Reg.RMT_LIM Fld.RMT_LIM_ILIM)

/-- The credits of a cluster's operating point: the one it steps towards while a change runs (log 24). -/
def State.clusterCredits (s : State) (n : Nat) : Nat :=
  credits (match (s.cluster n).ramp with | some p => p | none => s.opPoint n)

/-- The committed credits of a pool (R416). -/
def State.committed (s : State) (p : Option Nat) : Nat :=
  let out := (s.power.leaves.filter (fun l => !leaveIsBoost l.op && decide (s.leavePool l.op = p))).foldl (fun a l => a + l.credits) 0
  match p with
  | none =>
    -- until hand-over each parked cluster is charged 4 credits to the platform pool (R446)
    if s.boot.st = .waitHandover then
      out + 4 * ((natsFrom 0 96).filter (fun n => !s.isF (Reg.CMT_CLUSTER n) Fld.CMT_CLUSTER_FAILED)).length
    else out
  | some c => out + (s.clustersOf c).foldl (fun a n => a + s.clusterCredits n) 0

/-- The credits of a pool. -/
def State.poolSize (s : State) (p : Option Nat) : Nat :=
  match p with
  | none => s.getF Reg.RMT_LIM Fld.RMT_LIM_PLAT
  | some c => s.share c

/-- RMT_STAT.PCOMMIT or RMT_POOL.COMMIT brought up to date. -/
def State.updPool (s : State) (p : Option Nat) : State :=
  match p with
  | none => s.setF Reg.RMT_STAT Fld.RMT_STAT_PCOMMIT (s.committed none)
  | some c => s.setF (Reg.RMT_POOL c) Fld.RMT_POOL_COMMIT (s.committed (some c))

/-- Leave asked (R416): granted only when the pool's committed credits and the leave's do not exceed the pool; refused at
once otherwise. -/
def State.askLeave (s : State) (o : LeaveOp) : State × Bool :=
  let p := s.leavePool o
  let k := s.leaveCredits o
  if s.committed p + k ≤ s.poolSize p then
    let l : Leave := ⟨o, k, s.now⟩
    ({ s with power := { s.power with leaves := s.power.leaves ++ [l] } }.updPool p, true)
  else
    (match p with
     | some c => s.addF (Reg.RMT_POOL c) Fld.RMT_POOL_REFUSED 1
     | none => s, false)

/-- Leave returned when its operation ends. -/
def State.giveLeave (s : State) (o : LeaveOp) : State :=
  match s.power.leaves.find? (fun l => decide (l.op = o)) with
  | none => s
  | some l =>
    let s := { s with power := { s.power with leaves := s.power.leaves.erase l } }
    s.updPool (s.leavePool o)

/-- Whether a leave is outstanding. -/
def State.holdsLeave (s : State) (o : LeaveOp) : Bool := s.power.leaves.any (fun l => decide (l.op = o))

end Sys2Proof.Machine
end

