-- ==== Sys2Proof/Machine/Dram.lean ====
section
/-! DEFINITION. DRAM seen from the rest of the device (chapter 14): the address orders, memory lines, poison, what a
controller answers to a read and does with a write, injected errors, and the charge of each line transfer (R311). -/

namespace Sys2Proof.Machine

/-! ### Metering points (R310, R316) -/

/-- The point of a cluster, a memory controller, a DMA engine, a fabric port. -/
def ptCluster (n : Nat) : Nat := n
def ptDmc (n : Nat) : Nat := 96 + n
def ptDma (n : Nat) : Nat := 112 + n
def ptFab (p : Nat) : Nat := 176 + p

/-- A PCIe port's own count of DMA bytes for the sharing of its island's energy (R312). -/
def ptPcie (p : Nat) : Nat := 182 + p

/-- The largest value of a meter (R310). -/
def meterTop : Nat := 2 ^ 48 - 1

/-- A key with every meter 0. -/
def KeyUse.zero (cid tag : Nat) : KeyUse := ⟨cid, tag, List.replicate 8 0⟩

/-- `n` added to meter `i` of a list of meters, sticking at the largest value (R314). -/
def metersAdd (m : List Nat) (i n : Nat) : List Nat := listSet m i (stick meterTop (m.getD i 0 + n))

/-- `n` added to meter `i` of a key in a list of keys; a new key is added at the end. -/
def keysAdd : List KeyUse → Nat → Nat → Nat → Nat → List KeyUse
  | [], c, t, i, n => [⟨c, t, metersAdd (List.replicate 8 0) i n⟩]
  | k :: l, c, t, i, n => if k.cid = c ∧ k.tag = t then { k with m := metersAdd k.m i n } :: l else k :: keysAdd l c t i n

/-- A metering point. -/
def State.meterPt (s : State) (p : Nat) : MeterPt := smGet (fun _ => {}) s.meters p

/-- `n` charged to a key's meter `i` at a point; nothing where no key is charged. -/
def State.charge (s : State) (p : Nat) (key : Option (Nat × Nat)) (i n : Nat) : State :=
  match key with
  | none => s
  | some (c, t) =>
    if n = 0 then s else
    let q := s.meterPt p
    { s with meters := smPut (fun _ => {}) s.meters p { q with cur := keysAdd q.cur c t i n, intv := keysAdd q.intv c t i n } }

/-- A metering point lost with its block (R317): what it has not posted is in no span, and each span that it was for has
PARTIAL. -/
def State.losePoint (s : State) (p : Nat) : State :=
  let q := s.meterPt p
  let s := { s with meters := smPut (fun _ => {}) s.meters p {} }
  let s := if q.old = [] then s else
    { s with ledger := { s.ledger with closing := s.ledger.closing.map (fun c => { c with lost := true }) } }
  if q.cur = [] then s else { s with ledger := { s.ledger with openSpan := { s.ledger.openSpan with lost := true } } }

/-- `n` bytes of a key's DMA payload through PCIe port `p`, for the sharing of the port's energy (R312). -/
def State.countPort (s : State) (p : Nat) (key : Option (Nat × Nat)) (n : Nat) : State :=
  match key with
  | none => s
  | some (c, t) =>
    if n = 0 then s else
    let q := s.meterPt (ptPcie p)
    { s with meters := smPut (fun _ => {}) s.meters (ptPcie p) { q with intv := keysAdd q.intv c t 7 n } }

/-! ### Address orders (R333 to R335) -/

/-- Where a line lies in the modules. -/
structure DramAddr where
  ch : Nat
  sc : Nat
  bg : Nat
  ba : Nat
  rank : Nat
  row : Nat
  cb : Nat
  cid : Nat
  deriving DecidableEq, Repr

/-- Whether the address order is B, under which the color check is made (R268). -/
def State.orderB (s : State) : Bool := decide (s.getF Reg.DMG_CFG Fld.DMG_CFG_ORDER = 1)

/-- Whether channel sparing is enabled (R335). -/
def State.sparing (s : State) : Bool := s.orderB && s.isF Reg.DMG_CFG Fld.DMG_CFG_SPARE

/-- Take `w` bits from `x`: the bits, and what is above them. -/
def takeBits (x w : Nat) : Nat × Nat := (x % 2 ^ w, x / 2 ^ w)

/-- The decode of a physical address (R333, R335). -/
def State.dramAddr (s : State) (pa : Nat) : DramAddr :=
  let g := s.dram.geom
  let c6 := if g.x8 then 0 else 1
  let rw := if g.row17 then 17 else 16
  let rk := g.rankBits.val
  let cd := g.cidBits.val
  let x := pa / 64
  let order := s.getF Reg.DMG_CFG Fld.DMG_CFG_ORDER
  if order = 0 then
    let (cb0, x) := takeBits x 2
    let (sc, x) := takeBits x 1
    let (ch, x) := takeBits x 4
    let (bg, x) := takeBits x 3
    let (ba, x) := takeBits x 2
    let (cb1, x) := takeBits x 4
    let (cb2, x) := takeBits x c6
    let (rank, x) := takeBits x rk
    let (row, x) := takeBits x rw
    let (cid, _) := takeBits x cd
    ⟨ch, sc, bg, ba, rank, row, cb0 + cb1 * 4 + cb2 * 64, cid⟩
  else if order = 1 then
    let color := pa / 4096 % 64
    let ba := color % 4
    let bg := color / 4 % 8
    let rk0 := color / 32 % 2
    if s.sparing then
      let n := (pa / 2 ^ 18) * 32 + pa / 128 % 32
      let slot := n % 15
      let m := n / 15
      let (cb0, m) := takeBits m 1
      let (cb1, m) := takeBits m 5
      let (cb2, m) := takeBits m c6
      let (row, m) := takeBits m rw
      let (rk1, m) := takeBits m (rk - 1)
      let (cid, _) := takeBits m cd
      ⟨fieldN (s.rd Reg.DMG_CHMAP) (4 * slot) 4, pa / 64 % 2, bg, ba, rk0 + rk1 * 2, row, cb0 + cb1 * 2 + cb2 * 64, cid⟩
    else
      let (sc, x) := takeBits x 1
      let (ch, x) := takeBits x 4
      let (cb0, x) := takeBits x 1
      let (_, x) := takeBits x 6
      let (cb1, x) := takeBits x 5
      let (cb2, x) := takeBits x c6
      let (row, x) := takeBits x rw
      let (rk1, x) := takeBits x (rk - 1)
      let (cid, _) := takeBits x cd
      ⟨ch, sc, bg, ba, rk0 + rk1 * 2, row, cb0 + cb1 * 2 + cb2 * 64, cid⟩
  else if order = 2 then
    let (cb, x) := takeBits x (6 + c6)
    let (sc, x) := takeBits x 1
    let (ch, x) := takeBits x 4
    let (bg, x) := takeBits x 3
    let (ba, x) := takeBits x 2
    let (rank, x) := takeBits x rk
    let (cid, x) := takeBits x cd
    let (row, _) := takeBits x rw
    ⟨ch, sc, bg, ba, rank, row, cb, cid⟩
  else
    let (sc, x) := takeBits x 1
    let (ch, x) := takeBits x 4
    let (cb, x) := takeBits x (6 + c6)
    let (bg, x) := takeBits x 3
    let (ba, x) := takeBits x 2
    let (row, x) := takeBits x rw
    let (cid, x) := takeBits x cd
    let (rank, _) := takeBits x rk
    ⟨ch, sc, bg, ba, rank, row, cb, cid⟩

/-- The subchannel number of a line, 2 * channel + subchannel (R272). -/
def DramAddr.sub (a : DramAddr) : Nat := 2 * a.ch + a.sc

/-- The bank color of an address, PA[17:12] (R334). -/
def colorOf (pa : Nat) : Nat := pa / 4096 % 64

/-- Whether a PA is mapped DRAM (R488). -/
def State.inDram (s : State) (pa : Nat) : Bool := decide (pa < s.getF Reg.DMG_TOP Fld.DMG_TOP_TOP)

/-! ### Memory lines -/

/-- Whether memory is in its canonical form: addresses strictly rising, no byte listed that equals what an unlisted one reads as. -/
def Memory.wf (m : List Host.Cell) : Bool := smWf (fun _ => 0#8) m

/-- The byte of memory at an address: an unlisted byte reads 0 (log 28). -/
def State.memByte (s : State) (a : Nat) : Byte := smGet (fun _ => 0#8) s.mem a

/-- A byte of memory stored. -/
def State.memSet (s : State) (a : Nat) (b : Byte) : State := { s with mem := smPut (fun _ => 0#8) s.mem a b }

/-- The bytes of memory from an address, the lowest first. -/
def State.memBytes (s : State) (a n : Nat) : List Byte := (natsFrom a n).map s.memByte

/-- The 64 bytes of a line. -/
def State.memLine (s : State) (l : Nat) : BitVec 512 := BitVec.ofNat 512 (bytesToNat (s.memBytes (l * 64) 64))

/-- The bytes of a line that `mask` names, stored. -/
def State.memPut (s : State) (l : Nat) (d : BitVec 512) (mask : BitVec 64) : State :=
  (natsFrom 0 64).foldl (fun s i =>
    if mask.toNat.testBit i then s.memSet (l * 64 + i) (BitVec.ofNat 8 (d.toNat >>> (8 * i))) else s) s

/-- `new` merged over `old` where `mask` has ones, byte by byte. -/
def mergeLine (old new : BitVec 512) (mask : BitVec 64) : BitVec 512 :=
  BitVec.ofNat 512 ((natsFrom 0 64).foldl (fun acc i =>
    let b := if mask.toNat.testBit i then (new.toNat >>> (8 * i)) % 256 else (old.toNat >>> (8 * i)) % 256
    acc + b <<< (8 * i)) 0)

/-- A mask of `n` bytes from byte `i` of a line. -/
def maskBytes (i n : Nat) : BitVec 64 := BitVec.ofNat 64 ((2 ^ n - 1) <<< i)

/-- Every byte of a line. -/
def fullMask : BitVec 64 := 0xFFFFFFFFFFFFFFFF#64

/-- Whether memory gives a line with poison: stored so (R349), or in the channel's poison table (R350). -/
def State.memPoison (s : State) (l : Nat) : Bool :=
  s.poison.contains l || (smGet (fun _ => []) s.dram.poisonTab (s.dramAddr (l * 64)).ch).contains l

/-- The stored poison of a line set or cleared. -/
def State.setPoison (s : State) (l : Nat) (b : Bool) : State :=
  { s with poison := if b then (if s.poison.contains l then s.poison else l :: s.poison) else s.poison.filter (fun x => x != l) }

/-! ### Injected errors (R466, R467) -/

/-- The type of the error that an access of compartment `cid` through the structure of `page` meets, with ARM cleared; a
TYPE that the block has no structure for is never injected (R467). -/
def State.takeInject (s : State) (page cid : Nat) : Option Nat × State :=
  let k := Reg.ERR_INJECT page
  let t := s.getF k Fld.ERR_INJECT_TYPE
  if s.isF k Fld.ERR_INJECT_ARM ∧ s.getF k Fld.ERR_INJECT_CID = cid ∧ (Config.injt page).toNat.testBit t then
    (some t, s.setF k Fld.ERR_INJECT_ARM 0)
  else (none, s)

/-! ### The controller -/

/-- The page of a channel. -/
def pageDMC (n : Nat) : Nat := 0x40 + n

/-- The ERR_INFO word of a channel (DMC ERR_INFO). -/
def dmcInfo (a : DramAddr) (kind sym word : Nat) (scrub : Bool) : Word :=
  BitVec.ofNat 64 (kind + a.sc * 4 + a.rank * 8 + a.bg * 32 + a.ba * 256 + a.row * 2 ^ 10 + a.cb * 2 ^ 27 + sym * 2 ^ 34 +
    word * 2 ^ 38 + a.cid * 2 ^ 41 + b2n scrub * 2 ^ 43)

/-- A channel error logged. -/
def State.logDmc (s : State) (pa kind sev sym word : Nat) (scrub : Bool) : State :=
  let a := s.dramAddr pa
  s.logErr (pageDMC a.ch) sev (BitVec.ofNat 64 pa) (dmcInfo a kind sym word scrub)

/-- A queue key: subchannel * 64 + half * 32 + bank (R336). -/
def State.queueKey (s : State) (pa : Nat) : Nat :=
  let a := s.dramAddr pa
  a.sub * 64 + (if s.orderB then a.rank % 2 else 0) * 32 + a.bg * 4 + a.ba

/-- The requests of a queue half, oldest first. -/
def State.dramQ (s : State) (k : Nat) : List DramReq := smGet (fun _ => []) s.dram.q k

/-- A queue half stored. -/
def State.setDramQ (s : State) (k : Nat) (l : List DramReq) : State :=
  { s with dram := { s.dram with q := smPut (fun _ => []) s.dram.q k l } }

/-- A write performed in memory: a whole line clears poison, a partial one keeps it (R337, R349). -/
def State.memWrite (s : State) (l : Nat) (d : BitVec 512) (mask : BitVec 64) (poison : Bool) : State :=
  let p := if mask = fullMask then poison else poison || s.memPoison l
  let ch := (s.dramAddr (l * 64)).ch
  let tab := smGet (fun _ => []) s.dram.poisonTab ch
  let s := { s with dram := { s.dram with poisonTab := smPut (fun _ => []) s.dram.poisonTab ch (tab.filter (fun x => x != l)) } }
  (s.memPut l d mask).setPoison l p

/-- A write of a bank queue performed, its transfer charged to its key (R311), with the read that a merge still needs (R337). -/
def State.queuedWrite (s : State) (r : DramReq) : State :=
  let s := if r.merged || r.fetched then s else s.charge (ptDmc (s.dramAddr r.pa).ch) r.key 3 64
  (s.charge (ptDmc (s.dramAddr r.pa).ch) r.key 4 64).memWrite (r.pa / 64) r.data r.mask r.poison

/-- Whether a request is a write of a line. -/
def DramReq.writes (r : DramReq) (l : Nat) : Bool := r.wr && decide (r.pa / 64 = l)

/-- The writes queued for a line, and those that wait to be, performed now in their order, so that a later access finds their
bytes (R337). -/
def State.settleLine (s : State) (l : Nat) : State :=
  let k := s.queueKey (l * 64)
  let q := s.dramQ k
  let w := s.dram.wait
  let s := (q.filter (fun r => r.writes l) ++ w.filter (fun r => r.writes l)).foldl State.queuedWrite s
  let s := s.setDramQ k (q.filter (fun r => !r.writes l))
  { s with dram := { s.dram with wait := w.filter (fun r => !r.writes l) } }

/-- Times within a window kept, and now added. -/
def countIn (times : List Nat) (now window : Nat) : List Nat := now :: times.filter (fun t => decide (now ≤ t + window))

/-- What a read of a line for compartment `cid` meets at its controller: whether the line comes with poison, with what is logged. An
error within one symbol is corrected, one beyond it or in a queue's parity gives poison, and stored poison is found again (R348,
R349, R457). -/
def State.dmcCheck (s : State) (cid l : Nat) : State × Bool :=
  let pa := l * 64
  let a := s.dramAddr pa
  let stored := s.memPoison l
  let (inj, s) := s.takeInject (pageDMC a.ch) cid
  let (w, s) := if inj.isSome then s.openWord else (0#64, s)
  let sym := w.toNat % 10
  let cw := w.toNat / 16 % 8
  match inj with
  | some 0 =>
    let kk := a.sub * 16 + sym
    let win := max 1 (s.getF (Reg.DMC_CE_THR a.ch) Fld.DMC_CE_THR_WINDOW_S) * 1000000000
    let ts := countIn (smGet (fun _ => []) s.dram.ce kk) s.now win
    let s := { s with dram := { s.dram with ce := smPut (fun _ => []) s.dram.ce kk ts } }
    (s.logDmc pa 0 0 sym cw false, stored)
  | some 1 => (s.logDmc pa 1 1 15 cw false, true)
  | some 2 => (s.logDmc pa 2 1 15 cw false, true)
  | some _ => (s.logDmc pa 1 1 15 0 false, true)
  | none => if stored then (s.logDmc pa 2 1 15 0 false, true) else (s, false)

/-- A read of a line at its controller, for compartment `cid`, charged to `key`: the data and whether it carries poison
(R337, R311). -/
def State.dmcRead (s : State) (cid : Nat) (key : Option (Nat × Nat)) (l : Nat) : State × BitVec 512 × Bool :=
  let s := (s.settleLine l).charge (ptDmc (s.dramAddr (l * 64)).ch) key 3 64
  let (s, p) := s.dmcCheck cid l
  (s, s.memLine l, p)

/-- A write of a line at its controller, charged to `key`; a write of fewer than 64 bytes also reads its line (R337). -/
def State.dmcWrite (s : State) (key : Option (Nat × Nat)) (l : Nat) (d : BitVec 512) (mask : BitVec 64) (poison : Bool) :
    State :=
  if mask = 0#64 then s else
  let s := s.settleLine l
  let p := ptDmc (s.dramAddr (l * 64)).ch
  let s := if mask = fullMask then s else s.charge p key 3 64
  (s.charge p key 4 64).memWrite l d mask poison

end Sys2Proof.Machine
end

