-- ==== Sys2Proof/Machine/Mem.lean ====
section
/-! DEFINITION. Coherent memory (chapters 9 and 11): the beat-wheel slots a request needs, the color check, the home
slice and its directory, the copies of the clusters, and what each kind of access does to them. -/

namespace Sys2Proof.Machine

/-- Why an access to memory has no data: a color violation (R268), or an error response (R162, R275). -/
inductive MErr where
  | color | resp
  deriving DecidableEq, Repr

/-- A request on its way to a home slice (R274): the compartment whose access it is, the die it starts from (0 to 7
compute, 8 and 9 I/O, 10 ledger), the hub it crosses, the key its line transfers are charged to, the core it belongs to,
the SOURCE code of R269, and whether it is a deterministic-mode access. -/
structure Req where
  cid : Nat
  die : Nat
  hub : Option Nat := none
  key : Option (Nat × Nat) := none
  core : Option Nat := none
  src : Nat := 0
  dtm : Bool := false
  deriving DecidableEq, Repr

/-! ### Beat wheels (R272 to R278) -/

/-- The page of wheel `w`, 0 to 141: mesh, slice ports, die-to-die links, DRAM buses, hubs. -/
def wheelPage (w : Nat) : Nat :=
  if w < 8 then 0x400 + w else if w < 72 then 0x408 + (w - 8) else if w < 108 then 0x448 + (w - 72)
  else if w < 140 then 0x470 + (w - 108) else 0x490 + (w - 140)

/-- The number of a slice-port, die-to-die, DRAM or hub wheel. -/
def wheelL3S (s : Nat) : Nat := 8 + s
def wheelD2D (l : Nat) : Nat := 72 + l
def wheelDRAM (u : Nat) : Nat := 108 + u
def wheelHub (h : Nat) : Nat := 140 + h

/-- The entry of a slot in effect on a wheel. -/
def State.slotNow (s : State) (w i : Nat) : Word := smGet (fun _ => 0#64) s.comp.maps (w * 64 + i)

/-- Whether a wheel is one on which a reserved deterministic slot is kept (R277): mesh, slice port, compute ring. -/
def wheelDtm (w : Nat) : Bool := decide (w < 88)

/-- Whether compartment `c` owns a usable slot on a wheel for the request (R275); its reserved deterministic slot serves
only deterministic-mode accesses (R277). DESIGN CHOICE (log 157): where that slot is the only one, any other access has none. -/
def State.hasSlot (s : State) (w c : Nat) (dtm : Bool) : Bool :=
  let res := s.isF (Reg.CMP_DTM c) Fld.CMP_DTM_EN && wheelDtm w
  let slot := s.getF (Reg.CMP_DTM c) Fld.CMP_DTM_SLOT
  (natsFrom 0 64).any (fun i =>
    let e := s.slotNow w i
    bitN e 6 && decide (fieldN e 0 6 = c) && (dtm || !(res && decide (i = slot))))

/-- The die-to-die wheels, by number 0 to 35, around the compute ring from die `a` to die `b`: link k joins dies k and k + 1 mod 8, and
its direction 0 ascends (R272; log 5). -/
def ringRoute (up : Bool) (a b : Nat) : List Nat :=
  if up then (natsFrom 0 ((b + 8 - a) % 8)).map (fun i => (a + i) % 8 * 2)
  else (natsFrom 1 ((a + 8 - b) % 8)).map (fun i => (a + 8 - i) % 8 * 2 + 1)

/-- The compute die joined to I/O die `8 + io` that a request of compute die `n` passes through: `n` itself or its neighbour. -/
def ioNeighbour (up : Bool) (n io : Nat) : Nat := if n % 2 = io then n else if up then (n + 1) % 8 else (n + 7) % 8

/-- The die-to-die wheels from die `a` to die `b` (R272): links 8 to 15 join compute die n to I/O die n mod 2, links 16 and 17 the I/O
dies to the ledger die, 10; direction 0 leads towards the ledger die (log 5). -/
def dieRoute (up : Bool) (a b : Nat) : List Nat :=
  if a = b then []
  else if a < 8 ∧ b < 8 then ringRoute up a b
  else if a < 8 then
    let io := if b = 10 then a % 2 else b - 8
    let n := ioNeighbour up a io
    ringRoute up a n ++ [16 + n * 2] ++ (if b = 10 then [32 + io * 2] else [])
  else if b < 8 then
    let io := if a = 10 then b % 2 else a - 8
    let n := ioNeighbour (!up) b io
    (if a = 10 then [32 + io * 2 + 1] else []) ++ [16 + n * 2 + 1] ++ ringRoute up n b
  else (if a = 10 then [] else [32 + (a - 8) * 2]) ++ (if b = 10 then [] else [32 + (b - 8) * 2 + 1])

/-- The mesh and die-to-die wheels from die `a` to die `b` (R274). -/
def pathWheels (a b : Nat) : List Nat :=
  (if a < 8 then [a] else []) ++ (dieRoute (Config.d2dUp a b) a b).map wheelD2D ++ (if b < 8 ∧ a ≠ b then [b] else [])

/-- The first wheel of a list on which the compartment has no slot. -/
def State.firstNoSlot (s : State) (ws : List Nat) (c : Nat) (dtm : Bool) : Option Nat :=
  ws.find? (fun w => !s.hasSlot w c dtm)

/-- An interrupt ID 6 for a refused access: on the requesting core, or on the lowest core of the lowest working cluster of
the compartment (R269). -/
def State.refusalIrq (s : State) (r : Req) : State :=
  match r.core with
  | some c => s.setPend c 6
  | none =>
    match (s.clustersOf r.cid).find? (fun n => !s.isF (Reg.CMT_CLUSTER n) Fld.CMT_CLUSTER_FAILED) with
    | some n => s.setPend (n * 16) 6
    | none => s

/-- The error response for want of a slot, logged at the wheel's page (R275, R524). -/
def State.logNoSlot (s : State) (w pa : Nat) : State := s.logErrOpen (wheelPage w) 2 pa

/-! ### Colors and steering (R206, R207, R268 to R271) -/

/-- The owner of a color; none while it has no owner or is being swept (R266). -/
def State.colorOwner (s : State) (k : Nat) : Option Nat :=
  let r := Reg.CMT_COLOR k
  if s.isF r Fld.CMT_COLOR_EN ∧ s.isF r Fld.CMT_COLOR_BUSY = false then some (s.getF r Fld.CMT_COLOR_CID) else none

/-- Whether compartment `c` may reach a DRAM address (R268); under another order than B no check is made. -/
def State.colorOK (s : State) (c pa : Nat) : Bool :=
  if s.orderB then
    match s.colorOwner (colorOf pa) with
    | some o => decide (o = c) || decide (o = 0)
    | none => false
  else true

/-- A color violation recorded in the CMT page (R269). -/
def State.logColor (s : State) (r : Req) (pa : Nat) : State :=
  let k := colorOf pa
  let o := s.colorOwner k
  let info := r.cid + k * 64 + s.getF (Reg.CMT_COLOR k) Fld.CMT_COLOR_CID * 2 ^ 12 + b2n o.isSome * 2 ^ 18 + r.src * 2 ^ 19
  (s.logErr pageCMT 2 (BitVec.ofNat 64 pa) (BitVec.ofNat 64 info)).refusalIrq r

/-- The compartment in whose bands a line is placed: the color's owner under order B, compartment 0 otherwise (R207). -/
def State.placeComp (s : State) (pa : Nat) : Option Nat := if s.orderB then s.colorOwner (colorOf pa) else some 0

/-- The compartment whose slots the slice port and the DRAM bus use for a request (R274); without colors, its own. -/
def State.slotComp (s : State) (r : Req) (pa : Nat) : Nat :=
  if s.orderB then (s.colorOwner (colorOf pa)).getD r.cid else r.cid

/-- Home slice of an address (R206). -/
def sliceOf (pa : Nat) : Nat := (pa / 2 ^ 6 % 64) ^^^ (pa / 2 ^ 18 % 64) ^^^ (pa / 2 ^ 30 % 64) ^^^ (pa / 2 ^ 42 % 64)

/-- Steering index (R206). -/
def steerIdx (pa : Nat) : Nat := (pa / 2 ^ 24 % 64) ^^^ (pa / 2 ^ 36 % 64)

/-- Set within the band (R206). -/
def setInBand (pa : Nat) : Nat := (pa / 2 ^ 12 % 32) ^^^ (pa / 2 ^ 17 % 32)

/-- The die of a slice. -/
def sliceDie (sl : Nat) : Nat := sl / 8

/-- The band that entry `j` of compartment `c` places the lines of set `w` in now: the old band while a re-steer of the entry has
not taken the set (R271). -/
def State.steerBand (s : State) (c j w : Nat) : Nat :=
  match s.comp.resteer.find? (fun e => e.1 = c * 64 + j) with
  | some e => if w < e.2.2 then s.getF (Reg.CMP_STEER c j) Fld.CMP_STEER_BAND else e.2.1
  | none => s.getF (Reg.CMP_STEER c j) Fld.CMP_STEER_BAND

/-- Whether compartment `c` owns band `k`. -/
def State.ownsBand (s : State) (c k : Nat) : Bool :=
  s.isF (Reg.CMT_BAND k) Fld.CMT_BAND_EN && decide (s.getF (Reg.CMT_BAND k) Fld.CMT_BAND_CID = c)

/-- Whether the steering entries of a band are void: an in-service test of the band, from the start of its drain to its end (R470). -/
def State.bandVoid (s : State) (k : Nat) : Bool := s.ist.any (fun e => decide (e.2.kind = 1 ∧ e.2.target = k))

/-- The band in which a line is placed; none where its steering entry is void (R270). -/
def State.bandOf (s : State) (pa : Nat) : Option Nat :=
  match s.placeComp pa with
  | none => none
  | some c =>
    let k := s.steerBand c (steerIdx pa) (setInBand pa)
    if s.ownsBand c k ∧ s.bandVoid k = false then some k else none

/-! ### Lines and copies (R209) -/

/-- A line present in the L3. -/
def State.line (s : State) (l : Nat) : Option CLine := (s.lines.find? (fun e => e.1 = l)).map (·.2)

/-- The byte at an address as every agent that takes part in coherence reads it: from the line where the caches hold it, otherwise
from memory with the writes that its controller has queued. -/
def State.byteAt (s : State) (a : Nat) : Byte :=
  match s.line (a / 64) with
  | some x => BitVec.ofNat 8 (x.data.toNat >>> (8 * (a % 64)))
  | none => (s.settleLine (a / 64)).memByte a

/-- A line stored, or removed. -/
def State.setLine (s : State) (l : Nat) (x : Option CLine) : State :=
  match x with
  | some c => { s with lines := smIns l c (smErase s.lines l) }
  | none => { s with lines := smErase s.lines l }

/-- The copy that a cluster's L2 holds. -/
def CLine.copy (x : CLine) (n : Nat) : Option L2Copy := x.copies.find? (fun c => c.cl = n)

/-- A cluster's copy replaced or added. -/
def CLine.setCopy (x : CLine) (c : L2Copy) : CLine :=
  { x with copies := if x.copies.any (fun e => e.cl = c.cl) then x.copies.map (fun e => if e.cl = c.cl then c else e) else x.copies ++ [c] }

/-- A cluster's copy taken away; modified data goes to the L3 (R209). -/
def CLine.dropCopy (x : CLine) (n : Nat) : CLine :=
  { x with dirty := x.dirty || x.copies.any (fun e => decide (e.cl = n) && decide (e.st = .m)), copies := x.copies.filter (fun e => e.cl != n) }

/-- Every copy recalled or invalidated. -/
def CLine.dropAll (x : CLine) : CLine :=
  { x with dirty := x.dirty || x.copies.any (fun e => decide (e.st = .m)), copies := [] }

/-- Every copy downgraded to S, modified data sent to the L3. -/
def CLine.downgrade (x : CLine) : CLine :=
  { x with dirty := x.dirty || x.copies.any (fun e => decide (e.st = .m)),
           copies := x.copies.map (fun e => { e with st := .s, d := e.d.map (fun p => (p.1, Mesi.s)) }) }

/-- Whether any copy is modified, or the L3 line is dirty. -/
def CLine.anyDirty (x : CLine) : Bool := x.dirty || x.copies.any (fun e => decide (e.st = .m))

/-! ### Modified data on its way down (R209, R274, R275) -/

/-- The owner whose slots carry a write-back, a recall or a downgrade of a line (R274). -/
def State.lineOwner (s : State) (l : Nat) : Nat :=
  match s.placeComp (l * 64) with
  | some o => o
  | none => s.getF (Reg.CMT_COLOR (colorOf (l * 64))) Fld.CMT_COLOR_CID

/-- The modified data of the copies that `p` picks brought to the home slice in the owner's slots. Where the owner has no slot on the
way the data does not arrive, and the line has poison instead (R274, R275; log 156). -/
def State.pull (s : State) (l : Nat) (p : L2Copy → Bool) : State :=
  match s.line l with
  | none => s
  | some x =>
    (x.copies.filter (fun c => p c && decide (c.st = .m))).foldl (fun s c =>
      match s.firstNoSlot (pathWheels (c.cl / 12) (sliceDie (sliceOf (l * 64))) ++ [wheelL3S (sliceOf (l * 64))]) (s.lineOwner l) false with
      | none => s
      | some w => (s.logNoSlot w (l * 64)).setLine l (some { x with poison := true })) s

/-- A line's data written to memory in the owner's slot of the DRAM wheel; for want of one the line in memory has poison (R275; log
156). -/
def State.writeDown (s : State) (key : Option (Nat × Nat)) (l : Nat) (d : BitVec 512) (p : Bool) : State :=
  let w := wheelDRAM (s.dramAddr (l * 64)).sub
  if s.hasSlot w (s.lineOwner l) false then s.dmcWrite key l d fullMask p
  else (s.logNoSlot w (l * 64)).dmcWrite key l d fullMask true

/-- The copies that a cluster's L2 and its L1s hold of a line given back. -/
def State.giveBack (s : State) (n l : Nat) : State :=
  let s := s.pull l (fun c => decide (c.cl = n))
  match s.line l with
  | some x => s.setLine l (some (x.dropCopy n))
  | none => s

/-- Every copy of a line recalled. -/
def State.recallLine (s : State) (l : Nat) : State :=
  let s := s.pull l (fun _ => true)
  match s.line l with
  | some x => s.setLine l (some x.dropAll)
  | none => s

/-- Every copy of a line downgraded. -/
def State.downgradeLine (s : State) (l : Nat) : State :=
  let s := s.pull l (fun _ => true)
  match s.line l with
  | some x => s.setLine l (some x.downgrade)
  | none => s

/-- A line leaves the L3: its copies are recalled, and it is written to memory if it is dirty (R209, R211). -/
def State.evictLine (s : State) (key : Option (Nat × Nat)) (l : Nat) : State :=
  let s := s.pull l (fun _ => true)
  match s.line l with
  | none => s
  | some x =>
    let s := s.setLine l none
    if x.anyDirty then s.writeDown key l x.data x.poison else s

/-- Every line that satisfies `p` written back if dirty and invalidated, charged to no key. -/
def State.evictWhere (s : State) (p : Nat → CLine → Bool) : State :=
  (s.lines.filter (fun e => p e.1 e.2)).foldl (fun s e => s.evictLine none e.1) s

/-- A running re-steer of the entry that places a line goes on by an open number of sets (R271): each set taken loses its lines of
the entry. -/
def State.resteerStep (s : State) (pa : Nat) : State :=
  match s.placeComp pa with
  | none => s
  | some c =>
    match s.comp.resteer.find? (fun e => e.1 = c * 64 + steerIdx pa) with
    | none => s
    | some e =>
      let (v, s) := s.openWord
      let done := e.2.2 + v.toNat % (33 - e.2.2)
      let s := s.evictWhere (fun l x => decide (x.band = e.2.1) && decide (steerIdx (l * 64) = steerIdx pa) &&
        decide (s.placeComp (l * 64) = some c) && decide (setInBand (l * 64) < done))
      { s with comp := { s.comp with resteer := s.comp.resteer.map (fun x => if x.1 = e.1 then (e.1, e.2.1, done) else x) } }

/-! ### Tree pseudo-LRU (R204, R208; log 12) -/

/-- The tree of a set after a use of leaf `node`, `d` levels below the root: each node on the path points away from it. -/
def plruTouch : Nat → Nat → Nat → Nat
  | 0, _, t => t
  | d + 1, node, t =>
    let up := node / 2
    plruTouch d up (if node % 2 = 0 then t ||| 2 ^ up else if t.testBit up then t - 2 ^ up else t)

/-- The leaf that the tree points to from `node`, `d` levels above the leaves; a side with no leaf that may be used is passed over. -/
def plruVictim (ok : Nat → Bool) : Nat → Nat → Nat → Nat
  | 0, node, _ => node
  | d + 1, node, t =>
    let c := 2 * node + b2n (t.testBit node)
    plruVictim ok d (if (natsFrom (c * 2 ^ d) (2 ^ d)).any ok then c else 4 * node + 1 - c) t

/-- A use of way `w` of the set with key `k`, in a cache of 2 ^ `d` ways. -/
def State.touchWay (s : State) (k d w : Nat) : State :=
  { s with comp := { s.comp with plru := smPut (fun _ => 0) s.comp.plru k (plruTouch d (2 ^ d + w) (smGet (fun _ => 0) s.comp.plru k)) } }

/-- The way of a full set that the tree gives up. -/
def State.victimWay (s : State) (k d : Nat) (ok : Nat → Bool) : Nat :=
  plruVictim (fun n => ok (n - 2 ^ d)) d 1 (smGet (fun _ => 0) s.comp.plru k) - 2 ^ d

/-! ### Ways of a slice (R204, R208, R222 to R224) -/

/-- The page of a slice. -/
def pageL3S (sl : Nat) : Nat := 0xC0 + sl

/-- The way that serves as way `n` of set `set` of a slice, 16 for the spare: none for a way that is disabled. While a bring-in runs, a
set already taken has its way `n` in the spare, or, where there is no spare to bring in, disabled (R223, R224). -/
def State.wayAt (s : State) (sl set n : Nat) : Option Nat :=
  let w := s.rd (Reg.L3S_WAYS sl)
  let noSpare := bitN w 16 || bitN w 17
  let taken := match smGet (fun _ => []) s.comp.spare sl with
    | m :: _ => if set < s.getF (Reg.L3S_SPARE_STAT sl) Fld.L3S_SPARE_STAT_SETS_DONE then some m else none
    | [] => none
  if bitN w 17 && decide (fieldN w 18 4 = n) then
    if bitN w 16 || decide (taken = some 16) then none else some 16
  else if bitN w n then none
  else if taken = some n then (if noSpare then none else some 16)
  else some n

/-- The lines of a set of a slice. -/
def State.setLines (s : State) (sl band w : Nat) : List (Nat × CLine) :=
  s.lines.filter (fun e => decide (sliceOf (e.1 * 64) = sl) && decide (e.2.band = band) && decide (setInBand (e.1 * 64) = w))

/-- The key of a set of a slice among the sets of all caches. -/
def l3SetKey (sl set : Nat) : Nat := 400000 + sl * 2048 + set

/-- A use of a line at its slice noted in its set's tree. -/
def State.touchL3 (s : State) (l : Nat) : State :=
  match s.line l with
  | none => s
  | some x =>
    let sl := sliceOf (l * 64)
    let set := 32 * x.band + setInBand (l * 64)
    match (natsFrom 0 16).find? (fun n => decide (s.wayAt sl set n = some x.way)) with
    | some n => s.touchWay (l3SetKey sl set) 4 n
    | none => s

/-- A way for a new line of a set: the lowest empty one that serves; in a full set the line of the way that the set's tree gives up is
evicted first (R208). none where no way serves. -/
def State.allocWay (s : State) (key : Option (Nat × Nat)) (sl band w : Nat) : State × Option Nat :=
  let set := 32 * band + w
  let used := s.setLines sl band w
  match (natsFrom 0 16).find? (fun n => match s.wayAt sl set n with | some p => !used.any (fun e => e.2.way = p) | none => false) with
  | some n => (s.touchWay (l3SetKey sl set) 4 n, s.wayAt sl set n)
  | none =>
    let n := s.victimWay (l3SetKey sl set) 4 (fun n => (s.wayAt sl set n).isSome)
    match s.wayAt sl set n with
    | none => (s, none)
    | some p =>
      let s := s.touchWay (l3SetKey sl set) 4 n
      match used.find? (fun e => e.2.way = p) with
      | none => (s, some p)
      | some e => (s.evictLine key e.1, some p)

/-- A line placed in the L3; not where its entry is void or no way is usable (R270). -/
def State.allocLine (s : State) (key : Option (Nat × Nat)) (l : Nat) (data : BitVec 512) (dirty poison : Bool) : State × Bool :=
  match s.bandOf (l * 64) with
  | none => (s, false)
  | some band =>
    let (s, w) := s.allocWay key (sliceOf (l * 64)) band (setInBand (l * 64))
    match w with
    | none => (s, false)
    | some w => (s.setLine l (some ⟨data, dirty, poison, band, w, []⟩), true)

/-- A trigger of a slice's spare way (R222, R224): bring-in in place of way `n` starts, or waits for the one running. A way that the
spare serves stands for the spare itself. -/
def State.spareTrigger (s : State) (sl n : Nat) : State :=
  let w := s.rd (Reg.L3S_WAYS sl)
  let n := if bitN w 17 && decide (fieldN w 18 4 = n) then 16 else n
  let q := smGet (fun _ => []) s.comp.spare sl
  if q.contains n then s else
  let s := { s with comp := { s.comp with spare := smPut (fun _ => []) s.comp.spare sl (q ++ [n]) } }
  if q = [] then
    let s := s.setF (Reg.L3S_SPARE_STAT sl) Fld.L3S_SPARE_STAT_STATE 1
    s.setF (Reg.L3S_SPARE_STAT sl) Fld.L3S_SPARE_STAT_SETS_DONE 0
  else s

/-- A corrected error of a way counted within its window; reaching the threshold starts bring-in (R222). -/
def State.wayError (s : State) (sl n : Nat) : State :=
  let thr := s.getF (Reg.L3S_CE_THR sl) Fld.L3S_CE_THR_THR
  let win := max 1 (s.getF (Reg.L3S_CE_THR sl) Fld.L3S_CE_THR_WINDOW_MS) * 1000000
  let ts := countIn (smGet (fun _ => []) s.comp.wayErrs (sl * 32 + n)) s.now win
  let s := { s with comp := { s.comp with wayErrs := smPut (fun _ => []) s.comp.wayErrs (sl * 32 + n) ts } }
  if thr ≠ 0 ∧ thr ≤ ts.length then s.spareTrigger sl n else s

/-! ### The way to the home slice -/

/-- The checks that a request to DRAM meets on its path, in order (R275, R268): the hub, the mesh and die-to-die wheels,
the type of the address, the color, the slice port. Each failure is logged. -/
def State.toSlice (s : State) (r : Req) (pa : Nat) : State × Option MErr :=
  let sl := sliceOf pa
  let ws := (match r.hub with | some h => [wheelHub h] | none => []) ++ pathWheels r.die (sliceDie sl)
  match s.firstNoSlot ws r.cid r.dtm with
  | some w => (s.logNoSlot w pa, some .resp)
  | none =>
    if s.inDram pa = false then (s, some .resp) else
    if s.colorOK r.cid pa = false then (s.logColor r pa, some .color) else
    if s.hasSlot (wheelL3S sl) (s.slotComp r pa) r.dtm = false then (s.logNoSlot (wheelL3S sl) pa, some .resp)
    else (s.resteerStep pa, none)

/-- The DRAM wheel's slot for a request (R275). -/
def State.toDram (s : State) (r : Req) (pa : Nat) : State × Option MErr :=
  let w := wheelDRAM (s.dramAddr pa).sub
  if s.hasSlot w (s.slotComp r pa) false then (s, none) else (s.logNoSlot w pa, some .resp)

/-- An injected error met at a slice by a request for a line present there, in its data or its tag and state (R205, R221, R467): a
correctable one is counted for its way; of an uncorrectable one, a line dirty in the L3 keeps its data with poison, and a clean one is
invalidated with its copies and filled again from memory, but for data that an L2 has modified. An uncorrectable error of a tag starts
bring-in (R222). -/
def State.l3Error (s : State) (r : Req) (l : Nat) : State :=
  match s.line l with
  | none => s
  | some x =>
    let sl := sliceOf (l * 64)
    let (inj, s) := s.takeInject (pageL3S sl) r.cid
    match inj with
    | none => s
    | some 1 =>
      let s := if Config.errTag s.free then s.tick.spareTrigger sl x.way else s.tick
      if x.dirty then (s.setLine l (some { x with poison := true })).logErrOpen (pageL3S sl) 1 (l * 64)
      else
        let s := s.logErrOpen (pageL3S sl) 0 (l * 64)
        if x.anyDirty then s.recallLine l else
        match s.toDram r (l * 64) with
        | (s, some _) => s.setLine l (some { x with poison := true })
        | (s, none) =>
          let (s, d, p) := s.dmcRead r.cid r.key l
          s.setLine l (some { x with data := d, poison := p, copies := [] })
    | some 2 => (s.setLine l (some { x with poison := true })).logErrOpen (pageL3S sl) 1 (l * 64)
    | some _ => (s.logErrOpen (pageL3S sl) 0 (l * 64)).wayError sl x.way

/-- A line read from memory into the L3 where it may be placed; where its entry is void it is served from memory. Answers
the data, the poison and whether the line is now present. -/
def State.fillL3 (s : State) (r : Req) (l : Nat) : State × Except MErr (BitVec 512 × Bool × Bool) :=
  match s.toDram r (l * 64) with
  | (s, some e) => (s, .error e)
  | (s, none) =>
    let (s, d, p) := s.dmcRead r.cid r.key l
    let (s, here) := s.allocLine r.key l d false p
    (s, .ok (d, p, here))

/-- A line found at its home slice, or filled there: its data, its poison and whether it is present (R210). -/
def State.atSlice (s : State) (r : Req) (l : Nat) : State × Except MErr (BitVec 512 × Bool × Bool) :=
  match s.line l with
  | some x =>
    let s := (s.touchL3 l).l3Error r l
    let x := (s.line l).getD x
    (s, .ok (x.data, x.poison, true))
  | none => s.fillL3 r l

/-! ### The caches of a core and its cluster (R204, R211) -/

/-- A line leaves a core's L1D. -/
def CLine.dropL1d (x : CLine) (core : Nat) : CLine :=
  { x with copies := x.copies.map (fun c => { c with d := c.d.filter (fun p => p.1 != core) }) }

/-- A line leaves a core's L1I. -/
def CLine.dropL1i (x : CLine) (core : Nat) : CLine :=
  { x with copies := x.copies.map (fun c => { c with i := c.i.filter (fun p => p != core) }) }

/-- A cache above the L3: a core's L1D, a core's L1I, a cluster's L2. -/
inductive Cache where
  | l1d (core : Nat) | l1i (core : Nat) | l2 (n : Nat)
  deriving DecidableEq, Repr

/-- The levels of a set's tree: 8, 4 and 16 ways. -/
def Cache.levels : Cache → Nat
  | .l1d _ => 3
  | .l1i _ => 2
  | .l2 _ => 4

/-- The set of a line (R204). -/
def Cache.set : Cache → Nat → Nat
  | .l1d _, l => l % 64
  | .l1i _, l => l % 128
  | .l2 _, l => l % 1024

/-- The key of a set among the sets of all caches. -/
def Cache.setKey : Cache → Nat → Nat
  | .l1d c, l => c * 64 + l % 64
  | .l1i c, l => 100000 + c * 128 + l % 128
  | .l2 n, l => 300000 + n * 1024 + l % 1024

/-- Whether the cache holds the line. -/
def Cache.holds : Cache → CLine → Bool
  | .l1d core, x => x.copies.any (fun c => c.cl = core / 16 && c.d.any (fun p => p.1 = core))
  | .l1i core, x => x.copies.any (fun c => c.cl = core / 16 && c.i.contains core)
  | .l2 n, x => x.copies.any (fun c => c.cl = n)

/-- Whether the cache holds the line modified. -/
def Cache.modified : Cache → CLine → Bool
  | .l1d core, x => x.copies.any (fun c => c.cl = core / 16 && c.d.any (fun p => p.1 = core && decide (p.2 = .m)))
  | .l1i _, _ => false
  | .l2 n, x => x.copies.any (fun c => c.cl = n && decide (c.st = .m))

/-- Whether a cache holds a line. -/
def State.holds (s : State) (k : Cache) (l : Nat) : Bool :=
  match s.line l with
  | some x => k.holds x
  | none => false

/-- A line leaves a cache; what it has modified goes to the level below. -/
def State.castOut (s : State) (k : Cache) (l : Nat) : State :=
  match k with
  | .l2 n => s.giveBack n l
  | .l1d core => (match s.line l with | some x => s.setLine l (some (x.dropL1d core)) | none => s)
  | .l1i core => (match s.line l with | some x => s.setLine l (some (x.dropL1i core)) | none => s)

/-- The line in a way of the set of line `l`; none where the way is empty. -/
def State.wayLine (s : State) (k : Cache) (l w : Nat) : Option Nat :=
  match smGet (fun _ => 0) s.comp.tags (k.setKey l * 16 + w) with
  | 0 => none
  | t + 1 => if s.holds k t then some t else none

/-- The way that holds a line. -/
def State.wayOf (s : State) (k : Cache) (l : Nat) : Option Nat :=
  (natsFrom 0 (2 ^ k.levels)).find? (fun w => decide (s.wayLine k l w = some l))

/-- A use of a line in a cache. A line that the cache does not hold yet takes the lowest empty way, or the way that the set's tree gives
up, whose line leaves (R204, R211). -/
def State.useWay (s : State) (k : Cache) (l : Nat) : State :=
  match s.wayOf k l with
  | some w => s.touchWay (k.setKey l) k.levels w
  | none =>
    let w := match (natsFrom 0 (2 ^ k.levels)).find? (fun w => (s.wayLine k l w).isNone) with
      | some w => w
      | none => s.victimWay (k.setKey l) k.levels (fun _ => true)
    let s := match s.wayLine k l w with | some v => s.castOut k v | none => s
    let put := fun (m : List (Nat × Nat)) => smPut (fun _ => 0) (m.filter (fun e => !(e.1 / 16 == k.setKey l && e.2 == l + 1))) (k.setKey l * 16 + w) (l + 1)
    { s with comp := { s.comp with tags := put s.comp.tags } }.touchWay (k.setKey l) k.levels w

/-- The caches of a core and its cluster used by an access to a line: the L1, and the L2 where the L1 does not hold it. -/
def State.useLine (s : State) (core l : Nat) (fetch : Bool) : State :=
  let k := if fetch then Cache.l1i core else .l1d core
  (if s.holds k l then s else s.useWay (.l2 (core / 16)) l).useWay k l

/-- Whether a core's L1D holds a line. -/
def State.inL1d (s : State) (core l : Nat) : Bool := s.holds (.l1d core) l

/-- A core's copy of a line for reading: L1I for a fetch, L1D otherwise. -/
def CLine.addReader (x : CLine) (core : Nat) (fetch : Bool) : CLine :=
  let n := core / 16
  match x.copy n with
  | some c =>
    if fetch then x.setCopy { c with i := if c.i.contains core then c.i else core :: c.i }
    else if c.d.any (fun p => p.1 = core) then x
    else x.setCopy { c with d := (core, .s) :: c.d.map (fun p => (p.1, Mesi.s)) }
  | none => x.setCopy ⟨n, .s, if fetch then [] else [(core, .s)], if fetch then [core] else []⟩

/-- The page of a cluster's L2. -/
def pageL2C (n : Nat) : Nat := 0x160 + n

/-- An error armed at a cluster's L2 page and met in a cache that holds the line of the access (R205, R221, R457; log 155): TYPE 3 in an
L1I, the others in an L1D or the L2. A correctable error is corrected; of an uncorrectable one the line leaves the cache and is filled
again, a modified one with poison. Logged with KIND 4. -/
def State.cacheError (s : State) (core : Nat) (k : Cache) (l : Nat) : State :=
  let n := core / 16
  let par := decide (s.getF (Reg.ERR_INJECT (pageL2C n)) Fld.ERR_INJECT_TYPE = 3)
  let code := match k with | .l1i _ => 0 | .l1d _ => 1 | .l2 _ => 2
  if par ≠ decide (code = 0) then s else
  match s.takeInject (pageL2C n) (s.cid n), s.line l with
  | (some t, s), some x =>
    let sev := if t = 2 ∨ (t = 1 ∧ k.modified x) then 1 else 0
    let info := code + b2n (decide (t ≠ 0)) * 4 + (s.wayOf k l).getD 0 * 8 + k.set l * 256
    let s := if sev = 1 then s.setLine l (some { x with poison := true }) else s
    let s := if t = 1 ∨ t = 3 then s.castOut k l else s
    (s.logRing n 4 sev (BitVec.ofNat 64 (l * 64)) (BitVec.ofNat 64 info) (s.cid n) (core % 16) true).logErrOpen (pageL2C n) sev (l * 64)
  | (_, s), _ => s

/-- The errors met by a core's access to a line on its way down: in the L1 where it holds the line, otherwise in the L2. -/
def State.cacheErrors (s : State) (core : Nat) (fetch : Bool) (l : Nat) : State :=
  let k := if fetch then Cache.l1i core else .l1d core
  if s.holds k l then s.cacheError core k l
  else if s.holds (.l2 (core / 16)) l then s.cacheError core (.l2 (core / 16)) l else s

/-! ### Core accesses through the caches -/

/-- A read of a normal write-back line by a core: from its cluster's L2, or through the home slice (R209, R210, R213). -/
def State.cohRead (s : State) (r : Req) (core : Nat) (fetch : Bool) (l : Nat) : State × Except MErr (BitVec 512 × Bool) :=
  let give := fun (s : State) (d : BitVec 512) (p : Bool) =>
    let s := s.useLine core l fetch
    match s.line l with
    | some x => (s.setLine l (some (x.addReader core fetch)), (.ok (x.data, x.poison) : Except MErr (BitVec 512 × Bool)))
    | none => (s, .ok (d, p))
  let s := s.cacheErrors core fetch l
  if s.holds (.l2 (core / 16)) l then give s 0 false else
  match s.toSlice r (l * 64) with
  | (s, some e) => (s, .error e)
  | (s, none) =>
    match s.atSlice r l with
    | (s, .error e) => (s, .error e)
    | (s, .ok (d, p, here)) => if here then give (s.downgradeLine l) d p else (s, .ok (d, p))

/-- A line brought into a cluster's L2 alone (R228); `s` where the request fails. -/
def State.fillL2 (s : State) (r : Req) (n l : Nat) : State :=
  if s.holds (.l2 n) l then s else
  match s.toSlice r (l * 64) with
  | (_, some _) => s
  | (t, none) =>
    match t.atSlice r l with
    | (_, .error _) => s
    | (t, .ok _) =>
      let t := (t.downgradeLine l).useWay (.l2 n) l
      match t.line l with
      | some x => t.setLine l (some (x.setCopy ⟨n, .s, [], []⟩))
      | none => t

/-- Exclusive ownership of a line for a core (R183, R209): every other copy is recalled or invalidated. Answers whether
the line can be held, which it cannot where its steering entry is void. -/
def State.cohOwn (s : State) (r : Req) (core l : Nat) : State × Except MErr Bool :=
  let n := core / 16
  let take := fun (s : State) =>
    let s := (s.useLine core l false).pull l (fun c => decide (c.cl ≠ n))
    match s.line l with
    | none => ((s, .ok false) : State × Except MErr Bool)
    | some x =>
      let i := match x.copy n with | some c => c.i | none => []
      let st := match x.copy n with | some c => (if c.st = .m then Mesi.m else Mesi.e) | none => .e
      let x' : CLine := { x with dirty := x.dirty || x.copies.any (fun c => decide (c.cl ≠ n) && decide (c.st = .m)),
                                 copies := [⟨n, st, [(core, st)], i⟩] }
      (s.setLine l (some x'), .ok true)
  let s := s.cacheErrors core false l
  let own : Bool := match s.line l with | some x => x.copies.any (fun c => decide (c.cl = n) && decide (c.st ≠ .s)) | none => false
  if own then take s else
  match s.toSlice r (l * 64) with
  | (s, some e) => (s, .error e)
  | (s, none) =>
    match s.atSlice r l with
    | (s, .error e) => (s, .error e)
    | (s, .ok (_, _, here)) => if here then take s else (s, .ok false)

/-- A line of a cluster's copy becomes modified with new bytes; poison stays (R465). -/
def CLine.store (x : CLine) (n : Nat) (d : BitVec 512) (mask : BitVec 64) : CLine :=
  { x with data := mergeLine x.data d mask,
           copies := x.copies.map (fun c => if c.cl = n then { c with st := .m, d := c.d.map (fun p => (p.1, Mesi.m)) } else c) }

/-- A store into a normal write-back line by a core, performed with the line held exclusive (R183). -/
def State.cohWrite (s : State) (r : Req) (core l : Nat) (d : BitVec 512) (mask : BitVec 64) : State × Option MErr :=
  match s.cohOwn r core l with
  | (s, .error e) => (s, some e)
  | (s, .ok true) =>
    match s.line l with
    | some x => (s.setLine l (some (x.store (core / 16) d mask)), none)
    | none => (s, none)
  | (s, .ok false) => (s.dmcWrite r.key l d mask false, none)

/-! ### Accesses at the home slice -/

/-- A read at the home slice that allocates in the L3 and no cache above it: deterministic mode (R153). The flag says the
access is late: a copy above held the line exclusive or modified, or the L3 missed (R153, R227). -/
def State.sliceRead (s : State) (r : Req) (l : Nat) : State × Except MErr (BitVec 512 × Bool × Bool) :=
  match s.toSlice r (l * 64) with
  | (s, some e) => (s, .error e)
  | (s, none) =>
    let late := match s.line l with | some x => x.copies.any (fun c => decide (c.st ≠ .s)) | none => true
    match s.atSlice r l with
    | (s, .error e) => (s, .error e)
    | (s, .ok (d, p, _)) =>
      let s := s.downgradeLine l
      match s.line l with
      | some x => (s, .ok (x.data, x.poison, late))
      | none => (s, .ok (d, p, late))

/-- A write at the home slice: every copy above is recalled and the bytes are merged into the L3 line, or into memory
where the line is not placed (R153, R226). -/
def State.sliceWrite (s : State) (r : Req) (l : Nat) (d : BitVec 512) (mask : BitVec 64) : State × Option MErr × Bool :=
  match s.sliceRead r l with
  | (s, .error e) => (s, some e, false)
  | (s, .ok (_, _, late)) =>
    let s := s.recallLine l
    match s.line l with
    | some x => (s.setLine l (some { x with data := mergeLine x.data d mask, dirty := true }), none, late)
    | none => (s.dmcWrite r.key l d mask false, none, late)

/-- A read of a line as normal non-cacheable: the L3 is not looked up (R213). -/
def State.ncRead (s : State) (r : Req) (l : Nat) : State × Except MErr (BitVec 512 × Bool) :=
  match s.toSlice r (l * 64) with
  | (s, some e) => (s, .error e)
  | (s, none) =>
    match s.toDram r (l * 64) with
    | (s, some e) => (s, .error e)
    | (s, none) => let (s, d, p) := s.dmcRead r.cid r.key l; (s, .ok (d, p))

/-- A store to a normal non-cacheable line, performed when the slice accepts it (R183). -/
def State.ncWrite (s : State) (r : Req) (l : Nat) (d : BitVec 512) (mask : BitVec 64) : State × Option MErr :=
  match s.toSlice r (l * 64) with
  | (s, some e) => (s, some e)
  | (s, none) =>
    match s.toDram r (l * 64) with
    | (s, some e) => (s, some e)
    | (s, none) => (s.dmcWrite r.key l d mask false, none)

/-- A coherent read by DMA, the IOMMU, a microsequencer or another agent: from the L3, after a downgrade, or from memory;
nothing is allocated (R212). -/
def State.dmaRead (s : State) (r : Req) (l : Nat) : State × Except MErr (BitVec 512 × Bool) :=
  match s.toSlice r (l * 64) with
  | (s, some e) => (s, .error e)
  | (s, none) =>
    match s.line l with
    | some x =>
      let s := ((s.touchL3 l).l3Error r l).downgradeLine l
      let x := (s.line l).getD x
      (s, .ok (x.data, x.poison))
    | none =>
      match s.toDram r (l * 64) with
      | (s, some e) => (s, .error e)
      | (s, none) => let (s, d, p) := s.dmcRead r.cid r.key l; (s, .ok (d, p))

/-- A coherent write by DMA or another agent: every copy is recalled; the bytes merge into the L3 line when it is present,
or go to memory (R212). `poison` marks the line's data; a whole-line write without it clears poison (R465). -/
def State.dmaWrite (s : State) (r : Req) (l : Nat) (d : BitVec 512) (mask : BitVec 64) (poison : Bool) : State × Option MErr :=
  if mask = 0#64 then (s, none) else
  match s.toSlice r (l * 64) with
  | (s, some e) => (s, some e)
  | (s, none) =>
    let s := (s.touchL3 l).recallLine l
    match s.line l with
    | some x =>
      let p := if mask = fullMask then poison else x.poison || poison
      (s.setLine l (some { x with data := mergeLine x.data d mask, dirty := true, poison := p }), none)
    | none =>
      match s.toDram r (l * 64) with
      | (s, some e) => (s, some e)
      | (s, none) => (s.dmcWrite r.key l d mask poison, none)

/-! ### Maintenance by line (R215, R217, R218) -/

/-- Every dirty copy of a line written to memory; copies stay, M becomes E (R215). -/
def State.lineClean (s : State) (key : Option (Nat × Nat)) (l : Nat) : State :=
  let s := s.pull l (fun _ => true)
  match s.line l with
  | none => s
  | some x =>
    let s := if x.anyDirty then s.writeDown key l x.data x.poison else s
    s.setLine l (some { x with dirty := false, copies := x.copies.map (fun c =>
      if c.st = .m then { c with st := .e, d := c.d.map (fun p => (p.1, if p.2 = .m then Mesi.e else p.2)) } else c) })

/-- A line cleaned, then every copy invalidated. -/
def State.lineFlush (s : State) (key : Option (Nat × Nat)) (l : Nat) : State := s.evictLine key l

/-- Every copy invalidated and dirty data discarded. -/
def State.lineInv (s : State) (l : Nat) : State := s.setLine l none

/-- The line invalidated in every L1I of the clusters of a compartment. -/
def State.lineIclean (s : State) (c l : Nat) : State :=
  match s.line l with
  | none => s
  | some x => s.setLine l (some { x with copies := x.copies.map (fun e => if s.cid e.cl = c then { e with i := [] } else e) })

/-! ### Writing back the caches of a core or a cluster (R149, R220) -/

/-- Every line that a core's L1D holds leaves it; the data stays with its cluster's L2. -/
def State.wbL1d (s : State) (core : Nat) : State := { s with lines := s.lines.map (fun e => (e.1, e.2.dropL1d core)) }

/-- A core's L1I emptied. -/
def State.invL1i (s : State) (core : Nat) : State := { s with lines := s.lines.map (fun e => (e.1, e.2.dropL1i core)) }

/-- A cluster's L1s and L2 written back and invalidated: the data of every modified line is in the L3. -/
def State.wbL2 (s : State) (n : Nat) : State :=
  (s.lines.filter (fun e => (Cache.l2 n).holds e.2)).foldl (fun s e => s.giveBack n e.1) s

/-- A cluster's copies lost: each line that is still modified there is marked with poison at the directory (R451). Before it, a cluster
reset writes an open number of lines back (log 160), and so do the WRITE_BACK commands of the cluster. -/
def State.loseL2 (s : State) (n : Nat) : State :=
  { s with lines := s.lines.map (fun e =>
      let mod := e.2.copies.any (fun c => decide (c.cl = n) && decide (c.st = .m))
      (e.1, { e.2.dropCopy n with poison := e.2.poison || mod })) }

/-- Whether a cluster's L2 and L1s hold no line (L2C_STAT.EMPTY). -/
def State.l2Empty (s : State) (n : Nat) : Bool := s.lines.all (fun e => !e.2.copies.any (fun c => c.cl = n))

/-! ### Words in memory, for the engines that act coherently -/

/-- Doubles read coherently within one line, and whether the line carries poison. -/
def State.agentRead64 (s : State) (r : Req) (pa : Nat) : State × Except MErr (Word × Bool) :=
  match s.dmaRead r (pa / 64) with
  | (s, .error e) => (s, .error e)
  | (s, .ok (d, p)) => (s, .ok (BitVec.ofNat 64 (d.toNat >>> (8 * (pa % 64 / 8 * 8))), p))

/-- A double written coherently. -/
def State.agentWrite64 (s : State) (r : Req) (pa : Nat) (v : Word) : State × Option MErr :=
  s.dmaWrite r (pa / 64) (BitVec.ofNat 512 (v.toNat <<< (8 * (pa % 64 / 8 * 8)))) (maskBytes (pa % 64 / 8 * 8) 8) false

end Sys2Proof.Machine
end

