-- ==== Sys2Proof/Machine/Queue.lean ====
section
/-! DEFINITION. Task queues in memory (chapter 10): packed regions, descriptors, the ring protocol with its broken slots,
the work masks, and what a push wakes. -/

namespace Sys2Proof.Machine

/-! ### Packed regions and descriptors (R229 to R233) -/

/-- The colors that compartment `c` owns, ascending; under another order than B every color (R230). -/
def State.colorsOf (s : State) (c : Nat) : List Nat :=
  if s.orderB then (natsFrom 0 64).filter (fun k => s.colorOwner k = some c) else natsFrom 0 64

/-- The PA of byte offset `o` of the packed region of compartment `c` at `b`; none where it owns no color (R230). -/
def State.packed (s : State) (c b o : Nat) : Option Nat :=
  let ks := s.colorsOf c
  let m := ks.length
  if m = 0 then none else
  let n := o / 4096
  some (b + 0x40000 * (n / m) + 0x1000 * ks.getD (n % m) 0 + o % 4096)

/-- A refused access to a packed region that has no PA: logged with ERR_ADDR = b + o (R230). -/
def State.packedRefused (s : State) (r : Req) (b o : Nat) : State := s.logColor r (b + o)

/-- A microsequencer's refused access: the cluster's error log, KIND 7 (R231). -/
def State.logUseqColor (s : State) (n core q pa : Nat) : State :=
  s.logCluster n 7 2 (BitVec.ofNat 64 pa) (BitVec.ofNat 64 q) (s.cid n) (core % 16) false

/-- Why a queue access ended: a color refusal at a PA, or an error response. -/
inductive QErr where
  | color (pa : Nat)
  | resp
  deriving DecidableEq, Repr

/-- A memory error at an address as a queue error. -/
def qerr (e : MErr) (pa : Nat) : QErr := match e with | .color => .color pa | .resp => .resp

/-- A descriptor as read, with its place (R232, R233). -/
structure Desc where
  pa : Nat
  ctl : Word
  ring : Word
  head : Nat
  tail : Nat
  done : Word
  lost : Word
  evpc : Word
  rkey : Word
  w7 : Word
  deriving DecidableEq, Repr

/-- Double `i` of a line. -/
def lineWord (d : BitVec 512) (i : Nat) : Word := BitVec.ofNat 64 (d.toNat >>> (64 * i))

/-- Words packed into a line, the first lowest. -/
def wordsLine : List Word → BitVec 512
  | [] => 0#512
  | w :: t => BitVec.ofNat 512 (w.toNat + (wordsLine t).toNat * 2 ^ 64)

/-- Whether a queue ID lies in the range of compartment `c` (R229). -/
def State.inRange (s : State) (c q : Nat) : Bool :=
  let b := s.getF (Reg.QM_RANGE c) Fld.QM_RANGE_BASE
  decide (b ≤ q) && decide (q < b + s.getF (Reg.QM_RANGE c) Fld.QM_RANGE_COUNT)

/-- The compartment whose range holds a queue ID. -/
def State.queueComp (s : State) (q : Nat) : Option Nat := (natsFrom 0 64).find? (fun c => s.inRange c q)

/-- The descriptor of queue `q` of compartment `c` read from memory (R231). -/
def State.readDesc (s : State) (r : Req) (c q : Nat) : State × Except QErr Desc :=
  let b := s.getF (Reg.QM_DTB c) Fld.QM_DTB_BASE * 2 ^ 18
  let o := 64 * (q - s.getF (Reg.QM_RANGE c) Fld.QM_RANGE_BASE)
  match s.packed c b o with
  | none => (s.packedRefused r b o, .error (.color (b + o)))
  | some pa =>
    match s.dmaRead r (pa / 64) with
    | (s, .error e) => (s, .error (qerr e pa))
    | (s, .ok (d, _)) =>
      let ht := lineWord d 2
      (s, .ok ⟨pa, lineWord d 0, lineWord d 1, fieldN ht 0 32, fieldN ht 32 32, lineWord d 3, lineWord d 4, lineWord d 5, lineWord d 6, lineWord d 7⟩)

/-- The ring's depth in frames. -/
def Desc.depth (d : Desc) : Nat := 2 ^ fieldN d.ctl 12 5
def Desc.cid (d : Desc) : Nat := fieldN d.ctl 17 6
def Desc.lvl (d : Desc) : Nat := fieldN d.ctl 2 2
def Desc.kindDma (d : Desc) : Bool := bitN d.ctl 1
def Desc.tag (d : Desc) : Nat := fieldN d.ctl 32 16

/-- Whether a descriptor exists and holds no reserved encoding (R232). -/
def Desc.encoded (d : Desc) : Bool :=
  bitN d.ctl 0 && decide (d.lvl < 2) && decide (fieldN d.ctl 4 2 < 3) && decide (fieldN d.ctl 10 2 < 3) && decide (fieldN d.ctl 12 5 ≤ 20)

/-- Whether a descriptor passes the check of reason 2 of R240: besides, its fields that must be 0 are. -/
def Desc.valid (d : Desc) : Bool :=
  d.encoded && decide (fieldN d.ctl 23 9 = 0) &&
    decide (d.ring &&& ~~~(maskN 18 34) = 0#64) && decide (d.w7 = 0#64)

/-- The frames a queue holds (R233). -/
def Desc.count (d : Desc) : Nat := (d.tail + 2 ^ 32 - d.head) % 2 ^ 32

/-- A double of the descriptor written at its home slice. -/
def State.putDesc (s : State) (r : Req) (d : Desc) (i : Nat) (v : Word) : State × Option QErr :=
  match s.agentWrite64 r (d.pa + 8 * i) v with
  | (s, some e) => (s, some (qerr e (d.pa + 8 * i)))
  | (s, none) => (s, none)

/-- HEAD and TAIL written. -/
def State.putHT (s : State) (r : Req) (d : Desc) (h t : Nat) : State × Option QErr :=
  s.putDesc r d 2 (BitVec.ofNat 64 (h % 2 ^ 32 + t % 2 ^ 32 * 2 ^ 32))

/-- QD_LOST raised by 1, sticking. -/
def State.queueLost (s : State) (r : Req) (d : Desc) : State :=
  match s.agentRead64 r (d.pa + 32) with
  | (s, .error _) => s
  | (s, .ok (v, _)) => (s.agentWrite64 r (d.pa + 32) (putN v 0 16 (stick 0xFFFF (fieldN v 0 16 + 1)))).1

/-- The PA of byte `o` of ring slot `i` (R242). -/
def State.slotPA (s : State) (c : Nat) (d : Desc) (i o : Nat) : Option Nat :=
  s.packed c (fieldN d.ring 18 34 * 2 ^ 18) (256 * (i % d.depth) + o)

/-! ### Frames (R235) -/

/-- A frame: 32 doubles, and which of its four lines carry poison. -/
structure QFrame where
  w : List Word
  p : List Bool
  deriving DecidableEq, Repr

/-- Double at byte offset `o` of a frame. -/
def QFrame.at (f : QFrame) (o : Nat) : Word := f.w.getD (o / 8) 0#64

/-- Double at byte offset `o` of a frame replaced. -/
def QFrame.put (f : QFrame) (o : Nat) (v : Word) : QFrame := { f with w := listSet f.w (o / 8) v }

/-- The frame of zeros. -/
def QFrame.zero : QFrame := ⟨List.replicate 32 0#64, List.replicate 4 false⟩

/-- Line `i` of a frame. -/
def QFrame.line (f : QFrame) (i : Nat) : BitVec 512 := wordsLine ((f.w.drop (8 * i)).take 8)

/-- Doubles of a line, eight of them. -/
def lineWords (d : BitVec 512) : List Word := (natsFrom 0 8).map (lineWord d)

/-- A frame read from a ring slot. -/
def State.readSlot (s : State) (r : Req) (c : Nat) (d : Desc) (i : Nat) : State × Except QErr QFrame :=
  (natsFrom 0 4).foldl (fun (acc : State × Except QErr QFrame) j =>
    match acc with
    | (s, .error e) => (s, .error e)
    | (s, .ok f) =>
      match s.slotPA c d i (64 * j) with
      | none => (s.packedRefused r (fieldN d.ring 18 34 * 2 ^ 18) (256 * (i % d.depth) + 64 * j),
                 .error (.color (fieldN d.ring 18 34 * 2 ^ 18 + 256 * (i % d.depth) + 64 * j)))
      | some pa =>
        match s.dmaRead r (pa / 64) with
        | (s, .error e) => (s, .error (qerr e pa))
        | (s, .ok (x, p)) => (s, .ok ⟨f.w ++ lineWords x, f.p ++ [p]⟩)) (s, .ok ⟨[], []⟩)

/-- A frame written into a ring slot, but for its SEQ word (R242, R465). -/
def State.writeSlot (s : State) (r : Req) (c : Nat) (d : Desc) (i : Nat) (f : QFrame) : State × Option QErr :=
  (natsFrom 0 4).foldl (fun (acc : State × Option QErr) j =>
    match acc with
    | (s, some e) => (s, some e)
    | (s, none) =>
      match s.slotPA c d i (64 * j) with
      | none => (s.packedRefused r (fieldN d.ring 18 34 * 2 ^ 18) (256 * (i % d.depth) + 64 * j),
                 some (.color (fieldN d.ring 18 34 * 2 ^ 18 + 256 * (i % d.depth) + 64 * j)))
      | some pa =>
        match s.dmaWrite r (pa / 64) (f.line j) (if j = 3 then maskBytes 0 56 else fullMask) (f.p.getD j false) with
        | (s, some e) => (s, some (qerr e pa))
        | (s, none) => (s, none)) (s, none)

/-- The SEQ of a slot (R235). -/
def State.readSeq (s : State) (r : Req) (c : Nat) (d : Desc) (i : Nat) : State × Except QErr Nat :=
  match s.slotPA c d i 0xF8 with
  | none => (s.packedRefused r (fieldN d.ring 18 34 * 2 ^ 18) (256 * (i % d.depth) + 0xF8),
             .error (.color (fieldN d.ring 18 34 * 2 ^ 18 + 256 * (i % d.depth) + 0xF8)))
  | some pa =>
    match s.agentRead64 r pa with
    | (s, .error e) => (s, .error (qerr e pa))
    | (s, .ok (v, _)) => (s, .ok (fieldN v 0 32))

/-- The SEQ of a slot written. -/
def State.writeSeq (s : State) (r : Req) (c : Nat) (d : Desc) (i v : Nat) : State × Option QErr :=
  match s.slotPA c d i 0xF8 with
  | none => (s.packedRefused r (fieldN d.ring 18 34 * 2 ^ 18) (256 * (i % d.depth) + 0xF8),
             some (.color (fieldN d.ring 18 34 * 2 ^ 18 + 256 * (i % d.depth) + 0xF8)))
  | some pa =>
    match s.agentWrite64 r pa (BitVec.ofNat 64 (v % 2 ^ 32)) with
    | (s, some e) => (s, some (qerr e pa))
    | (s, none) => (s, none)

/-! ### Broken slots (R245) -/

/-- A slot broken by cluster `n` (none: by another block), counted and logged (R245, R524). -/
def State.slotBroken (s : State) (r : Req) (n : Option Nat) (core q : Nat) (d : Desc) (i : Nat) : State :=
  let s := s.queueLost r d
  match n with
  | none => s
  | some n =>
    let s := s.addF (Reg.DSP_BROKEN n) Fld.DSP_BROKEN_COUNT 1
    s.logCluster n 5 1 (BitVec.ofNat 64 d.pa) (BitVec.ofNat 64 (q + i % 2 ^ 32 * 2 ^ 32)) (s.cid n) (core % 16) false

/-! ### Work masks and waking (R248, R250, R253) -/

/-- The bit of a core's home slot in its cluster's work mask. -/
def maskBit (core slot : Nat) : Nat := core % 16 * 2 + slot

/-- The queue of a home slot of a core, where the slot is enabled: as DSP_HOME stood at the core's last dispatch. -/
def State.homeQ (s : State) (core slot : Nat) : Option Nat :=
  let w := s.forced (Reg.DSP_HOME (core / 16) (core % 16))
  if slot = 0 then (if bitN w 18 then some (fieldN w 0 18) else none)
  else (if bitN w 38 then some (fieldN w 20 18) else none)

/-- The working clusters of a compartment, those it has drained and still has the home queues of, and the failed ones, each ascending
(R252, R260, R261). -/
def State.workingClusters (s : State) (c : Nat) : List Nat :=
  (s.clustersOf c).filter (fun n => !s.isF (Reg.CMT_CLUSTER n) Fld.CMT_CLUSTER_FAILED)
def State.idleClusters (s : State) (c : Nat) (failed : Bool) : List Nat :=
  (natsFrom 0 96).filter (fun n =>
    decide (s.cid n = c) && decide (s.isF (Reg.CMT_CLUSTER n) Fld.CMT_CLUSTER_FAILED = failed) &&
      (if s.isF (Reg.CMT_CLUSTER n) Fld.CMT_CLUSTER_EN then failed else decide ((s.cluster n).ranAs = c)))
def State.drainedClusters (s : State) (c : Nat) : List Nat := s.idleClusters c false
def State.failedClusters (s : State) (c : Nat) : List Nat := s.idleClusters c true

/-- Every cluster whose home queues belong to a compartment. -/
def State.homeClusters (s : State) (c : Nat) : List Nat := s.workingClusters c ++ s.drainedClusters c ++ s.failedClusters c

/-- Every parked core of a cluster may try its candidates again. -/
def State.wakeCluster (s : State) (n : Nat) : State :=
  (clusterCores n).foldl (fun s c => if (s.core c).run = .parked then s.modCore c (fun k => { k with woken := true }) else s) s

/-- Bit `bit` of a work mask set or cleared. -/
def maskPut (m : BitVec 32) (bit : Nat) (v : Bool) : BitVec 32 :=
  if v then m ||| BitVec.ofNat 32 (2 ^ bit) else m &&& ~~~(BitVec.ofNat 32 (2 ^ bit))

/-- A cluster's own work mask bit set or cleared; a bit that rises wakes the cluster's parked cores. The change reaches the
other clusters as a broadcast (WORK_MASK_BROADCAST); that of a failed cluster, which sends none, is made in the masks that the working
clusters keep for it (R261; log 164). -/
def State.setMask (s : State) (n bit : Nat) (v : Bool) : State :=
  if s.isF (Reg.CMT_CLUSTER n) Fld.CMT_CLUSTER_FAILED then
    (s.workingClusters (s.cid n)).foldl (fun s k =>
      let old := smGet (fun _ => 0#32) (s.cluster k).peer n
      let s := s.modCluster k (fun x => { x with peer := smPut (fun _ => 0#32) x.peer n (maskPut old bit v) })
      if v ∧ old.toNat.testBit bit = false then s.wakeCluster k else s) s
  else
    let k := s.cluster n
    let s := s.setCluster n { k with mask := maskPut k.mask bit v }
    if v ∧ k.mask.toNat.testBit bit = false then s.wakeCluster n else s

/-! ### Preemption due (R250) -/

/-- The microsequencer of a core's cluster as a requester, charged to `key`. -/
def State.seqReq (s : State) (core : Nat) (key : Option (Nat × Nat)) : Req :=
  { cid := s.cid (core / 16), die := core / 16 / 12, key := key, core := some core, src := 4 }

/-- Whether a home queue of a core holds a frame. -/
def State.homeHolds (s : State) (core : Nat) : Bool :=
  let cid := s.cid (core / 16)
  (natsFrom 0 2).any (fun slot =>
    match s.homeQ core slot with
    | none => false
    | some q => s.inRange cid q &&
      (match (s.readDesc (s.seqReq core none) cid q).2 with
       | .ok d => d.valid && decide (d.cid = cid) && decide (d.head ≠ d.tail)
       | .error _ => false))

/-- Whether a preemption of the current task is due (R250). -/
def State.preemptDue (s : State) (core : Nat) : Bool :=
  let k := s.core core
  match k.task with
  | none => false
  | some t => t.preempt && (k.hot || (decide (t.quantum ≠ 0) && decide (t.quantum * 1000 ≤ s.now - t.startTb) && s.homeHolds core))

/-- What the publication of a frame in queue `q` of compartment `c` does to its home cores (R242, R238, R248, R250). -/
def State.published (s : State) (c q : Nat) : State :=
  (s.homeClusters c).foldl (fun s n =>
    (clusterCores n).foldl (fun s core =>
      (natsFrom 0 2).foldl (fun s slot =>
        if s.homeQ core slot = some q then
          let s := s.setMask n (maskBit core slot) true
          let s := s.modCore core (fun k =>
            let pre : Bool := decide (slot = 0) && (match k.task with | some t => decide (t.qid.toNat ≠ q) | none => false)
            { k with woken := k.woken || decide (k.run = .parked), homeFrame := k.homeFrame || decide (k.run = .waiting),
                     hot := k.hot || pre })
          match (s.core core).task with
          | some t => if (s.core core).hot ∧ t.preempt then s.setF (Reg.DSP_STAT n (core % 16)) Fld.DSP_STAT_PREEMPT_PEND 1 else s
          | none => s
        else s) s) s) s

/-- The mask bits of a queue's home slots cleared after a claim left it empty (R253). -/
def State.emptied (s : State) (c q : Nat) : State :=
  (s.homeClusters c).foldl (fun s n =>
    (clusterCores n).foldl (fun s core =>
      (natsFrom 0 2).foldl (fun s slot => if s.homeQ core slot = some q then s.setMask n (maskBit core slot) false else s) s) s) s

/-! ### Push and claim (R242 to R246) -/

/-- How a push ended. -/
inductive PushRes where
  | done | full | lostSlot | err (e : QErr)
  deriving DecidableEq, Repr

/-- A push of frame `f` to queue `q` of compartment `c`, whose descriptor is `d`, by a core of cluster `n` or another block.
The operation is one step, so a slot that is not ready has been left by an agent that failed: it is broken (R245). -/
def State.pushQ (s : State) (r : Req) (n : Option Nat) (core c q : Nat) (d : Desc) (f : QFrame) : State × PushRes :=
  if d.depth ≤ d.count then (s, .full) else
  match s.putHT r d d.head (d.tail + 1) with
  | (s, some e) => (s, .err e)
  | (s, none) =>
    match s.readSeq r c d d.tail with
    | (s, .error e) => (s, .err e)
    | (s, .ok q0) =>
      let s := if q0 = d.tail then s else ((s.slotBroken r n core q d d.tail).writeSeq r c d d.tail d.tail).1
      match s.writeSlot r c d d.tail f with
      | (s, some e) => (s, .err e)
      | (s, none) =>
        match s.readSeq r c d d.tail with
        | (s, .error e) => (s, .err e)
        | (s, .ok q1) =>
          if q1 ≠ d.tail then (s, .lostSlot) else
          match s.writeSeq r c d d.tail (d.tail + 1) with
          | (s, some e) => (s, .err e)
          | (s, none) => (s.published c q, .done)

/-- How a claim ended. -/
inductive ClaimRes where
  | empty
  | frame (idx : Nat) (f : QFrame)
  | broken (idx : Nat)
  | err (idx : Option Nat) (e : QErr)
  deriving DecidableEq, Repr

/-- A claim of the head frame of queue `q` of compartment `c` (R242); a slot that was never published is broken (R245). -/
def State.claimQ (s : State) (r : Req) (n : Option Nat) (core c q : Nat) (d : Desc) : State × ClaimRes :=
  if d.head = d.tail then (s.emptied c q, .empty) else
  match s.putHT r d (d.head + 1) d.tail with
  | (s, some e) => (s, .err none e)
  | (s, none) =>
    let s := if (d.head + 1) % 2 ^ 32 = d.tail then s.emptied c q else s
    match s.readSeq r c d d.head with
    | (s, .error e) => (s, .err (some d.head) e)
    | (s, .ok q0) =>
      if q0 ≠ (d.head + 1) % 2 ^ 32 then
        (((s.slotBroken r n core q d d.head).writeSeq r c d d.head (d.head + d.depth)).1, .broken d.head)
      else
        match s.readSlot r c d d.head with
        | (s, .error e) => (s, .err (some d.head) e)
        | (s, .ok f) =>
          match s.writeSeq r c d d.head (d.head + d.depth) with
          | (s, some e) => (s, .err (some d.head) e)
          | (s, none) => (s, .frame d.head f)

/-- A claim of the head frame charged to no tag until it takes a frame, and to the frame's tag from then on (R258). -/
def State.claimTagged (s : State) (r : Req) (n : Option Nat) (core c q : Nat) (d : Desc) : State × ClaimRes :=
  let c0 := s.claimQ r n core c q d
  match c0.2 with
  | .frame _ f => s.claimQ { r with key := some (c, fieldN (f.at 0x38) 0 16) } n core c q d
  | _ => c0

end Sys2Proof.Machine
end

