-- ==== Sys2Proof/Machine/Router.lean ====
section
/-! DEFINITION. The interrupt routers (chapter 15): vectors, delivery to a core or into a task queue, held events, and
the settling of the events that a command has raised. -/

namespace Sys2Proof.Machine

/-- An event sent towards a router. -/
def State.raise (s : State) (e : Ev) : State := { s with io := { s.io with evq := s.io.evq ++ [e] } }

/-- The key of the table entry of a global vector (R374). -/
def irtKey (vec : Nat) : Nat := Reg.IRT (vec / 256 % 32) (vec % 256)

/-- The key of a vector's router counters. -/
def irrStat (vec : Nat) : Nat := Reg.IRR_STAT (vec / 4096 % 2 * 16)

/-- A dropped event counted (R375, R377). -/
def State.countDrop (s : State) (vec : Nat) : State := s.addF (irrStat vec) Fld.IRR_STAT_DROPS 1

/-- A dropped event counted and logged as a stray access (R375). -/
def State.dropEvent (s : State) (e : Ev) (cluster core : Nat) : State :=
  (s.countDrop e.vec).strayDrop e.attr cluster core e.vec

/-- An event merged into one that waits (R377, R129). -/
def State.mergeEvent (s : State) (vec : Nat) : State := s.addF (irtKey vec) Fld.IRT_MERGES 1

/-- The held events of a router. -/
def State.heldOf (s : State) (d : Nat) : List Held := s.io.held.filter (fun h => decide (h.ev.vec / 4096 % 2 = d))

/-- IRR_STAT.HELD brought up to date (R377). -/
def State.countHeld (s : State) (d : Nat) : State :=
  s.setF (Reg.IRR_STAT (d * 16)) Fld.IRR_STAT_HELD (s.heldOf d).length

/-- An event held, merged into one held for its vector, or dropped when its compartment's 16 entries are in use (R377). -/
def State.holdEvent (s : State) (e : Ev) (q : Nat) : State :=
  if s.io.held.any (fun h => decide (h.ev.vec = e.vec)) then s.mergeEvent e.vec else
  let d := e.vec / 4096 % 2
  if 16 ≤ ((s.heldOf d).filter (fun h => decide (h.ev.attr % 64 = e.attr % 64))).length then s.countDrop e.vec else
  let s : State := { s with io := { s.io with held := s.io.held ++ [(⟨e, q⟩ : Held)] } }
  s.countHeld d

/-- SC_0 of an event frame (R376). -/
def evSource (e : Ev) : Word :=
  BitVec.ofNat 64 ((if e.cls ≤ 4 then e.vec % 2 ^ 13 else 0) + e.cls * 2 ^ 13 + e.src % 2 ^ 16 * 2 ^ 16 + e.port * 2 ^ 32)

/-- The event frame (R255). -/
def eventFrame (e : Ev) (q : Nat) (d : Desc) (tb : Word) : QFrame :=
  let f := QFrame.zero
  let f := f.put 0x00 d.evpc
  let f := f.put 0x18 (BitVec.ofNat 64 (2 * 2 ^ 16))
  let f := f.put 0x38 (BitVec.ofNat 64 (d.tag + q * 2 ^ 16 + 2 ^ 38))
  let f := f.put 0x40 (evSource e)
  let f := f.put 0x48 e.sc1
  f.put 0xD0 tb

/-- The router of I/O die `d` as a requester for compartment `c`. -/
def routerReq (d c : Nat) : Req := { cid := c, die := 8 + d, hub := some d, key := none, src := 6 }

/-- How the posting of an event frame ended. -/
inductive PostRes where
  | done | full | notQueue
  deriving DecidableEq, Repr

/-- An event frame posted into queue `q` of compartment `c` (R255, R375). -/
def State.postEvent (s : State) (die c q : Nat) (e : Ev) : State × PostRes :=
  if s.inRange c q = false then (s, .notQueue) else
  let r := routerReq die c
  match s.readDesc r c q with
  | (s, .error _) => (s, .notQueue)
  | (s, .ok d) =>
    if d.valid = false ∨ d.cid ≠ c ∨ d.kindDma then (s, .notQueue) else
    match s.pushQ r none 0 c q d (eventFrame e q d s.tb) with
    | (s, .done) => (s, .done)
    | (s, .full) => (s, .full)
    | (s, .lostSlot) => (s, .full)
    | (s, .err _) => (s, .notQueue)

/-- Whether deliveries to a compartment wait until the first warden core leaves the reset of a warden partial reset (R306). -/
def State.wardenWait (s : State) (c : Nat) : Bool :=
  decide (c = 63) && (decide (s.getF Reg.WDN_STAT Fld.WDN_STAT_STATE = 2) || (s.warden.down && s.warden.restarted))

/-- A MODE-0 delivery (R375, R130, R129). -/
def State.deliverCore (s : State) (e : Ev) : State :=
  let k := irtKey e.vec
  let n := s.getF k Fld.IRT_CLUSTER
  let c := s.getF k Fld.IRT_CORE
  let id := s.getF k Fld.IRT_ID
  if 96 ≤ n ∨ s.ciiAccepts n e.attr = false then s.strayDrop e.attr n c e.vec else
  if bitN (s.rd (Reg.CII_PEND n c)) id then s.mergeEvent e.vec else s.setPend (n * 16 + c) id

/-- A MODE-1 delivery into a queue (R375, R377): events of one vector keep their order. -/
def State.deliverQueue (s : State) (e : Ev) : State :=
  let q := s.getF (irtKey e.vec) Fld.IRT_QUEUE
  if s.io.held.any (fun h => decide (h.ev.vec = e.vec)) then s.mergeEvent e.vec else
  match s.postEvent (e.vec / 4096 % 2) (e.attr % 64) q e with
  | (s, .done) => s
  | (s, .full) => s.holdEvent e q
  | (s, .notQueue) => s.dropEvent e 127 0

/-- An event at its router (R375). -/
def State.route (s : State) (e : Ev) : State :=
  let k := irtKey e.vec
  if s.isF k Fld.IRT_EN = false ∨ s.getF k Fld.IRT_ATTR % 128 ≠ e.attr then s.dropEvent e 127 0 else
  if s.isF k Fld.IRT_MODE then s.deliverQueue e else s.deliverCore e

/-- The events waiting for a router taken up one by one; an event to compartment 63 waits while a warden partial reset
runs (R306). -/
def State.settleN : Nat → State → State
  | 0, s => s
  | n + 1, s =>
    match s.io.evq.find? (fun e => !s.wardenWait (e.attr % 64)) with
    | none => s
    | some e => State.settleN n ({ s with io := { s.io with evq := s.io.evq.erase e } }.route e)

/-- The events that a command has raised taken up: at most 256 at once, the rest at the next command (log 13). -/
def State.settle (s : State) : State := if s.io.evq = [] then s else s.settleN 256

/-- Held events whose vector's ATTR has changed dropped and logged (R381). -/
def State.dropStale (s : State) : State :=
  let stale := s.io.held.filter (fun h => decide (s.getF (irtKey h.ev.vec) Fld.IRT_ATTR % 128 ≠ h.ev.attr))
  if stale = [] then s else
  let s := { s with io := { s.io with held := s.io.held.filter (fun h => !stale.contains h) } }
  ((stale.foldl (fun s h => s.dropEvent h.ev 127 0) s).countHeld 0).countHeld 1

/-- Held events of router `d` posted again, each once, in the order of their arrival (R377). -/
def State.repost (s : State) (d : Nat) : State :=
  ((s.heldOf d).foldl (fun s h =>
    if s.wardenWait (h.ev.attr % 64) then s else
    match s.postEvent d (h.ev.attr % 64) h.queue h.ev with
    | (s, .done) => { s with io := { s.io with held := s.io.held.erase h } }
    | (s, .full) => s
    | (s, .notQueue) => { s with io := { s.io with held := s.io.held.erase h } }.dropEvent h.ev 127 0) s).countHeld d

/-- Held events of both routers posted again: a queue's HEAD has advanced (R377). -/
def State.repostAll (s : State) : State := if s.io.held = [] then s else (s.repost 0).repost 1

/-- HELD_EVENT_REPOST (R377). -/
def execHeldEventRepost (d : Fin 2) (s : State) : Host.Outcome State Fault Refusal := .next (s.repost d.val).settle

end Sys2Proof.Machine
end

