-- ==== Sys2Proof/Machine/Notices.lean ====
section
/-! DEFINITION. Announcements of declared events to the compartments (R437) and the Index decision log (R438). -/

namespace Sys2Proof.Machine

/-- The cores of the working clusters of a compartment. -/
def State.workingCores (s : State) (c : Nat) : List Nat :=
  ((s.clustersOf c).filter (fun n => !s.isF (Reg.CMT_CLUSTER n) Fld.CMT_CLUSTER_FAILED)).flatMap clusterCores

/-- An entry written on the announcement page of compartment `c`, with interrupt ID 4 on its cores (R437). -/
def State.annPut (s : State) (c kind detail : Nat) (start fin : Word) : State :=
  let h := s.getF (Reg.ANN_HEAD c) Fld.ANN_HEAD_HEAD
  let j := h % 16
  let s := s.wr (Reg.ANN_START c j) start
  let s := s.wr (Reg.ANN_END c j) fin
  let s := s.wr (Reg.ANN_KIND c j) (BitVec.ofNat 64 (kind + detail % 256 * 256))
  let s := s.setF (Reg.ANN_HEAD c) Fld.ANN_HEAD_HEAD (h + 1)
  s.setPends (s.workingCores c) 4

/-- The position at which the next announcement of each compartment will be written. -/
def State.annPos (s : State) : List (Nat × Nat) := (natsFrom 0 64).map (fun c => (c, s.getF (Reg.ANN_HEAD c) Fld.ANN_HEAD_HEAD))

/-- The start of a declared event announced to every compartment; an event already in force is not announced again. -/
def State.announceStart (s : State) (kind detail : Nat) : State :=
  if s.power.declared.any (fun d => decide (d.kind = kind ∧ d.detail = detail)) then s else
  let d : Declared := ⟨kind, detail, s.tb, s.annPos⟩
  let s := { s with power := { s.power with declared := s.power.declared ++ [d] } }
  foldN (fun c s => s.annPut c kind detail s.tb 0#64) (natsFrom 0 64) s

/-- The end of a declared event: a new entry with both times, and the END of the start entry where it still stands. -/
def State.announceEnd (s : State) (kind detail : Nat) : State :=
  match s.power.declared.find? (fun d => decide (d.kind = kind ∧ d.detail = detail)) with
  | none => s
  | some d =>
    let s := { s with power := { s.power with declared := s.power.declared.erase d } }
    d.pos.foldl (fun s e =>
      let h := s.getF (Reg.ANN_HEAD e.1) Fld.ANN_HEAD_HEAD
      let s := if (h + 2 ^ 32 - e.2) % 2 ^ 32 < 16 then s.wr (Reg.ANN_END e.1 (e.2 % 16)) s.tb else s
      s.annPut e.1 kind detail d.start s.tb) s

/-- A compartment-shrunk report, posted to the compartment that shrank (R15, R437). -/
def State.announceShrunk (s : State) (c n : Nat) : State := s.annPut c 5 n s.tb s.tb

/-- The bound on the timebase error (R408): in holdover, the last bound and 50 ns per second since the last exchange. -/
def State.syncErr (s : State) : Nat :=
  if s.getF Reg.FABG_SYNC Fld.FABG_SYNC_STATE = 2 then
    stick 0xFFFFFFFF (4 * s.fab.hops + 50 * (s.now - s.fab.lastSync) / 1000000000)
  else s.getF Reg.FABG_SYNC Fld.FABG_SYNC_ERR_NS

/-- The sync state and its bound set; IRQ_STAT.SYNC of the ledger page is set when the state leaves "locked" (R408, chapter 13). -/
def State.setSync (s : State) (st err : Nat) : State :=
  let k := Reg.FABG_SYNC
  let old := s.getF k Fld.FABG_SYNC_STATE
  let s := (s.setF k Fld.FABG_SYNC_STATE st).setF k Fld.FABG_SYNC_ERR_NS err
  if old = 1 ∧ st ≠ 1 then s.irqRaise 0x11 0x20#64 else s

/-- The depth of the decision log. -/
def State.idxDepth (s : State) : Nat :=
  let n := s.getF Reg.IDX_LOG Fld.IDX_LOG_LOG2DEPTH
  2 ^ (if 8 ≤ n ∧ n ≤ 20 then n else 12)

/-- An entry of the Index decision log (R438): a refused write is dropped, and IDX_LOG_HEAD advances all the same. -/
def State.idxLog (s : State) (kind reason island cid : Nat) (old new : Word) : State :=
  let h := s.getF Reg.IDX_LOG_HEAD Fld.IDX_LOG_HEAD_HEAD
  let c := s.platform
  let b := s.getF Reg.IDX_LOG Fld.IDX_LOG_BASE * 2 ^ 18
  let o := 32 * (h % s.idxDepth)
  let r : Req := { cid := c, die := 10, src := 6 }
  let w1 := BitVec.ofNat 64 (kind + reason * 2 ^ 8 + island % 256 * 2 ^ 16 + cid * 2 ^ 24 + h * 2 ^ 32)
  let s := match s.packed c b o with
    | none => s.packedRefused r b o
    | some pa =>
      let d := wordsLine [s.tb, w1, old, new]
      (s.dmaWrite r (pa / 64) (BitVec.ofNat 512 (d.toNat <<< (8 * (pa % 64)))) (maskBytes (pa % 64) 32) false).1
  s.setF Reg.IDX_LOG_HEAD Fld.IDX_LOG_HEAD_HEAD (h + 1)

/-! ### Triggers of the emergency throttle (R435) -/

/-- The level-1 threshold in effect. -/
def State.emerg (s : State) : Nat := min 100 (s.getF Reg.IDX_THERM Fld.IDX_THERM_EMERG)

/-- Whether a trigger of level 2 is present: a sensor, the pin where it can be sensed, the current, a channel (R435). -/
def State.level2Trigger (s : State) : Bool :=
  decide (s.emerg + 2 ≤ s.getF Reg.IDX_THERM Fld.IDX_THERM_HOT) || (s.power.prochotIn && !s.power.prochotOut) ||
    decide (20 ≤ s.power.overs) || (natsFrom 0 16).any (fun n => decide (s.getF (Reg.DMC_STAT n) Fld.DMC_STAT_RATE = 2))

/-- The moment kept at which a trigger of a level was last present: called before whatever may clear one. -/
def State.noteTrigger (s : State) : State :=
  if s.emerg ≤ s.getF Reg.IDX_THERM Fld.IDX_THERM_HOT ∨ s.level2Trigger then { s with power := { s.power with trigTb := s.now } } else s

end Sys2Proof.Machine
end

