-- ==== Sys2Proof/Machine/Units.lean ====
section
/-! DEFINITION. What cores, clusters and pages return to at a reset or a reassignment (R49, R131, R149, R158, R178,
R201 to R203, R261, R451). -/

namespace Sys2Proof.Machine

/-- The registers of a page from an offset up, at their reset values. -/
def State.resetPage (s : State) (page lo : Nat) : State :=
  { s with regs := s.regs.filter (fun e => !(decide (e.1 / 4096 = page) && decide (lo ≤ e.1 % 4096)))
           latched := s.latched.filter (fun e => !(decide (e.1 / 4096 = page) && decide (lo ≤ e.1 % 4096))) }

/-- A core's TLBs emptied. -/
def State.dropCoreTlb (s : State) (core : Nat) : State :=
  s.modCluster (core / 16) (fun k => { k with tlb := k.tlb.filter (fun e =>
    match e.loc with
    | .cluster => true
    | .itlb c => decide (c ≠ core % 16)
    | .dtlb c => decide (c ≠ core % 16)) })

/-- Every TLB of a cluster emptied (R178). -/
def State.dropTlbs (s : State) (n : Nat) : State := s.modCluster n (fun k => { k with tlb := [] })

/-- The tenant fence of a core (R149): branch target buffer, return stack, line buffer, L1I and L1D. -/
def State.fence (s : State) (core : Nat) : State :=
  ((s.modCore core (fun k => { k with btb := [], rstack := [], lineBuf := none })).invL1i core).wbL1d core

/-- A core's state after its reset (R49, R158): it parks; what the core is as a unit stays. -/
def coreAfterReset (k : Core) : Core := { run := if k.retired then .off else .parked, retired := k.retired }

/-- The entries that a core reset discards, as the store-discard information word counts them (R203). -/
def discardInfo (l : List SbEntry) (core cid kind : Nat) : Word :=
  let dev := l.any (fun e => decide (e.kind = .store) && (decide (e.mt = .devPosted) || decide (e.mt = .devStrict)))
  let spill := l.any (fun e => e.spill)
  let maint := l.any (fun e => decide (e.kind ≠ .store))
  BitVec.ofNat 64 (l.length + b2n dev * 32 + b2n spill * 64 + b2n maint * 128 + core % 16 * 256 + cid * 2 ^ 12 + kind * 2 ^ 18)

/-- The physical address that an entry names first. -/
def SbEntry.firstPA (e : SbEntry) : Nat :=
  match e.kind with
  | .store => e.pa
  | _ => (match e.lines with | x :: _ => x.line * 64 | [] => e.pa)

/-- The store buffer entries of a core that a reset finds undrained at the end of its allowance: discarded and logged in
the cluster's log, KIND 1 (R203, R524). -/
def State.discardStores (s : State) (core kind : Nat) : State :=
  match (s.core core).sb with
  | [] => s
  | e :: t =>
    let n := core / 16
    s.logCluster n 1 1 (BitVec.ofNat 64 e.firstPA) (discardInfo (e :: t) core (s.cid n) kind) (s.cid n) (core % 16) false

/-- A core put into its state after reset. -/
def State.coreReset (s : State) (core : Nat) : State :=
  let s := ((s.dropCoreTlb core).wbL1d core).invL1i core
  let s := (s.modCore core coreAfterReset).unlatch (Reg.DSP_PARK (core / 16) (core % 16))
  let s := s.setF (Reg.CII_STAT (core / 16) (core % 16)) Fld.CII_STAT_HALTED 0
  s.setF (Reg.DSP_STAT (core / 16) (core % 16)) Fld.DSP_STAT_STATE 0

/-- The pages of a cluster that a cluster reset returns to their reset values: CII and DSP (R451). -/
def State.resetClusterPages (s : State) (n : Nat) : State := (s.resetPage (0x220 + n) 0x100).resetPage (0x100 + n) 0x100

/-- L2C_STAT.EMPTY brought up to date. -/
def State.updEmpty (s : State) (n : Nat) : State :=
  (s.setF (Reg.L2C_STAT n) Fld.L2C_STAT_EMPTY (b2n (s.l2Empty n))).setF (Reg.L2C_STAT n) Fld.L2C_STAT_FLUSHING 0

/-- A cluster in its state after reset, its caches empty (R451). -/
def State.clusterReset (s : State) (n : Nat) : State :=
  let s := (s.resetClusterPages n).dropTlbs n
  let s := foldN (fun c s => s.coreReset c) (clusterCores n) s
  let s := s.modCluster n (fun k => { k with inv := [], mask := 0#32, resetKind := none, drain := none })
  s.updEmpty n

/-- A drained cluster handed to another compartment (R131, R149, R178, R261, R264). -/
def State.reassign (s : State) (n : Nat) : State :=
  let s := (s.resetClusterPages n).dropTlbs n
  let s := foldN (fun c s => (s.fence c).modCore c (fun k => { k with perf := {}, run := if k.retired then .off else if k.run = .halted then .halted else .parked, task := none, lastTag := none }))
    (clusterCores n) s
  ((s.modCluster n (fun k => { k with mask := 0#32, peer := [] })).wbL2 n).updEmpty n

end Sys2Proof.Machine
end

