-- ==== Sys2Proof/Machine/Columns.lean ====
section
/-! DEFINITION. The static column schedule of a DRAM wheel (R340). -/

namespace Sys2Proof.Machine

/-- The quads (one RK[0] and one BG) in which a compartment owns a color. -/
def State.quadsOf (s : State) (c : Nat) : List Nat :=
  ((natsFrom 0 64).filter (fun k => s.isF (Reg.CMT_COLOR k) Fld.CMT_COLOR_EN && decide (s.getF (Reg.CMT_COLOR k) Fld.CMT_COLOR_CID = c))).map (· / 4)

/-- gap(x, y) of R340, for the owners of the two slots. -/
def State.colGap (s : State) (a b : Nat) : Nat :=
  if a = b then 4 else if (s.quadsOf a).any (fun q => (s.quadsOf b).contains q) then 10 else 5

/-- The slots of a wheel in effect that compartment `c` owns. -/
def State.slotsOwned (s : State) (w c : Nat) : Nat :=
  ((natsFrom 0 64).filter (fun i => let e := s.slotNow w i; bitN e 6 && decide (fieldN e 0 6 = c))).length

/-- The working values of the computation: column slots by compartment, the last and the first slot chosen with their
owners, the slots chosen. -/
structure ColWork where
  used : List (Nat × Nat)
  last : Option (Nat × Nat)
  first : Option (Nat × Nat)
  mask : Nat
  deriving DecidableEq, Repr

/-- One slot of the computation of R340. -/
def State.colSlot (s : State) (w : Nat) (k : ColWork) (i : Nat) : ColWork :=
  let e := s.slotNow w i
  let c := fieldN e 0 6
  let u := smGet (fun _ => 0) k.used c
  let okLast : Bool := match k.last with | none => true | some (p, d) => decide (s.colGap d c ≤ i - p)
  let okFirst : Bool := match k.first with | none => true | some (f, d) => decide (s.colGap c d ≤ 64 + f - i)
  if bitN e 6 ∧ u < s.slotsOwned w c / 4 ∧ okLast ∧ okFirst then
    ⟨smPut (fun _ => 0) k.used c (u + 1), some (i, c), some (k.first.getD (i, c)), k.mask + 2 ^ i⟩
  else k

/-- The column slots of subchannel `u`, computed from the map in effect, with DMC_COLCNT. -/
def State.calcColumns (s : State) (u : Nat) : State :=
  let w := wheelDRAM u
  let k := (natsFrom 0 64).foldl (s.colSlot w) ⟨[], none, none, 0⟩
  let s := { s with dram := { s.dram with cols := smPut (fun _ => 0) s.dram.cols u k.mask, recalc := s.dram.recalc.filter (· != u) } }
  foldN (fun c s =>
    let r := Reg.DMC_COLCNT (u / 2) c
    s.wr r (putN (s.rd r) (16 * (u % 2)) 13 (s.slotsOwned w c / 4 + smGet (fun _ => 0) k.used c * 256))) (natsFrom 0 64) s

end Sys2Proof.Machine
end

