-- ==== Sys2Proof/Machine/Compart.lean ====
section
/-! DEFINITION. Compartments (chapter 11, and bands and ways of chapter 9): the ownership tables, color sweeps, band flushes
and re-steers, beat wheels and lending, the compartment barrier, and the arbiters. A function named `wr…` is what a
write to the register does, once R493 has let it through. -/

namespace Sys2Proof.Machine

open Host

/-! ### The rule of R263 -/

/-- Whether a write of `v` to a table entry that now holds `old` may be performed (R263). -/
def State.tableWrite (s : State) (w : Who) (old v : Word) : Bool :=
  s.platHOrW w && ((fieldN v 0 6 ≠ 63 && fieldN old 0 6 ≠ 63) || w.wOrBoot)

/-! ### The barrier (R281) -/

/-- The barrier of a compartment. -/
def State.bar (s : State) (c : Nat) : Barrier := smGet (fun _ => {}) s.comp.bars c

/-- A barrier stored. -/
def State.setBar (s : State) (c : Nat) (b : Barrier) : State :=
  { s with comp := { s.comp with bars := smPut (fun _ => {}) s.comp.bars c b } }

/-- The arrivals of cluster `n` not yet used. -/
def Barrier.count (b : Barrier) (n : Nat) : Nat := smGet (fun _ => 0) b.counts n

/-- PER_CLUSTER in effect: 0 acts as 1, values above 16 act as 16. -/
def State.barPer (s : State) (c : Nat) : Nat := max 1 (min 16 (s.getF (Reg.CMP_BAR_CTL c) Fld.CMP_BAR_CTL_PER_CLUSTER))

/-- The clusters that take part in a generation that starts now. -/
def State.barParts (s : State) (c : Nat) : List Nat :=
  (s.clustersOf c).filter (fun n => !s.isF (Reg.CMT_CLUSTER n) Fld.CMT_CLUSTER_FAILED)

/-- One release: BAR_GEN rises by 1, the arrivals used are taken off, and the next generation starts. -/
def State.barNext (s : State) (c : Nat) : State :=
  let b := s.bar c
  let s := s.setF (Reg.BAR_GEN c) Fld.BAR_GEN_GEN (s.getF (Reg.BAR_GEN c) Fld.BAR_GEN_GEN + 1)
  let counts := b.parts.foldl (fun m k => smPut (fun _ => 0) m k (b.count k - b.per)) b.counts
  s.setBar c { b with counts := counts, parts := s.barParts c, per := s.barPer c }

/-- Releases while every participating cluster has arrived. -/
def State.barRelease : Nat → State → Nat → State
  | 0, s, _ => s
  | n + 1, s, c =>
    let b := s.bar c
    if b.running ∧ b.parts ≠ [] ∧ b.parts.all (fun k => decide (b.per ≤ b.count k)) then
      State.barRelease n (s.barNext c) c
    else s

/-- The releases that are due: a generation uses at least one arrival of each cluster that takes part. -/
def State.barSettle (s : State) (c : Nat) : State :=
  State.barRelease ((s.bar c).counts.foldl (fun a e => a + e.2) 1) s c

/-- One arrival counted for a cluster (R281). A generation for which no cluster stood when it was due starts with the first arrival made
while one stands (log 158). -/
def State.barArrival (s : State) (c n : Nat) : State :=
  let b := s.bar c
  if b.running = false then s else
  let b := if b.parts = [] then { b with parts := s.barParts c, per := s.barPer c } else b
  (s.setBar c { b with counts := smPut (fun _ => 0) b.counts n (b.count n + 1) }).barSettle c

/-- A cluster taken out of the current generation: it has failed or starts a drain (R281). Where none is left the generation is released.
DESIGN CHOICE (log 158): the arrivals that a cluster which does not take part has made are kept for a later generation. -/
def State.barRemove (s : State) (c n : Nat) : State :=
  let b := s.bar c
  if b.parts.contains n = false then s else
  let s := s.setBar c { b with parts := b.parts.filter (fun k => k != n) }
  (if b.parts.all (fun k => decide (k = n)) then s.barNext c else s).barSettle c

/-! ### Arbiters held by the machinery (R290) -/

/-- The arbiter on a page. -/
def State.arb (s : State) (page : Nat) : Arb := smGet (fun _ => {}) s.comp.arbs page

/-- A parked grant of an arbiter ends. -/
def State.unparkArb (s : State) (page : Nat) : State :=
  { s with comp := { s.comp with arbs := smPut (fun _ => {}) s.comp.arbs page { s.arb page with parked := false } } }

/-- SYS set or cleared on the arbiters of a cluster (R290, R483): set, a parked grant ends. DESIGN CHOICE (log 161): the machinery of a
drain or a test holds them from the end of the drain until the cluster is given out again or the test ends. -/
def State.setSys (s : State) (n : Nat) (v : Bool) : State :=
  let s := s.setF (Reg.BLK_FREEZE (pageL2C n)) Fld.BLK_FREEZE_SYS (b2n v)
  let s := s.setF (Reg.BLK_FREEZE (pageUSQ n)) Fld.BLK_FREEZE_SYS (b2n v)
  if v then (s.unparkArb (pageL2C n)).unparkArb (pageUSQ n) else s

/-- CMP_BAR_CTL written: EN written 1 while the barrier stands starts the first generation; EN written 0 ends it (log 15). -/
def State.wrBarCtl (s : State) (c : Nat) (v : Word) : State :=
  let s := s.putFields (Reg.CMP_BAR_CTL c) v
  let b := s.bar c
  if s.isF (Reg.CMP_BAR_CTL c) Fld.CMP_BAR_CTL_EN then
    if b.running then s else s.setBar c { parts := s.barParts c, counts := [], per := s.barPer c, running := true }
  else s.setBar c {}

/-! ### Clusters (R264) -/

/-- A drain of a cluster started: it takes no task, and leaves the current barrier generation (R260, R281). -/
def State.startDrain (s : State) (n : Nat) (why : DrainBy) : State :=
  (s.modCluster n (fun k => { k with drain := some why })).barRemove (s.cid n) n

/-- Whether a test or a patch drains a cluster or has it: its parked cores hold their interrupts and reports until it is over (R470). -/
def State.testHeld (s : State) (n : Nat) : Bool :=
  match (s.cluster n).drain with
  | some (.test _) => true
  | some .patch => true
  | some .cmt => false
  | none => false

/-- A write of CMT_CLUSTER_n (R263, R264). -/
def State.wrCluster (s : State) (w : Who) (n : Nat) (v : Word) : State :=
  let k := Reg.CMT_CLUSTER n
  let old := s.rd k
  if s.tableWrite w old v = false then s.denyAt k else
  let tmo := fieldN v 16 16
  if s.getF k Fld.CMT_CLUSTER_RESULT = 1 then s.setF k Fld.CMT_CLUSTER_TIMEOUT_US tmo else
  let en := bitN v 6
  let en0 := bitN old 6
  let c := fieldN v 0 6
  if c ≠ fieldN old 0 6 ∧ (en0 ∨ s.isF k Fld.CMT_CLUSTER_DRAINED = false) then s.denyAt k else
  if en ∧ s.isF k Fld.CMT_CLUSTER_FAILED then s else
  let s := s.putFields k v
  if en0 ∧ en = false ∧ (s.cluster n).drain.isSome then
    -- a test or a patch has the cluster: refused with "busy" (R18, R472)
    (s.setF k Fld.CMT_CLUSTER_EN 1).setF k Fld.CMT_CLUSTER_RESULT 3
  else if en0 ∧ en = false then
    (((s.setF k Fld.CMT_CLUSTER_EN 0).setF k Fld.CMT_CLUSTER_DRAINED 0).setF k Fld.CMT_CLUSTER_RESULT 1).startDrain n .cmt
  else if en ∧ en0 = false then
    let r := (s.cluster n).ranAs
    let s := (s.setF k Fld.CMT_CLUSTER_DRAINED 0).setSys n false
    let s := if c = r then s else s.reassign n
    let s := if (c = 63) = (r = 63) then s else s.clusterReset n
    s.modCluster n (fun x => { x with ranAs := c })
  else s

/-! ### Bands and steering (R265, R270, R271) -/

/-- Whether any steering table names band `k`. -/
def State.named (s : State) (k : Nat) : Bool :=
  (natsFrom 0 64).any (fun c => s.ownsBand c k && (natsFrom 0 64).any (fun j => decide (s.getF (Reg.CMP_STEER c j) Fld.CMP_STEER_BAND = k)))

/-- The VOID bits of a compartment's entries that hold band `k` brought up to date. -/
def State.updVoid (s : State) (c k : Nat) : State :=
  foldN (fun j s =>
    if s.getF (Reg.CMP_STEER c j) Fld.CMP_STEER_BAND = k then
      s.setF (Reg.CMP_STEER c j) Fld.CMP_STEER_VOID (b2n (!s.ownsBand c k)) else s) (natsFrom 0 64) s

/-- CLEAN of a band cleared when an entry has come to name it (R265). -/
def State.updNamed (s : State) (k : Nat) : State := if s.named k then s.setF (Reg.CMT_BAND k) Fld.CMT_BAND_CLEAN 0 else s

/-- A write of CMT_BAND_k (R263, R265). -/
def State.wrBand (s : State) (w : Who) (b : Nat) (v : Word) : State :=
  let k := Reg.CMT_BAND b
  let old := s.rd k
  if s.tableWrite w old v = false then s.denyAt k else
  if fieldN v 0 7 = fieldN old 0 7 then s else
  if s.isF k Fld.CMT_BAND_CLEAN = false then s.denyAt k else
  let s := s.putFields k v
  ((s.updVoid (fieldN old 0 6) b).updVoid (fieldN v 0 6) b).updNamed b

/-- CMP_STAT.STEER_BUSY brought up to date. -/
def State.updSteerBusy (s : State) (c : Nat) : State :=
  s.setF (Reg.CMP_STAT c) Fld.CMP_STAT_STEER_BUSY (b2n (s.comp.resteer.any (fun e => decide (e.1 / 64 = c))))

/-- A write of CMP_STEER_j of compartment c (R270, R271): the re-steer keeps the old band until it ends. -/
def State.wrSteer (s : State) (c j : Nat) (v : Word) : State :=
  let k := Reg.CMP_STEER c j
  let y := fieldN v 0 6
  if s.isF (Reg.CMP_STAT c) Fld.CMP_STAT_STEER_BUSY then s else
  if s.ownsBand c y = false then s.denyAt k else
  let x := s.getF k Fld.CMP_STEER_BAND
  if x = y then s else
  let s := (s.setF k Fld.CMP_STEER_BAND y).setF k Fld.CMP_STEER_VOID 0
  let s := s.updNamed y
  let s := { s with comp := { s.comp with resteer := s.comp.resteer ++ [(c * 64 + j, x, 0)] } }
  s.updSteerBusy c

/-- RESTEER_END (R271): the last set of the old band has been taken. -/
def execResteerEnd (c : CompId) (j : Fin 64) (s : State) : Outcome State Fault Refusal :=
  match s.comp.resteer.find? (fun e => decide (e.1 = c.val * 64 + j.val)) with
  | none => .next s
  | some e =>
    let s := s.evictWhere (fun l x => decide (x.band = e.2.1) && decide (steerIdx (l * 64) = j.val) && decide (s.placeComp (l * 64) = some c.val))
    let s := { s with comp := { s.comp with resteer := s.comp.resteer.erase e } }
    .next (s.updSteerBusy c.val).settle

/-! ### Colors (R266) -/

/-- A write of CMT_COLOR_k (R263, R266). -/
def State.wrColor (s : State) (w : Who) (b : Nat) (v : Word) : State :=
  let k := Reg.CMT_COLOR b
  let old := s.rd k
  if s.tableWrite w old v = false then s.denyAt k else
  if s.isF k Fld.CMT_COLOR_BUSY then s.denyAt k else
  if fieldN v 0 7 = fieldN old 0 7 then s else
  if bitN old 6 = false then
    let s := (s.putFields k v).setF k Fld.CMT_COLOR_RESULT 2
    { s with dram := { s.dram with recalc := natsFrom 0 32 } }
  else
  match s.askLeave (.colorSweep (BitVec.ofNat 6 (fieldN old 0 6)).toFin) with
  | (s, false) => s.setF k Fld.CMT_COLOR_RESULT 4
  | (s, true) =>
    let s := (s.setF k Fld.CMT_COLOR_BUSY 1).setF k Fld.CMT_COLOR_RESULT 1
    { s with comp := { s.comp with sweeps := s.comp.sweeps ++ [(b, v)] } }

/-- COLOR_SWEEP_END (R266): the lines of the color are written back and invalidated, and the new owner takes effect. -/
def execColorSweepEnd (b : Fin 64) (s : State) : Outcome State Fault Refusal :=
  match s.comp.sweeps.find? (fun e => decide (e.1 = b.val)) with
  | none => .next s
  | some e =>
    let k := Reg.CMT_COLOR b.val
    let old := s.getF k Fld.CMT_COLOR_CID
    let s := s.evictWhere (fun l _ => decide (colorOf (l * 64) = b.val))
    let s := { s with comp := { s.comp with sweeps := s.comp.sweeps.erase e } }
    let s := ((s.putFields k e.2).setF k Fld.CMT_COLOR_BUSY 0).setF k Fld.CMT_COLOR_RESULT 2
    let s := { s with dram := { s.dram with recalc := natsFrom 0 32 } }
    .next (s.giveLeave (.colorSweep (BitVec.ofNat 6 old).toFin)).settle

/-! ### Band flush (R225) -/

/-- A band flush that has ended done: CLEAN is set while no steering table names the band (R265). -/
def State.flushDone (s : State) (b : Nat) : State :=
  let s := s.setF Reg.L3BM_FLUSH_STAT Fld.L3BM_FLUSH_STAT_RESULT 2
  if s.named b then s else s.setF (Reg.CMT_BAND b) Fld.CMT_BAND_CLEAN 1

/-- A write of L3BM_FLUSH (R225). -/
def State.wrBandFlush (s : State) (w : Who) (v : Word) : State :=
  let k := Reg.L3BM_FLUSH
  let b := fieldN v 0 6
  let own := s.isF (Reg.CMT_BAND b) Fld.CMT_BAND_EN
  let c := s.getF (Reg.CMT_BAND b) Fld.CMT_BAND_CID
  let may := w.wOrBoot || (own && w.isH c)
  let running := decide (s.getF Reg.L3BM_FLUSH_STAT Fld.L3BM_FLUSH_STAT_RESULT = 1)
  let go := bitN v 6
  if may = false then
    let s := s.denyAt k
    if go ∧ running = false then s.setF Reg.L3BM_FLUSH_STAT Fld.L3BM_FLUSH_STAT_RESULT 5 else s
  else
    let s := s.putFields k v
    if running ∨ go = false then s else
    let s := s.setF Reg.L3BM_FLUSH_STAT Fld.L3BM_FLUSH_STAT_LINES_WB 0
    if own = false then s.flushDone b else
    match s.askLeave (.bandFlush (BitVec.ofNat 6 c).toFin) with
    | (s, false) => s.setF Reg.L3BM_FLUSH_STAT Fld.L3BM_FLUSH_STAT_RESULT 4
    | (s, true) =>
      let s := s.setF Reg.L3BM_FLUSH_STAT Fld.L3BM_FLUSH_STAT_RESULT 1
      { s with comp := { s.comp with bandFlush := some (b, 0) } }

/-- BAND_FLUSH_END (R225): every line of the band has been flushed, or, at the timeout, `n` of them in ascending address
(log 16). DESIGN CHOICE (log 16): the lines are those present now, so a line filled into the band while the flush ran goes too. -/
def execBandFlushEnd (stopped : Option Nat) (s : State) : Outcome State Fault Refusal :=
  match s.comp.bandFlush with
  | none => .next s
  | some (b, test) =>
    if test ≠ 0 then .next s else
    let all := s.lines.filter (fun e => decide (e.2.band = b))
    let some' := match stopped with | none => all | some n => all.take n
    let wb := (some'.filter (fun e => e.2.anyDirty)).length
    let s := some'.foldl (fun s e => s.evictLine none e.1) s
    let s := s.setF Reg.L3BM_FLUSH_STAT Fld.L3BM_FLUSH_STAT_LINES_WB (stick 32768 wb)
    let s := { s with comp := { s.comp with bandFlush := none } }
    let s := s.giveLeave (.bandFlush (BitVec.ofNat 6 (s.getF (Reg.CMT_BAND b) Fld.CMT_BAND_CID)).toFin)
    match stopped with
    | none => .next (s.flushDone b).settle
    | some _ => .next (s.setF Reg.L3BM_FLUSH_STAT Fld.L3BM_FLUSH_STAT_RESULT 3).settle

/-! ### Spare ways (R222 to R224) -/

/-- A write of L3S_SPARE_CTL: GO is ignored while a bring-in runs. -/
def State.wrSpareCtl (s : State) (sl : Nat) (v : Word) : State :=
  let s := s.putFields (Reg.L3S_SPARE_CTL sl) v
  if bitN v 4 ∧ s.getF (Reg.L3S_SPARE_STAT sl) Fld.L3S_SPARE_STAT_STATE ≠ 1 then s.spareTrigger sl (fieldN v 0 4) else s

/-- The end of a bring-in: the spare serves in place of way n, or, where it already serves or has failed, way n is disabled; the failed
spare itself, number 16, is out of service (R224). -/
def State.spareEnd (s : State) (sl n : Nat) (rest : List Nat) : State :=
  let k := Reg.L3S_WAYS sl
  let st := Reg.L3S_SPARE_STAT sl
  let noSpare := s.isF k Fld.L3S_WAYS_SPARE_IN || bitN (s.rd k) 16 || decide (n = 16)
  let s := s.wr k (putN (s.rd k) n 1 1)
  let s :=
    if n = 16 then s.setF k Fld.L3S_WAYS_SPARE_IN 0
    else if noSpare then s
    else (s.setF k Fld.L3S_WAYS_SPARE_IN 1).setF k Fld.L3S_WAYS_SPARE_FOR n
  let s := s.setF st Fld.L3S_SPARE_STAT_STATE (if noSpare then 3 else 2)
  let s := { s with comp := { s.comp with spare := smPut (fun _ => []) s.comp.spare sl rest } }
  if rest = [] then s else (s.setF st Fld.L3S_SPARE_STAT_STATE 1).setF st Fld.L3S_SPARE_STAT_SETS_DONE 0

/-- SPARE_WAY_SET (R223): the next set, in ascending order, is taken; from then on `State.wayAt` has its way `n` in the spare. -/
def execSpareWaySet (sl : Fin 64) (s : State) : Outcome State Fault Refusal :=
  match smGet (fun _ => []) s.comp.spare sl.val with
  | [] => .next s
  | n :: rest =>
    let st := Reg.L3S_SPARE_STAT sl.val
    let set := s.getF st Fld.L3S_SPARE_STAT_SETS_DONE
    let s := s.evictWhere (fun l x => decide (sliceOf (l * 64) = sl.val) && decide (x.way = n) && decide (x.band * 32 + setInBand (l * 64) = set))
    let s := s.setF st Fld.L3S_SPARE_STAT_SETS_DONE (set + 1)
    .next (if set + 1 < 2048 then s else s.spareEnd sl.val n rest).settle

/-! ### Prefetch degree (R228) -/

/-- A write of L2C_PF: a MAX below CUR lowers CUR at once. -/
def State.wrPrefetch (s : State) (n : Nat) (v : Word) : State :=
  let k := Reg.L2C_PF n
  let s := s.putFields k v
  if s.getF k Fld.L2C_PF_MAX < s.getF k Fld.L2C_PF_CUR then s.setF k Fld.L2C_PF_CUR (s.getF k Fld.L2C_PF_MAX) else s

/-! ### Beat wheels (R273 to R280) -/

/-- Whether compartment `c` lends any slot in effect (R278, R280). -/
def State.lends (s : State) (c : Nat) : Bool :=
  s.isF (Reg.CMP_CTL c) Fld.CMP_CTL_LENDOK &&
    s.comp.maps.any (fun e => bitN e.2 6 && bitN e.2 7 && decide (fieldN e.2 0 6 = c))

/-- CMP_STAT.LEND_ACTIVE of every compartment brought up to date. -/
def State.updLend (s : State) : State :=
  foldN (fun c s => s.setF (Reg.CMP_STAT c) Fld.CMP_STAT_LEND_ACTIVE (b2n (s.lends c))) (natsFrom 0 64) s

/-- The wheels on which a deterministic slot must be owned: meshes, slice ports, the compute ring (R277). -/
def dtmWheels : List Nat := natsFrom 0 88

/-- Whether slot `i` qualifies as compartment `c`'s deterministic slot (R277). -/
def State.dtmQualifies (s : State) (c i : Nat) : Bool :=
  dtmWheels.all (fun w => let e := s.slotNow w i; bitN e 6 && decide (fieldN e 0 6 = c) && !bitN e 7)

/-- A write of CMP_DTM (R277). -/
def State.wrDtm (s : State) (c : Nat) (v : Word) : State :=
  let k := Reg.CMP_DTM c
  if bitN v 6 ∧ s.dtmQualifies c (fieldN v 0 6) = false then (s.setF k Fld.CMP_DTM_EN 0).denyAt k else s.putFields k v

/-- The reservations that a map change has broken: EN cleared and a denial logged (R277). -/
def State.dtmRecheck (s : State) : State :=
  foldN (fun c s =>
    let k := Reg.CMP_DTM c
    if s.isF k Fld.CMP_DTM_EN ∧ s.dtmQualifies c (s.getF k Fld.CMP_DTM_SLOT) = false then (s.setF k Fld.CMP_DTM_EN 0).denyAt k else s)
    (natsFrom 0 64) s

/-- A write of BEAT_MAP_s of wheel `w` is staged (R263, R276); compartment 63 never lends (R291). -/
def State.wrBeatMap (s : State) (who : Who) (w i : Nat) (v : Word) : State :=
  let k := Reg.BEAT_MAP (wheelPage w) i
  if s.tableWrite who (s.rd k) v = false ∨ (fieldN v 0 6 = 63 ∧ bitN v 7) then s.denyAt k else
  (s.putFields k v).setF (Reg.BW_STAT (wheelPage w)) Fld.BW_STAT_PENDING 1

/-- Whether a wheel is a DRAM command bus. -/
def wheelIsDram (w : Nat) : Bool := decide (108 ≤ w ∧ w < 140)

/-- The column slots computed again where a color sweep has ended (R340). -/
def State.recalcAt (s : State) (w : Nat) : State :=
  if wheelIsDram w ∧ s.dram.recalc.contains (w - 108) ∧ s.orderB then s.calcColumns (w - 108) else s

/-- The registers of a channel that take effect at the next revolution (DMC_CTL, DMC_REF). -/
def State.newRevolution (s : State) (w : Nat) : State :=
  if wheelIsDram w then (s.unlatch (Reg.DMC_CTL ((w - 108) / 2))).unlatch (Reg.DMC_REF ((w - 108) / 2)) else s

/-- A wheel at slot 0: the staged writes take effect together, with the column slots of a DRAM wheel (R276, R340). -/
def State.applyMaps (s : State) (w : Nat) : State :=
  let p := wheelPage w
  let s := s.newRevolution w
  if s.isF (Reg.BW_STAT p) Fld.BW_STAT_PENDING = false then s.recalcAt w else
  let maps := (natsFrom 0 64).foldl (fun m i => smPut (fun _ => 0#64) m (w * 64 + i) (s.rd (Reg.BEAT_MAP p i))) s.comp.maps
  let s := { s with comp := { s.comp with maps := maps } }
  let s := ((s.setF (Reg.BW_STAT p) Fld.BW_STAT_PENDING 0).dtmRecheck).updLend
  if wheelIsDram w ∧ s.orderB then s.calcColumns (w - 108) else s

/-- BEAT_MAP_APPLY (R276): the wheel reaches slot 0. -/
def execBeatMapApply (w : Fin 142) (s : State) : Outcome State Fault Refusal :=
  .next ((s.setF (Reg.BW_STAT (wheelPage w.val)) Fld.BW_STAT_POS 0).applyMaps w.val).settle

/-- The borrower of a lent slot: the first ready compartment with BORROW = 1 in ascending ID after the last borrower on
the wheel (R279). -/
def State.borrower (s : State) (w : Nat) (ready : List Nat) : Option Nat :=
  let last := smGet (fun _ => 63) s.comp.lastBorrow w
  ((natsFrom 0 64).map (fun i => (last + 1 + i) % 64)).find? (fun c => ready.contains c && s.isF (Reg.CMP_CTL c) Fld.CMP_CTL_BORROW)

/-- What a slot grants (R273, R279): to its owner, or lent to a borrower (true) whose use of the path ends within the slot, or to
nobody. -/
def State.slotGrant (s : State) (w : Nat) (ready fits : List Nat) : Option (Nat × Bool) :=
  let e := s.slotNow w (s.getF (Reg.BW_STAT (wheelPage w)) Fld.BW_STAT_POS)
  let c := fieldN e 0 6
  if bitN e 6 = false then none
  else if ready.contains c then some (c, false)
  else if bitN e 7 ∧ s.isF (Reg.CMP_CTL c) Fld.CMP_CTL_LENDOK then (s.borrower w (ready.filter fits.contains)).map (fun b => (b, true))
  else none

/-- A borrowed grant counted, and the borrower kept as the wheel's last one (R279). -/
def State.borrowed (s : State) (w b : Nat) : State :=
  let s := s.addF (Reg.BW_STAT (wheelPage w)) Fld.BW_STAT_BORROWED 1
  { s with comp := { s.comp with lastBorrow := smPut (fun _ => 63) s.comp.lastBorrow w b } }

/-- The wheel moves to its next slot. -/
def State.nextSlot (s : State) (w : Nat) : State :=
  let k := Reg.BW_STAT (wheelPage w)
  let pos := (s.getF k Fld.BW_STAT_POS + 1) % 64
  let s := s.setF k Fld.BW_STAT_POS pos
  let s := if wheelIsDram w then
      { s with dram := { s.dram with since := smPut (fun _ => 0) s.dram.since (w - 108) (smGet (fun _ => 0) s.dram.since (w - 108) + 1),
                                     used := smPut (fun _ => false) s.dram.used (w - 108) false } }
    else s
  if pos = 0 then s.applyMaps w else s

/-- SLOT_GRANT (R273, R279): one slot of a wheel, with the compartments that have a request ready, and those of them whose use of the
path would end within the slot; then the wheel moves on, and applies staged writes on reaching slot 0. -/
def execSlotGrant (w : Fin 142) (askers : SlotAskers) (s : State) : Outcome State Fault Refusal :=
  let s := match s.slotGrant w.val (askers.ready.map Fin.val) (askers.fits.map Fin.val) with
    | some (b, true) => s.borrowed w.val b
    | _ => s
  .next (s.nextSlot w.val).settle

/-- A write of CMP_CTL (R278 to R280). -/
def State.wrCmpCtl (s : State) (c : Nat) (v : Word) : State := (s.putFields (Reg.CMP_CTL c) v).updLend

/-! ### Arbiters (R283 to R290) -/

/-- The page of an arbiter. -/
def arbPage : ArbId → Nat
  | .l2c n => 0x160 + n.val
  | .usq n => 0x1C0 + n.val
  | .dmaa d c => 0x500 + d.val * 64 + c.val
  | .pcoa p c => 0x600 + p.val * 64 + c.val

/-- The number of requesters of the arbiter on a page. -/
def arbCount (page : Nat) : Nat := match Blk.ofPage page with | some (b, _) => b.arbReqs | none => 0

/-- The priority of a requester (R289). -/
def State.arbPrio (s : State) (page r : Nat) : Nat := fieldN (s.rd (Reg.ARB_PRIO page (r / 16))) (4 * (r % 16)) 4

/-- Whether the arbiter makes no new grant (R290). -/
def State.arbFrozen (s : State) (page : Nat) : Bool :=
  s.isF (Reg.BLK_FREEZE page) Fld.BLK_FREEZE_FREEZE || s.isF (Reg.BLK_FREEZE page) Fld.BLK_FREEZE_SYS

/-- Whether a requester is in a penalty window: some of its opportunities are still to come. -/
def Arb.penalised (a : Arb) (r : Nat) : Bool := a.penal.any (fun e => decide (e.1 = r) && decide (0 < e.2))

/-- One opportunity of every penalty window passed. -/
def Arb.countDown (a : Arb) : Arb := { a with penal := a.penal.map (fun e => (e.1, e.2 - 1)) }

/-- The place of requester `r` among those of its value: ascending after the last one granted at that value, wrapping. -/
def Arb.turn (a : Arb) (count p r : Nat) : Nat := (r + count - (smGet (fun _ => count - 1) a.last p + 1)) % count

/-- Whether `r` is served before `q` by R284. -/
def State.arbBefore (s : State) (page : Nat) (a : Arb) (r q : Nat) : Bool :=
  let p := s.arbPrio page r
  let u := s.arbPrio page q
  decide (u < p) || (decide (p = u) && decide (a.turn (arbCount page) p r < a.turn (arbCount page) p q))

/-- The turn estimate of requester `r` among those that compete (R287). -/
def State.arbEstimate (s : State) (page : Nat) (a : Arb) (field : List Nat) (r : Nat) : Nat :=
  stick 15 (field.filter (fun q => decide (q ≠ r) && s.arbBefore page a q r)).length

/-- The turn estimates written for the losers. -/
def State.arbTurns (s : State) (page : Nat) (a : Arb) (field losers : List Nat) : State :=
  losers.foldl (fun s r =>
    let k := Reg.ARB_TURN page (r / 16)
    s.wr k (putN (s.rd k) (4 * (r % 16)) 4 (s.arbEstimate page a field r))) s

/-- The arbiter stored, with ARB_REQ and BLK_FREEZE.IDLE. -/
def State.putArb (s : State) (page : Nat) (a : Arb) (ask : List Nat) : State :=
  let s := { s with comp := { s.comp with arbs := smPut (fun _ => {}) s.comp.arbs page a } }
  let mask := ask.foldl (fun m r => m + 2 ^ r) 0
  let s := s.wr (Reg.ARB_REQ page) (BitVec.ofNat 64 (mask + a.owner * 2 ^ 32 + b2n a.held * 2 ^ 37))
  s.setF (Reg.BLK_FREEZE page) Fld.BLK_FREEZE_IDLE (b2n (!a.held))

/-- One grant opportunity (R284 to R288, R290) with the requesters `ask` asking, in ascending number. -/
def State.arbDecide (s : State) (page : Nat) (ask : List Nat) : State :=
  let a := s.arb page
  let frozen := s.arbFrozen page
  let field := ask.filter (fun r => !a.penalised r)
  let others := field.filter (fun r => decide (r ≠ a.owner))
  let parks := s.isF (Reg.ARB_CTL page) Fld.ARB_CTL_PARK && ask.all (fun r => decide (r = a.owner))
  let a := if frozen then a else a.countDown
  -- a held grant whose requester still asks goes on
  if a.held ∧ ask.contains a.owner then
    let a := if frozen ∨ others = [] then a else { a with hold := a.hold + 1 }
    let s := if frozen then s else s.arbTurns page a others others
    s.putArb page a ask
  else
    let a := if a.held then { a with held := false, hold := 0, parked := parks } else { a with parked := a.parked && parks }
    if frozen then s.putArb page { a with parked := false } ask else
    if a.parked then
      if field.contains a.owner then s.putArb page { a with held := true, parked := false, hold := 0 } ask
      else s.putArb page a ask
    else
      match field.find? (fun r => field.all (fun q => decide (q = r) || s.arbBefore page a r q)) with
      | none => s.putArb page a ask
      | some r =>
        let s := s.arbTurns page a field (field.filter (fun q => decide (q ≠ r)))
        s.putArb page { a with owner := r, held := true, parked := false, hold := 0,
                               last := smPut (fun _ => arbCount page - 1) a.last (s.arbPrio page r) r,
                               suspended := a.suspended.filter (fun q => q != r) } ask

/-- The requesters named by a bit vector that an arbiter has. -/
def arbAsk (page : Nat) (ask : BitVec 32) : List Nat := (natsFrom 0 (arbCount page)).filter (fun r => ask.toNat.testBit r)

/-- The DMA engine that requester `r` of an arbiter is (R283). -/
def arbEngine (b : ArbId) (r : Nat) : Option Nat :=
  match b with
  | .dmaa d _ => some (32 * d.val + r)
  | .pcoa p _ => if r = 0 then none else some (32 * (p.val / 2) + 16 * (p.val % 2) + (r - 1))
  | _ => none

/-- What a decision tells the DMA engines that asked (chapter 15): one with a job that lost sleeps while its turn estimate is at
or above SLEEPT and otherwise runs on, as the winner does. -/
def State.arbEngines (s : State) (b : ArbId) (ask : List Nat) : State :=
  let page := arbPage b
  let a := s.arb page
  ask.foldl (fun s r =>
    match arbEngine b r with
    | none => s
    | some n =>
      if (smGet (fun _ => none) s.io.jobs n).isNone then s else
      let turn := fieldN (s.rd (Reg.ARB_TURN page (r / 16))) (4 * (r % 16)) 4
      let asleep := !(a.held && decide (a.owner = r)) && decide (s.getF (Reg.DMA_CTL n) Fld.DMA_CTL_SLEEPT ≤ turn)
      s.setF (Reg.DMA_STAT n) Fld.DMA_STAT_STATE (if asleep then 2 else 1)) s

/-- ARBITER_DECISION (R284). -/
def execArbiterDecision (b : ArbId) (ask : BitVec 32) (s : State) : Outcome State Fault Refusal :=
  let l := arbAsk (arbPage b) ask
  .next ((s.arbDecide (arbPage b) l).arbEngines b l)

/-- HOG_CUTOFF (R286): the grant has been held longer than HOLD_MAX, and is cut off at a transfer boundary; the decision of
that opportunity follows. -/
def execHogCutoff (b : ArbId) (ask : BitVec 32) (s : State) : Outcome State Fault Refusal :=
  let page := arbPage b
  let a := s.arb page
  let m := s.getF (Reg.ARB_CTL page) Fld.ARB_CTL_HOLD_MAX
  if a.held = false ∨ m = 0 ∨ a.hold ≤ m then .next s else
  let k := Reg.ARB_HOG page
  let s := (s.wr k (putN (s.rd k) a.owner 1 1)).setF k Fld.ARB_HOG_LAST a.owner
  let pen := s.getF (Reg.ARB_CTL page) Fld.ARB_CTL_PENALTY
  let a := { a with held := false, hold := 0, parked := false, suspended := a.suspended ++ [a.owner],
                    penal := if pen = 0 then a.penal else a.penal ++ [(a.owner, pen)] }
  let s := { s with comp := { s.comp with arbs := smPut (fun _ => {}) s.comp.arbs page a } }
  .next ((s.arbDecide page (arbAsk page ask)).arbEngines b (arbAsk page ask))

/-- PENALTY_END (R286): a window whose opportunities have all passed is over; they do not pass while the arbiter is frozen (R290). -/
def execPenaltyEnd (b : ArbId) (r : Fin 32) (s : State) : Outcome State Fault Refusal :=
  let page := arbPage b
  if s.arbFrozen page then .next s else
  let a := s.arb page
  .next { s with comp := { s.comp with arbs := smPut (fun _ => {}) s.comp.arbs page { a with penal := a.penal.filter (fun e => !(e.1 == r.val && e.2 == 0)) } } }

/-- A write of ARB_PRIO: the fields of requesters that the arbiter does not have stay 0 (R283, R289). -/
def State.wrPrio (s : State) (page i : Nat) (v : Word) : State :=
  let n := arbCount page - 16 * i
  s.putFields (Reg.ARB_PRIO page i) (v &&& maskN 0 (4 * min n 16))

/-- A write of BLK_FREEZE: a parked grant ends (R290). -/
def State.wrFreeze (s : State) (page : Nat) (v : Word) : State :=
  let s := s.putFields (Reg.BLK_FREEZE page) v
  if s.arbFrozen page then s.unparkArb page else s

end Sys2Proof.Machine
end

