-- ==== Sys2Proof/Machine/DramCtl.lean ====
section
/-! DEFINITION. The DRAM controllers (chapter 14): bank queues and their service, phases, refresh, retraining, parity
alerts, scrub, sparing, and the holding of a channel. -/

namespace Sys2Proof.Machine

open Host

/-! ### Bank queues (R336 to R338) -/

/-- Entries of a queue half under order B, of a whole queue otherwise (R336). -/
def State.queueDepth (s : State) : Nat := if s.orderB then 8 else 16

/-- Whether requests to a channel are held (R347). -/
def State.channelHeld (s : State) (ch : Nat) : Bool := s.dram.held.contains ch

/-- A request at its home slice: it enters its bank queue, or waits there while its half is full, its channel is held, or an older
request for the same half waits (R336, R347). A read of a line whose youngest queued write is whole takes its data from the write
and issues no command (R337). -/
def State.enterQ (s : State) (r : DramReq) : State :=
  let k := s.queueKey r.pa
  if s.queueDepth ≤ (s.dramQ k).length ∨ s.channelHeld (s.dramAddr r.pa).ch ∨ s.dram.wait.any (fun q => decide (s.queueKey q.pa = k)) then
    { s with dram := { s.dram with wait := s.dram.wait ++ [r] } }
  else
    let covered : Bool := match (s.dramQ k).reverse.find? (fun q => q.wr && decide (q.pa = r.pa)) with
      | some q => q.merged
      | none => false
    if !r.wr && covered then s else s.setDramQ k (s.dramQ k ++ [r])

/-- The requests at the home slices tried again in their order: those that now find room enter their queues (R336). -/
def State.admitAll (s : State) : State := s.dram.wait.foldl State.enterQ { s with dram := { s.dram with wait := [] } }

/-- DRAM_REQUEST (R336): a request of a compartment, charged to its tag where it has one, meets the controller's color check
(R268) and the DRAM wheel (R275), and enters its bank queue. -/
def execDramRequest (asker : DramAsker) (pa : BitVec 52) (wr : Bool) (data : BitVec 512) (mask : BitVec 64) (s : State) : Outcome State Fault Refusal :=
  let cid := asker.cid
  let a := pa.toNat / 64 * 64
  if s.inDram a = false ∨ (wr ∧ mask = 0#64) then .next s else
  let q : Req := { cid := cid.val, die := 0, src := 6 }
  if s.colorOK cid.val a = false then .next (s.logColor q pa.toNat).settle else
  match s.toDram q a with
  | (s, some _) => .next s.settle
  | (s, none) =>
    .next (s.enterQ { pa := a, cid := cid.val, wr := wr, data := if wr then data else 0#512, mask := if wr then mask else 0#64,
                      merged := !wr || decide (mask = fullMask), key := asker.tag.map (fun t => (cid.val, t.toNat)) })

/-- The two queue halves of a bank of a subchannel. -/
def bankKeys (u bank : Nat) : List Nat := [u * 64 + bank, u * 64 + 32 + bank]

/-- The line that a queued request would read: memory with the older queued writes of the line over it (R337). -/
def State.lineUnder (s : State) (older : List DramReq) (l : Nat) : BitVec 512 :=
  (older.filter (fun r => r.writes l)).foldl (fun d r => mergeLine d r.data r.mask) (s.memLine l)

/-- Whether that line carries poison: a whole-line write brings its own, a partial one keeps what it finds (R337, R349). -/
def State.poisonUnder (s : State) (older : List DramReq) (l : Nat) : Bool :=
  (older.filter (fun r => r.writes l)).foldl (fun p r => if r.mask = fullMask then r.poison else p || r.poison) (s.memPoison l)

/-- The reads of a line that a whole-line write before them serves: they take its data and leave their queue (R337). -/
def dropServed (l : Nat) : List DramReq → List DramReq
  | [] => []
  | r :: t => if r.pa / 64 ≠ l then r :: dropServed l t else if r.wr then r :: t else dropServed l t

/-- The first partial write of a queue that has its line made a whole-line write (R337): its line has been read, or the youngest older
write of it is whole. A poisoned line keeps its poison. -/
def State.mergeIn (s : State) : List DramReq → List DramReq → List DramReq
  | _, [] => []
  | older, r :: t =>
    let l := r.pa / 64
    if r.wr ∧ r.merged = false ∧ (r.fetched ∨ older.any (fun q => q.writes l)) then
      { r with data := mergeLine (s.lineUnder older.reverse l) r.data r.mask, mask := fullMask, merged := true, fetched := true,
               poison := r.poison || s.poisonUnder older.reverse l } :: dropServed l t
    else r :: s.mergeIn (r :: older) t

/-- PARTIAL_WRITE_MERGE (R337): in the first half of the bank whose queue holds a partial write. -/
def execPartialWriteMerge (u : Fin 32) (bank : Fin 32) (s : State) : Outcome State Fault Refusal :=
  match (bankKeys u.val bank.val).find? (fun k => decide (s.mergeIn [] (s.dramQ k) ≠ s.dramQ k)) with
  | none => .next s
  | some k => .next (s.setDramQ k (s.mergeIn [] (s.dramQ k)))

/-- The key of a request's bank row: subchannel * 256 + rank * 32 + bank. -/
def State.rowKey (s : State) (pa : Nat) : Nat :=
  let a := s.dramAddr pa
  a.sub * 256 + a.rank * 32 + a.bg * 4 + a.ba

/-- Whether a request meets its row open. -/
def State.rowHit (s : State) (r : DramReq) : Bool := decide (smGet (fun _ => 0) s.dram.rows (s.rowKey r.pa) = (s.dramAddr r.pa).row + 1)

/-- The compartment in whose slots a request is served (R274). -/
def State.reqSlotComp (s : State) (r : DramReq) : Nat := if s.orderB then (s.colorOwner (colorOf r.pa)).getD r.cid else r.cid

/-- Whether the timebase stands in a write phase (R341): phases are counted in revolutions of 64 slots of two DRAM clock cycles, RREV
of reads and then WREV of writes, from timebase 0. DESIGN CHOICE, log 146: where the count starts. -/
def State.phaseWrites (s : State) : Bool :=
  let r := max 1 (s.forcedF Reg.DMG_PHASE Fld.DMG_PHASE_RREV)
  let w := max 1 (s.forcedF Reg.DMG_PHASE Fld.DMG_PHASE_WREV)
  decide (r ≤ s.now * s.dram.geom.mts / 256000 % (r + w))

/-- Whether a subchannel has switched to the phase in force. -/
def State.phaseSwitched (s : State) (u : Nat) : Bool := decide (smGet (fun _ => false) s.dram.writing u = s.phaseWrites)

/-- Whether writes are served in a subchannel now: a write phase under order B (R341), a write drain otherwise (R342). -/
def State.writesNow (s : State) (u : Nat) : Bool :=
  if s.orderB then s.phaseWrites else smGet (fun _ => false) s.dram.draining u

/-- The requests of a queue that no older queued write of their line holds back (R337). -/
def State.freeReqs (s : State) (k : Nat) : List DramReq :=
  let q := s.dramQ k
  ((q.zip (natsFrom 0 q.length)).filter (fun e => !(q.take e.2).any (fun o => o.writes (e.1.pa / 64)))).map (·.1)

/-- Whether a request needs a read of its line: a read, or a partial write whose line has not been read (R337). -/
def DramReq.needsRead (r : DramReq) : Bool := !r.wr || (!r.merged && !r.fetched)

/-- The request that a queue half would serve next: a row hit first, else the oldest; after 16 hits the oldest (R338). A
partial write waits for its merge. -/
def State.pickInQueue (s : State) (u k : Nat) : Option DramReq :=
  let rd := (s.freeReqs k).filter DramReq.needsRead
  let wr := (s.freeReqs k).filter (fun r => r.wr && r.merged)
  let q := if s.writesNow u then (if wr = [] ∧ s.orderB = false then rd else wr) else rd
  if 16 ≤ smGet (fun _ => 0) s.dram.hits k then q.head? else (q.find? s.rowHit).or q.head?

/-- The queue keys of a subchannel in the order of service: the 32 bank indices after the last one served, each with its
halves (R338). -/
def queueOrder (u last : Nat) : List Nat := (natsFrom 1 32).flatMap (fun i => bankKeys u ((last + i) % 32))

/-- The rotation pointer of a compartment in a subchannel; one for all under orders A, C and D (R338). -/
def State.rotKey (s : State) (u c : Nat) : Nat := u * 64 + (if s.orderB then c else 0)

/-- The command that a request needs: column, activate, or precharge of another row. -/
def State.cmdFor (s : State) (r : DramReq) : DramCmd :=
  let open_ := smGet (fun _ => 0) s.dram.rows (s.rowKey r.pa)
  if open_ = (s.dramAddr r.pa).row + 1 then .col else if open_ = 0 then .act else .pre

/-- Whether a column slot lies in the guard at the start of a phase (R341). -/
def State.inGuard (s : State) (u : Nat) : Bool :=
  let g := if s.writesNow u then s.forcedF Reg.DMG_PHASE Fld.DMG_PHASE_GUARD_RW else s.forcedF Reg.DMG_PHASE Fld.DMG_PHASE_GUARD_WR
  decide ((if s.phaseSwitched u then smGet (fun _ => 0) s.dram.since u else 0) < g)

/-- Whether the current slot of a subchannel is a column slot (R340). -/
def State.colSlotNow (s : State) (u : Nat) : Bool :=
  (smGet (fun _ => 0) s.dram.cols u).testBit (s.getF (Reg.BW_STAT (wheelPage (wheelDRAM u))) Fld.BW_STAT_POS)

/-- Whether a command may be issued in the current slot of a subchannel (R341, R342): a column slot carries one column command or one
ACT, and PRE has the other slots. A borrower has no column command (R340). -/
def State.cmdAllowed (s : State) (u : Nat) (lent : Bool) (c : DramCmd) : Bool :=
  if s.orderB then
    let free := s.colSlotNow u && !smGet (fun _ => false) s.dram.used u && !lent
    match c with
    | .col => free && !s.inGuard u
    | .act => free
    | .pre => !s.colSlotNow u
  else true

/-- The writes queued in a subchannel. -/
def State.writesQueued (s : State) (u : Nat) : Nat :=
  (s.dram.q.filter (fun e => decide (e.1 / 64 = u))).foldl (fun n e => n + (e.2.filter (·.wr)).length) 0

/-- The write drain of a subchannel started at WHI and stopped at WLO (R342). -/
def State.updDrain (s : State) (u : Nat) : State :=
  let n := s.writesQueued u
  let hi := s.forcedF (Reg.DMC_CTL (u / 2)) Fld.DMC_CTL_WHI
  let lo := s.forcedF (Reg.DMC_CTL (u / 2)) Fld.DMC_CTL_WLO
  let now := smGet (fun _ => false) s.dram.draining u
  let v := if hi ≤ n then true else if n ≤ lo then false else now
  { s with dram := { s.dram with draining := smPut (fun _ => false) s.dram.draining u v } }

/-- Whether the page policy keeps a row open (R343): the bound of DMC_CTL.PAGE, else what Index chose. -/
def State.pageOpen (s : State) (pa : Nat) : Bool :=
  let ch := (s.dramAddr pa).ch
  match s.forcedF (Reg.DMC_CTL ch) Fld.DMC_CTL_PAGE with
  | 0 => false
  | 1 => true
  | _ => smGet (fun _ => true) s.dram.pages (if s.orderB then colorOf pa else 64 + ch)

/-- The bank row of a request set to `v`. -/
def State.setRow (s : State) (pa v : Nat) : State :=
  { s with dram := { s.dram with rows := smPut (fun _ => 0) s.dram.rows (s.rowKey pa) v } }

/-- The count of consecutive row hits of a queue. -/
def State.setHits (s : State) (k v : Nat) : State :=
  { s with dram := { s.dram with hits := smPut (fun _ => 0) s.dram.hits k v } }

/-- A column command of a request (R337, R348): a read leaves its queue, a write is performed, and the line of a partial write has been
read for its merge, with the poison that the read found. -/
def State.column (s : State) (k : Nat) (r : DramReq) : State :=
  if r.needsRead then
    let (s, p) := (s.charge (ptDmc (s.dramAddr r.pa).ch) r.key 3 64).dmcCheck r.cid (r.pa / 64)
    if r.wr then s.setDramQ k ((s.dramQ k).map (fun q => if q = r then { q with fetched := true, poison := q.poison || p } else q))
    else s.setDramQ k ((s.dramQ k).erase r)
  else (s.setDramQ k ((s.dramQ k).erase r)).queuedWrite r

/-- The command for request `r` of queue `k` of subchannel `u` issued: a column command performs the request, and makes room for one that
waits at its home slice (R336). -/
def State.issue (s : State) (u k : Nat) (r : DramReq) : State :=
  let s := if s.colSlotNow u then { s with dram := { s.dram with used := smPut (fun _ => false) s.dram.used u true } } else s
  match s.cmdFor r with
  | .act => (s.setRow r.pa ((s.dramAddr r.pa).row + 1)).setHits k 0
  | .pre => s.setRow r.pa 0
  | .col =>
    let s := (s.column k r).setHits k (smGet (fun _ => 0) s.dram.hits k + 1)
    (if s.pageOpen r.pa then s else s.setRow r.pa 0).admitAll

/-- The queue from which a command of compartment `c` can be issued now in subchannel `u`: the first in the order of its rotation
whose next request is served in slots of `c` and whose command the slot allows (R338, R341). -/
def State.readyQueue (s : State) (u c : Nat) (lent : Bool) : Option Nat :=
  (queueOrder u (smGet (fun _ => 31) s.dram.rot (s.rotKey u c))).find? (fun k => match s.pickInQueue u k with
    | some r => decide (s.reqSlotComp r = c) && s.cmdAllowed u lent (s.cmdFor r)
    | none => false)

/-- The command of compartment `c` from queue `k` issued, and its rotation moved on. -/
def State.issueFrom (s : State) (u c k : Nat) : State :=
  match s.pickInQueue u k with
  | none => s
  | some r =>
    let rk := s.rotKey u c
    let s := s.issue u k r
    { s with dram := { s.dram with rot := smPut (fun _ => 31) s.dram.rot rk (k % 32) } }

/-- DRAM_COMMAND_ISSUE (R338, R341): in the current slot of subchannel `u`, a command of the slot's owner; where the owner lends the slot
and has none ready, one of a borrower (R279). -/
def execDramCommandIssue (u : Fin 32) (s : State) : Outcome State Fault Refusal :=
  let w := wheelDRAM u.val
  let s := if s.orderB then s else s.updDrain u.val
  let e := s.slotNow w (s.getF (Reg.BW_STAT (wheelPage w)) Fld.BW_STAT_POS)
  let c := fieldN e 0 6
  if bitN e 6 = false ∨ s.channelHeld (u.val / 2) then .next s else
  match s.readyQueue u.val c false with
  | some k => .next (s.issueFrom u.val c k)
  | none =>
    if bitN e 7 = false ∨ s.isF (Reg.CMP_CTL c) Fld.CMP_CTL_LENDOK = false then .next s else
    match s.borrower w ((natsFrom 0 64).filter (fun b => (s.readyQueue u.val b true).isSome)) with
    | none => .next s
    | some b =>
      match s.readyQueue u.val b true with
      | none => .next s
      | some k => .next ((s.issueFrom u.val b k).borrowed w b)

/-- DRAM_PHASE_CHANGE (R341): a subchannel switches to the phase that the timebase gives, and a read phase takes what was last written
to DMG_PHASE. Only order B has phases. -/
def execDramPhaseChange (u : Fin 32) (s : State) : Outcome State Fault Refusal :=
  if s.orderB = false ∨ s.phaseSwitched u.val then .next s else
  let w := s.phaseWrites
  let s := if w then s else s.unlatch Reg.DMG_PHASE
  .next { s with dram := { s.dram with
    writing := smPut (fun _ => false) s.dram.writing u.val w,
    since := smPut (fun _ => 0) s.dram.since u.val 0 } }

/-- A refresh of a subchannel (R344): same-bank refresh, which order B and DMC_REF.SB = 1 ask for, closes the rows of one bank address in
every bank group and rank, the four bank addresses in turn; all-bank refresh closes every row. DESIGN CHOICE, log 147. -/
def State.refresh (s : State) (u : Nat) : State :=
  let n := smGet (fun _ => 0) s.dram.refreshed u
  let same := s.orderB || decide (s.forcedF (Reg.DMC_REF (u / 2)) Fld.DMC_REF_SB = 1)
  let rows := s.dram.rows.filter (fun e => !(decide (e.1 / 256 = u) && (!same || decide (e.1 % 4 = n))))
  { s with dram := { s.dram with rows := rows, refreshed := if same then smPut (fun _ => 0) s.dram.refreshed u ((n + 1) % 4) else s.dram.refreshed } }

/-- DRAM_REFRESH (R344): the command takes the slot at its position, whoever owns it. -/
def execDramRefresh (u : Fin 32) (k : RefreshKind) (s : State) : Outcome State Fault Refusal :=
  let s := match k with
    | .refresh => s.refresh u.val
    | .zq => s
    | .modeReg => s
  .next (s.nextSlot (wheelDRAM u.val)).settle

/-! ### Temperature and retraining (R344, R346) -/

/-- The island of a channel. -/
def islandDmc (n : Nat) : Nat := 104 + n

/-- The refresh rate of a module temperature: below 85 °C, up to 95 °C, above (R344). -/
def refreshRate (t : Nat) : Nat := if t < 85 then 0 else if t ≤ 95 then 1 else 2

/-- REFRESH_RATE_STEP (R344): a change of rate is a declared event, which lasts until the next step. -/
def execRefreshRateStep (n : Fin 16) (t : BitVec 8) (s : State) : Outcome State Fault Refusal :=
  let k := Reg.DMC_STAT n.val
  let old := s.getF k Fld.DMC_STAT_RATE
  let new := refreshRate t.toNat
  let s := (s.noteTrigger.setF k Fld.DMC_STAT_TEMP t.toNat).setF k Fld.DMC_STAT_RATE new
  if old = new then .next s else
  let s := (s.announceEnd 2 (islandDmc n.val)).announceStart 2 (islandDmc n.val)
  .next (s.idxLog 5 9 (islandDmc n.val) 0 (BitVec.ofNat 64 old) (BitVec.ofNat 64 new)).settle

/-- A channel marked degraded (R346, R350). -/
def State.degrade (s : State) (n : Nat) : State :=
  if s.isF (Reg.DMC_STAT n) Fld.DMC_STAT_DEGRADED then s else
  (s.setF (Reg.DMC_STAT n) Fld.DMC_STAT_DEGRADED 1).irqRaise (pageDMC n) 1#64

/-- RETRAIN_ROUND (R346): a round starts on a channel that is in service and not held. -/
def execRetrainRound (n : Fin 16) (s : State) : Outcome State Fault Refusal :=
  let k := Reg.DMC_STAT n.val
  if s.isF k Fld.DMC_STAT_PRESENT = false ∨ s.isF k Fld.DMC_STAT_RETRAIN ∨ s.channelHeld n.val then .next s else
  let s := (s.setF k Fld.DMC_STAT_RETRAIN 1).announceStart 3 (islandDmc n.val)
  .next (s.idxLog 10 0 (islandDmc n.val) 0 0#64 1#64).settle

/-- Failed rounds in a row of a channel, and at 16 + n whether a pause of the running round has failed. -/
def State.roundFails (s : State) (n : Nat) : Nat := smGet (fun _ => 0) s.dram.fails n

/-- A count of failed rounds stored. -/
def State.setFails (s : State) (n v : Nat) : State := { s with dram := { s.dram with fails := smPut (fun _ => 0) s.dram.fails n v } }

/-- RETRAIN_PAUSE (R346): one pause of a round; the last one ends the round, and the third failed round in a row marks the
channel degraded. -/
def execRetrainPause (n : Fin 16) (ok last : Bool) (s : State) : Outcome State Fault Refusal :=
  let k := Reg.DMC_STAT n.val
  if s.isF k Fld.DMC_STAT_RETRAIN = false then .next s else
  let s := if ok then s else s.setFails (16 + n.val) 1
  if last = false then .next s else
  let bad : Bool := decide (s.roundFails (16 + n.val) ≠ 0)
  let f := if bad then s.roundFails n.val + 1 else 0
  let s := (s.setFails (16 + n.val) 0).setFails n.val f
  let s := (s.setF k Fld.DMC_STAT_RETRAIN 0).announceEnd 3 (islandDmc n.val)
  let s := s.idxLog 10 0 (islandDmc n.val) 0 1#64 0#64
  .next (if 3 ≤ f then s.degrade n.val else s).settle

/-! ### Training and sparing (R345, R352) -/

/-- The spare channel. -/
def State.spareCh (s : State) : Nat := s.getF Reg.DMG_SPARE_CTL Fld.DMG_SPARE_CTL_SPARE_CH

/-- State of the spare: 0 free, 1 copying, 2 in service, 3 no sparing. -/
def State.spareState (s : State) : Nat := s.getF Reg.DMG_SPARE_STAT Fld.DMG_SPARE_STAT_STATE

/-- The slot that names a channel made to name another (R345, R352). -/
def State.remap (s : State) (n m : Nat) : State :=
  match (natsFrom 0 15).find? (fun i => decide (fieldN (s.rd Reg.DMG_CHMAP) (4 * i) 4 = n)) with
  | some i => s.wr Reg.DMG_CHMAP (putN (s.rd Reg.DMG_CHMAP) (4 * i) 4 m)
  | none => s

/-- A channel that did not train is reported absent; a free spare takes its slot (R345). -/
def State.channelAbsent (s : State) (n : Nat) : State :=
  let s := s.setF (Reg.DMC_STAT n) Fld.DMC_STAT_PRESENT 0
  if s.sparing = false ∨ s.spareState ≠ 0 then s else
  if n = s.spareCh then s.setF Reg.DMG_SPARE_STAT Fld.DMG_SPARE_STAT_STATE 3 else
  ((s.remap n s.spareCh).setF Reg.DMG_SPARE_STAT Fld.DMG_SPARE_STAT_STATE 2).setF Reg.DMG_SPARE_STAT Fld.DMG_SPARE_STAT_FROM n

/-- An in-service test of the spare stopped by a copy trigger (R472). -/
def State.stopSpareTest (s : State) : State :=
  match s.ist.find? (fun e => decide (e.2.kind = 3)) with
  | none => s
  | some e =>
    let s := { s with ist := s.ist.filter (fun x => decide (x.1 ≠ e.1)) }
    (s.setF (Reg.IST_STAT e.1) Fld.IST_STAT_RESULT 9).giveLeave (.dram (BitVec.ofNat 4 e.2.target).toFin)

/-- A sparing copy of channel `n` triggered (R352): first the spare trains under R345, which CHANNEL_TRAINING does when it has leave. A
trigger during a copy is counted. -/
def State.startCopy (s : State) (n : Nat) : State :=
  if s.spareState = 1 then s.addF Reg.DMG_SPARE_STAT Fld.DMG_SPARE_STAT_LATE 1 else
  let m := s.spareCh
  if s.sparing = false ∨ s.spareState ≠ 0 ∨ n = m ∨ s.isF (Reg.DMC_STAT n) Fld.DMC_STAT_PRESENT = false then s else
  let s := s.stopSpareTest
  let s := s.setF Reg.DMG_SPARE_STAT Fld.DMG_SPARE_STAT_STATE 1
  let s := (s.setF Reg.DMG_SPARE_STAT Fld.DMG_SPARE_STAT_FROM n).setF Reg.DMG_SPARE_STAT Fld.DMG_SPARE_STAT_PERCENT 0
  { s with dram := { s.dram with copyWait := some n } }

/-- Step 2 of R352: the spare has trained, the two beat maps of channel `n` are staged into its wheels, and the copy runs. -/
def State.beginCopy (s : State) (n : Nat) : State :=
  let m := s.spareCh
  let s := s.setF (Reg.DMC_STAT m) Fld.DMC_STAT_PRESENT 1
  let s := foldN (fun sc s =>
    let from' := wheelPage (wheelDRAM (2 * n + sc))
    let new := wheelPage (wheelDRAM (2 * m + sc))
    let s := foldN (fun i s => s.wr (Reg.BEAT_MAP new i) (s.rd (Reg.BEAT_MAP from' i))) (natsFrom 0 64) s
    s.setF (Reg.BW_STAT new) Fld.BW_STAT_PENDING 1) [0, 1] s
  { s with dram := { s.dram with copy := some ⟨n, m⟩, copyWait := none } }

/-- The devices (symbols) of a subchannel whose corrected errors have reached the threshold within the window. -/
def State.devicesOver (s : State) (u : Nat) : Nat :=
  let thr := s.getF (Reg.DMC_CE_THR (u / 2)) Fld.DMC_CE_THR_THR
  ((natsFrom 0 10).filter (fun y => decide (thr ≤ (smGet (fun _ => []) s.dram.ce (u * 16 + y)).length ∧ thr ≠ 0))).length

/-- SPARING_TRIGGER (R352): a trigger that the hardware finds, while DMG_SPARE_CTL.AUTO = 1. -/
def execSparingTrigger (n : Fin 16) (s : State) : Outcome State Fault Refusal :=
  let due := s.isF (Reg.DMC_STAT n.val) Fld.DMC_STAT_DEGRADED || decide (2 ≤ s.devicesOver (2 * n.val)) ||
    decide (2 ≤ s.devicesOver (2 * n.val + 1))
  if due && s.isF Reg.DMG_SPARE_CTL Fld.DMG_SPARE_CTL_AUTO && !s.channelHeld n.val then .next (s.startCopy n.val) else .next s

/-- A write of DMG_SPARE_CTL: SPARE_CH only before training (R352). -/
def State.wrSpare (s : State) (v : Word) : State :=
  let k := Reg.DMG_SPARE_CTL
  let old := s.spareCh
  let s := s.putFields k v
  let s := if s.getF Reg.DMG_TOP Fld.DMG_TOP_TOP = 0 then s else s.setF k Fld.DMG_SPARE_CTL_SPARE_CH old
  if bitN v 8 ∧ s.channelHeld (fieldN v 4 4) = false then s.startCopy (fieldN v 4 4) else s

/-- The writes queued for a channel performed now, and its queues emptied. -/
def State.flushQueues (s : State) (ch : Nat) : State :=
  (s.dram.q.filter (fun e => decide (e.1 / 128 = ch))).foldl (fun s e =>
    (e.2.foldl (fun s r => if r.wr then s.queuedWrite r else s) s).setDramQ e.1 []) s

/-- The lines that a failing channel cannot give any more stored with poison on the spare: those of its poison table (R349, R350, R352). -/
def State.carryPoison (s : State) (ch : Nat) : State :=
  let s := (smGet (fun _ => []) s.dram.poisonTab ch).foldl (fun s l => s.setPoison l true) s
  { s with dram := { s.dram with poisonTab := smPut (fun _ => []) s.dram.poisonTab ch [] } }

/-- SPARING_COPY_END (R352): the map names the spare, and the failing channel is powered off. -/
def execSparingCopyEnd (s : State) : Outcome State Fault Refusal :=
  match s.dram.copy with
  | none => .next s
  | some c =>
    let s := ((s.flushQueues c.target).carryPoison c.target).remap c.target c.spare
    let s := s.setF (Reg.DMC_STAT c.target) Fld.DMC_STAT_PRESENT 0
    let s := s.setF Reg.DMG_SPARE_STAT Fld.DMG_SPARE_STAT_STATE 2
    let s := s.setF Reg.DMG_SPARE_STAT Fld.DMG_SPARE_STAT_PERCENT 100
    let s := { s with dram := { s.dram with copy := none } }
    .next (s.irqRaise (pageDMC c.target) 2#64).settle

/-! ### Errors and scrub (R350, R351) -/

/-- CA_PARITY_ALERT (R350). -/
def execCaParityAlert (u : Fin 32) (pa : BitVec 52) (wr retriesFail pauseFails : Bool) (s : State) : Outcome State Fault Refusal :=
  if retriesFail = false then .next s else
  let n := u.val / 2
  if (s.dramAddr pa.toNat).sub ≠ u.val then .next s else
  let s := (s.degrade n).logErr (pageDMC n) 1 (BitVec.ofNat 64 pa.toNat) (dmcInfo (s.dramAddr pa.toNat) 3 15 0 false)
  if pauseFails = false ∨ wr = false then .next s.settle else
  let l := pa.toNat / 64
  let t := smGet (fun _ => []) s.dram.poisonTab n
  if t.contains l then .next s.settle else
  if t.length < 16 then
    .next { s with dram := { s.dram with poisonTab := smPut (fun _ => []) s.dram.poisonTab n (t ++ [l]) } }.settle
  else .next ((s.setF (Reg.DMC_STAT n) Fld.DMC_STAT_PTFULL 1).irqRaise (pageDMC n) 4#64).settle

/-- PATROL_SCRUB (R351): a line of an owned color that no sweep holds is read, and a corrected line written back. -/
def execPatrolScrub (pa : BitVec 52) (s : State) : Outcome State Fault Refusal :=
  let a := pa.toNat / 64 * 64
  let n := (s.dramAddr a).ch
  let owner := if s.orderB then s.colorOwner (colorOf a) else some 0
  if s.inDram a = false ∨ s.getF (Reg.DMC_SCRUB n) Fld.DMC_SCRUB_PERIOD_H = 0 ∨ s.channelHeld n then .next s else
  match owner with
  | none => .next s
  | some c =>
    let (inj, s) := s.takeInject (pageDMC n) c
    let (x, s) := if inj.isSome then s.openWord else (0#64, s)
    let sym := x.toNat % 10
    let w := x.toNat / 16 % 8
    match inj with
    | some 0 => .next (s.logDmc a 0 0 sym w true).settle
    | some 1 => .next ((s.setPoison (a / 64) true).logDmc a 1 1 15 w true).settle
    | some 2 => .next ((s.setPoison (a / 64) true).logDmc a 2 1 15 w true).settle
    | _ => if s.memPoison (a / 64) then .next (s.logDmc a 2 1 15 0 true).settle else .next s

/-! ### Holding a channel (R347, R470, R483) -/

/-- Requests to a channel held, as a declared event (R11, R437, R438). -/
def State.holdChannel (s : State) (n : Nat) : State :=
  if s.channelHeld n then s else
  let s := { s with dram := { s.dram with held := s.dram.held ++ [n] } }
  (s.announceStart 4 (islandDmc n)).idxLog 11 0 (islandDmc n) 0 0#64 1#64

/-- The hold ended. -/
def State.releaseChannel (s : State) (n : Nat) : State :=
  if s.channelHeld n = false then s else
  let s := ({ s with dram := { s.dram with held := s.dram.held.filter (· != n) } } : State).admitAll
  (s.announceEnd 4 (islandDmc n)).idxLog 11 0 (islandDmc n) 0 1#64 0#64

/-- Whether a retraining round or a sparing copy keeps a channel from being held (R347). -/
def State.channelBusy (s : State) (n : Nat) : Bool :=
  s.isF (Reg.DMC_STAT n) Fld.DMC_STAT_RETRAIN || s.dram.copy.isSome || s.dram.copyWait.isSome

/-- Whether a test or a patch waits for the drain of a channel. -/
def State.channelWanted (s : State) (n : Nat) : Bool :=
  s.ist.any (fun e => decide (e.2.kind = 2 ∧ e.2.target = n) && !e.2.running) ||
    (match s.apply with | some a => decide (a.kind = 1 ∧ a.target = n) | none => false)

/-- CHANNEL_DRAIN (R347): the requests to a channel that a test or a patch has asked for are held at their home slices. -/
def execChannelDrain (n : Fin 16) (s : State) : Outcome State Fault Refusal :=
  .next (if s.channelWanted n.val then s.holdChannel n.val else s).settle

end Sys2Proof.Machine
end

