-- ==== Sys2Proof/Machine/Container.lean ====
section
/-! DEFINITION. Containers (R454, R455) and the microcode payload (R476 to R479). -/

namespace Sys2Proof.Machine

/-- Bytes [o, o + n) of a byte string; bytes beyond its end read 0. -/
def sliceB (b : List Byte) (o n : Nat) : List Byte := (natsFrom o n).map (fun i => b.getD i 0#8)

/-- The little-endian number in bytes [o, o + n). -/
def leN (b : List Byte) (o n : Nat) : Nat := bytesToNat (sliceB b o n)

/-- Whether bytes [o, o + n) are 0. -/
def zeroB (b : List Byte) (o n : Nat) : Bool := (sliceB b o n).all (fun x => decide (x = 0#8))

/-- VERSION of a container. -/
def contVersion (h : List Byte) : Nat := leN h 0x008 4

/-- PAYLEN of a container. -/
def contLen (h : List Byte) : Nat := leN h 0x018 4

/-- The largest payload of a kind (R454). -/
def contMax (kind : Nat) : Nat := if kind = 4 then 0x100000 else 0x200000

/-- Check 1 of R455: the fixed and the zero fields, and the kind. -/
def contFields (h : List Byte) (kind : Nat) : Bool :=
  let fl := leN h 0x00C 4
  decide (leN h 0 4 = 0x4D49585A) && decide (leN h 4 2 = 1) && decide (leN h 6 2 = kind) &&
    decide (fl / 2 % 128 = 0) && decide (fl / 256 % 256 ≤ 3) && decide (fl / 65536 = 0) &&
    zeroB h 0x01C 4 && decide (contLen h ≤ contMax kind) && (decide (kind ≠ 2) || zeroB h 0x010 8) &&
    (decide (fl % 2 = 1) || zeroB h 0x050 28) && zeroB h 0x06C 148 && zeroB h 0x160 32 && zeroB h 0x1E0 32

/-- The acceptance of a container by the Keeper (R455): the number of the first check that fails, or the payload, decrypted
where it is encrypted. -/
def verifyCont (c : List Byte) (kind minVersion : Nat) : Except Nat (List Byte) :=
  let h := sliceB c 0 512
  let pay := sliceB c 512 (contLen h)
  let fl := leN h 0x00C 4
  let key := fl / 256 % 256
  let pub := sliceB h 0x100 96
  let aad := sliceB h 0 0x180
  let enc := decide (fl % 2 = 1)
  if contFields h kind = false ∨ c.length < 512 + contLen h then .error 1
  else if Config.sha384 pub ≠ Config.keyHash key ∨ Config.keyRevoked key then .error 2
  else if Config.ecdsaVerify pub (Config.sha384 aad) (sliceB h 0x180 96) = false then .error 3
  else if contVersion h < minVersion then .error 4
  else if Config.sha384 pay ≠ sliceB h 0x020 48 then .error 5
  else if enc then
    match Config.gcmOpen (sliceB h 0x050 12) (sliceB h 0x05C 16) aad pay with
    | none => .error 6
    | some p => .ok p
  else if kind = 2 then .error 6 else .ok pay

/-! ### The microcode payload (R476 to R479) -/

/-- The counts of PHDR. -/
def phdr (p : List Byte) : Nat := leN p 0 64
def nPatch (p : List Byte) : Nat := phdr p / 2 ^ 32 % 2 ^ 11
def nHook (p : List Byte) : Nat := phdr p / 2 ^ 43 % 2 ^ 6
def nMicro (p : List Byte) : Nat := phdr p / 2 ^ 49 % 2 ^ 13
def nNano (p : List Byte) : Nat := phdr p / 2 ^ 64 % 2 ^ 10

/-- Check 1 of R479. -/
def payHdr (p : List Byte) : Bool :=
  decide (phdr p % 2 ^ 32 = 0x51554D5A) && decide (nPatch p ≤ 1024) && decide (nHook p ≤ 32) && decide (nMicro p ≤ 4096) &&
    decide (nNano p ≤ 512) && decide (phdr p / 2 ^ 62 % 4 = 0) && decide (phdr p / 2 ^ 74 = 0)

/-- Hook `i`, entry `i` of the entry table, patch word, micro-word and nano-word `i` of a payload. -/
def hookAt (p : List Byte) (i : Nat) : Nat := leN p (0x40 + 8 * i) 8
def dentryAt (p : List Byte) (i : Nat) : Nat := leN p (0x140 + 2 * i) 2
def patchAt (p : List Byte) (i : Nat) : Nat := leN p (0x200 + 24 * i) 24
def microAt (p : List Byte) (i : Nat) : Nat := leN p (0x6200 + 2 * i) 2
def nanoAt (p : List Byte) (i : Nat) : Nat := leN p (0x8200 + 16 * i) 16

/-- Whether a micro-word is defined (R476). -/
def microOk (w : Nat) : Bool :=
  let c := w / 512 % 8
  let n := w % 512
  if c = 2 ∨ c = 6 then decide (n < 256) else if c = 3 then decide (n = 0) else decide (c ≠ 4 ∧ c ≠ 7)

/-- Check 2 of R479: every reserved field is 0, and words beyond the counts are 0. -/
def payReserved (p : List Byte) : Bool :=
  (natsFrom 0 32).all (fun i => let h := hookAt p i
    decide (h / 2 ^ 13 % 8 = 0) && decide (h / 2 ^ 26 % 32 = 0) && decide (h / 2 ^ 32 = 0) && (decide (i < nHook p) || decide (h = 0))) &&
  zeroB p 0x1C0 0x40 &&
  (natsFrom 0 1024).all (fun i => let w := patchAt p i; decide (w / 2 ^ 128 = 0) && (decide (i < nPatch p) || decide (w = 0))) &&
  (natsFrom 0 4096).all (fun i => let w := microAt p i
    decide (w / 2 ^ 12 = 0) && (if i < nMicro p then microOk w else decide (w = 0))) &&
  (natsFrom 0 512).all (fun i => let w := nanoAt p i; decide (w / 2 ^ 88 = 0) && (decide (i < nNano p) || decide (w = 0)))

/-- Whether hook `i` is enabled. -/
def hookOn (p : List Byte) (i : Nat) : Bool := (hookAt p i).testBit 31

/-- Check 3 of R479. -/
def payHooks (p : List Byte) : Bool :=
  (natsFrom 0 32).all (fun i => !hookOn p i ||
    (decide (0x10 ≤ hookAt p i % 2 ^ 13) && decide (hookAt p i / 2 ^ 16 % 2 ^ 10 < nPatch p) &&
      (natsFrom 0 32).all (fun j => decide (i = j) || !hookOn p j || decide (hookAt p j % 2 ^ 13 ≠ hookAt p i % 2 ^ 13))))

/-- Check 4 of R479. -/
def payNext (p : List Byte) : Bool :=
  (natsFrom 0 (nPatch p)).all (fun i => let w := patchAt p i; !w.testBit 13 || decide (w % 2 ^ 10 < nPatch p))

/-- The routines that must be defined (R477, R479). -/
def fixedRoutines : List Nat := [0, 1, 2, 3, 4, 5, 8, 9, 12, 13]

/-- Check 5 of R479, with the rule of R477 that every other entry is 0xFFFF. -/
def payEntries (p : List Byte) : Bool :=
  (natsFrom 0 64).all (fun r =>
    if fixedRoutines.contains r then decide (dentryAt p r < nMicro p) else decide (dentryAt p r = 0xFFFF))

/-- The first check of R479 that a payload fails, 0 where it passes. -/
def payCheck (p : List Byte) : Nat :=
  if p.length ≠ 0xA200 ∨ payHdr p = false then 1 else if payReserved p = false then 2 else if payHooks p = false then 3
  else if payNext p = false then 4 else if payEntries p = false then 5 else 0

/-- The number of hooks enabled. -/
def hooksOn (p : List Byte) : Nat := ((natsFrom 0 32).filter (hookOn p)).length

end Sys2Proof.Machine
end

