-- ==== Sys2Proof/Machine/Patch.lean ====
section
/-! DEFINITION. The patch agent (chapter 20): staging, the start of an apply, loading a unit, committing. -/

namespace Sys2Proof.Machine

open Host

/-- UPT_STAT.RESULT. -/
def State.uptResult (s : State) : Nat := s.getF Reg.UPT_STAT Fld.UPT_STAT_RESULT

/-- UPT_STAT.RESULT set. -/
def State.setUpt (s : State) (r : Nat) : State := s.setF Reg.UPT_STAT Fld.UPT_STAT_RESULT r

/-- The lowest version accepted for kind `k` (R456). -/
def State.arbMin (s : State) (k : Nat) : Nat := s.getF (Reg.RST_ARB (k - 1)) Fld.RST_ARB_MIN

/-- UPT_VER brought up to date. -/
def State.updUptVer (s : State) : State :=
  let s := s.setF Reg.UPT_VER Fld.UPT_VER_INSERVICE (match s.boot.inService with | some u => u.version | none => 0)
  s.setF Reg.UPT_VER Fld.UPT_VER_PENDING (match s.boot.pending with | some u => u.version | none => 0)

/-- `n` bytes of the packed region of a compartment at `b`, read line by line by a block of the ledger die in that
compartment's slots and under its color check; none where an access is refused. -/
def State.readPacked (s : State) (c b n : Nat) : State × Option (List Byte) :=
  let r : Req := { cid := c, die := 10, src := 6 }
  let (s, x) := (natsFrom 0 ((n + 63) / 64)).foldl (fun (acc : State × Option (List Byte)) i =>
    match acc with
    | (s, none) => (s, none)
    | (s, some l) =>
      match s.packed c b (64 * i) with
      | none => (s.packedRefused r b (64 * i), none)
      | some pa =>
        match s.dmaRead r (pa / 64) with
        | (s, .error _) => (s, none)
        | (s, .ok (d, _)) => (s, some (l ++ natToBytes 64 d.toNat))) (s, some [])
  (s, x.map (fun l => l.take n))

/-- UPT_CTL.STAGE (R482): the container is read, verified, decrypted and checked into the pending image. -/
def State.stage (s : State) (c : Nat) : State :=
  if s.apply.isSome then s.setUpt 6 else
  match s.readPacked c (s.getF Reg.UPT_SRC Fld.UPT_SRC_BASE * 2 ^ 18) (512 + 0xA200) with
  | (s, none) => let (w, s) := s.openWord; (s.setUpt 8).setF Reg.UPT_STAT Fld.UPT_STAT_DETAIL w.toNat
  | (s, some c) =>
    match verifyCont c 2 (s.arbMin 2) with
    | .error n => (s.setUpt 8).setF Reg.UPT_STAT Fld.UPT_STAT_DETAIL n
    | .ok p =>
      if payCheck p ≠ 0 then (s.setUpt 9).setF Reg.UPT_STAT Fld.UPT_STAT_DETAIL (payCheck p)
      else ({ s with boot := { s.boot with pending := some ⟨contVersion c, p⟩ } }.setUpt 2).updUptVer

/-- UPT_CTL.COMMIT (R485). -/
def State.commit (s : State) : State :=
  if s.apply.isSome then s.setUpt 6 else
  match s.boot.pending with
  | none => s
  | some u => { s with boot := { s.boot with inService := some u, pending := none } }.updUptVer

/-- A write of UPT_CTL. -/
def State.wrUptCtl (s : State) (w : Who) (v : Word) : State :=
  let s := if bitN v 0 then s.stage w.cid else s
  if bitN v 1 then s.commit else s

/-- Whether compartment 63 uses a channel: a color lies in every channel (R334). -/
def State.channelHas63 (s : State) : Bool :=
  (natsFrom 0 64).any (fun k => s.isF (Reg.CMT_COLOR k) Fld.CMT_COLOR_EN && decide (s.getF (Reg.CMT_COLOR k) Fld.CMT_COLOR_CID = 63))

/-- Whether the target of an apply or test exists, and whether it needs W (R469, R483). -/
def State.unitNeedsW (s : State) (kind t : Nat) : Bool :=
  if kind = 0 then decide (s.cid t = 63) && s.isF (Reg.CMT_CLUSTER t) Fld.CMT_CLUSTER_EN else s.channelHas63

/-- A write of UPT_APPLY (R483, R487), up to the start of the drain. -/
def State.wrUptApply (s : State) (w : Who) (v : Word) : State :=
  let ok := s.platHOrW w
  if ok = false ∧ bitN v 8 = false then s.denyAt Reg.UPT_APPLY else
  let s := if ok then s.putFields Reg.UPT_APPLY v else s
  if bitN v 8 = false then s else
  let r := s.uptResult
  if r = 1 ∨ r = 3 ∨ r = 4 ∨ s.apply.isSome then s.setUpt 6 else
  let kind := fieldN v 0 1
  let t := fieldN v 1 7
  match s.boot.pending with
  | none => s.setUpt 10
  | some u =>
    if ok = false ∨ (if kind = 0 then 96 ≤ t else 16 ≤ t) ∨ (s.unitNeedsW kind t ∧ w.wOrBoot = false) then s.setUpt 7 else
    let a : Apply := ⟨kind, t, u.version⟩
    if kind = 0 then
      if (s.cluster t).drain.isSome ∨ (s.cluster t).resetKind.isSome then s.setUpt 6
      else ({ s with apply := some a }.setUpt 3).startDrain t .patch
    else if s.channelBusy t ∨ s.channelWanted t then s.setUpt 6
    else { s with apply := some a }.setUpt 3

/-- An image loaded into a cluster's patch RAM (kind 0) or a channel's sequencer, with its version register. -/
def State.loadUnit (s : State) (kind t : Nat) (u : UImage) : State :=
  if kind = 0 then
    let s := { s with units := smIns t u (smErase s.units t) }
    let k := Reg.USQ_PATCH_STAT t
    ((s.setF k Fld.USQ_PATCH_STAT_VERSION u.version).setF k Fld.USQ_PATCH_STAT_NPATCH (nPatch u.payload)).setF k
      Fld.USQ_PATCH_STAT_NHOOK (hooksOn u.payload)
  else
    { s with units := smIns (96 + t) u (smErase s.units (96 + t)) }.setF (Reg.DMC_SEQ_STAT t) Fld.DMC_SEQ_STAT_VERSION u.version

/-- LOADING of a unit set or cleared. -/
def State.setLoading (s : State) (kind t : Nat) (v : Bool) : State :=
  if kind = 0 then s.setF (Reg.USQ_PATCH_STAT t) Fld.USQ_PATCH_STAT_LOADING (b2n v)
  else s.setF (Reg.DMC_SEQ_STAT t) Fld.DMC_SEQ_STAT_LOADING (b2n v)

/-- Whether step 4 of an apply runs. -/
def State.loading (s : State) (a : Apply) : Bool :=
  if a.kind = 0 then s.isF (Reg.USQ_PATCH_STAT a.target) Fld.USQ_PATCH_STAT_LOADING else s.isF (Reg.DMC_SEQ_STAT a.target) Fld.DMC_SEQ_STAT_LOADING

/-- Step 4 of R483 begun: SYS set, the sequencer standing. -/
def State.beginLoad (s : State) (a : Apply) : State :=
  let s := if a.kind = 0 then s.setSys a.target true else s
  (s.setLoading a.kind a.target true).setUpt 4

/-- The unit of an apply running again, the apply gone. -/
def State.endApply (s : State) (a : Apply) : State :=
  let s := { s with apply := none }
  if a.kind = 0 then (s.modCluster a.target (fun k => { k with drain := none })).setSys a.target false else s.releaseChannel a.target

/-- Step 5 of R483: the words are in, SYS is cleared and the unit restored. -/
def State.loadDone (s : State) (a : Apply) : State :=
  let s := match s.boot.pending with
    | some u => s.loadUnit a.kind a.target u
    | none => s
  let s := s.setLoading a.kind a.target false
  (s.endApply a).setUpt 5

end Sys2Proof.Machine
end

