-- ==== Sys2Proof/Machine/Faults.lean ====
section
/-! DEFINITION. Failed cores and clusters (R15), drains that end with "busy" (R18, R453), in-service tests (R468 to R472),
and the resets of cores and clusters with what they leave to drain (R201, R451). -/

namespace Sys2Proof.Machine

open Host

/-! ### Requests to the warden withdrawn (R304) -/

/-- WDN_STAT.QDEPTH brought up to date: requests not yet delivered. -/
def State.updQDepth (s : State) : State :=
  s.setF Reg.WDN_STAT Fld.WDN_STAT_QDEPTH (s.warden.q.filter (fun r => r.delivered.isNone)).length

/-- A core that has been reset or retired calls no more: a queued request is withdrawn; a delivered one stays with the warden, and its
reply will be late (R304). -/
def State.dropRequests (s : State) (core : Nat) : State :=
  { s with warden := { s.warden with q := s.warden.q.filter (fun r => decide (r.cluster * 16 + r.core ≠ core) || r.delivered.isSome) } }.updQDepth

/-! ### In-service tests: leave, restoring a target, stopping -/

/-- The leave of a test. -/
def istLeave (c : Nat) (r : IstRun) : LeaveOp :=
  if r.kind = 0 then .testCluster (BitVec.ofNat 6 c).toFin
  else if r.kind = 1 then .testBand (BitVec.ofNat 6 c).toFin
  else .dram (BitVec.ofNat 4 r.target).toFin

/-- The test of page IST_c. -/
def State.istRun (s : State) (c : Nat) : Option IstRun := (s.ist.find? (fun e => decide (e.1 = c))).map (·.2)

/-- IST_STAT.RESULT set. -/
def State.setIst (s : State) (c r : Nat) : State := s.setF (Reg.IST_STAT c) Fld.IST_STAT_RESULT r

/-- A test's target running as it was. -/
def State.restoreTarget (s : State) (r : IstRun) : State :=
  if r.kind = 0 then (s.modCluster r.target (fun k => { k with drain := none })).setSys r.target false
  else if r.kind = 2 then s.releaseChannel r.target
  else s

/-- A test ended with a result: its leave returned, its target restored. -/
def State.endTest (s : State) (c : Nat) (r : IstRun) (result : Nat) : State :=
  let s := { s with ist := s.ist.filter (fun e => decide (e.1 ≠ c)) }
  let s := if r.running then s.giveLeave (istLeave c r) else s
  (s.restoreTarget r).setIst c result

/-- The tests of the targets that `p` names stopped (R472). -/
def State.stopTests (s : State) (p : IstRun → Bool) : State :=
  s.ist.foldl (fun s e => if p e.2 then s.endTest e.1 e.2 9 else s) s

/-- A drain of a cluster ended with "busy" (R18, R264, R453); a test that already runs stops (R472). -/
def State.drainBusy (s : State) (n : Nat) : State :=
  match (s.cluster n).drain with
  | none => s
  | some .cmt =>
    let k := Reg.CMT_CLUSTER n
    let s := (s.setF k Fld.CMT_CLUSTER_RESULT 3).setF k Fld.CMT_CLUSTER_EN 1
    s.modCluster n (fun x => { x with drain := none })
  | some (.test c) =>
    match s.istRun c with
    | none => s.modCluster n (fun x => { x with drain := none })
    | some r => s.endTest c r (if r.running then 9 else 6)
  | some .patch =>
    match s.apply with
    | none => s.modCluster n (fun x => { x with drain := none })
    | some a =>
      -- a reset during the load waits until the load ends (R487)
      if s.isF (Reg.USQ_PATCH_STAT n) Fld.USQ_PATCH_STAT_LOADING then s.loadDone a
      else (s.endApply a).setUpt 6

/-! ### Failed cores and clusters (R15) -/

/-- Every run of a core ended, its task lost. -/
def State.stopCore (s : State) (core : Nat) : State :=
  let s := s.dropRequests core
  let s := s.modCore core (fun k => { coreAfterReset k with run := .off })
  let k := Reg.DSP_STAT (core / 16) (core % 16)
  (s.setF k Fld.DSP_STAT_STATE 0).setF k Fld.DSP_STAT_PREEMPT_PEND 0

/-- A failed core retired (R15, R132, R158, R261): where the cluster's spare is free it takes the CORE_ID with the CII
and DSP registers and the counter selections; otherwise the cluster goes on without the core. R158 names PMSEL_n, PMCTL, PMC_n and
PMOVF only: that PMDTM and the overflow interrupts still owed stay too is a DESIGN CHOICE, log 151. -/
def State.retireCore (s : State) (core : Nat) : State :=
  let n := core / 16
  let s := s.logCluster n 8 3 0#64 (BitVec.ofNat 64 (core % 16)) (s.cid n) (core % 16) false
  if (s.cluster n).spareUsed then (s.stopCore core).modCore core (fun k => { k with retired := true })
  else
    let s := s.modCluster n (fun k => { k with spareUsed := true })
    s.modCore core (fun k => { k with perf := { k.perf with pmc := List.replicate 8 0#64, pmovf := 0#64 } })

/-- The work mask of a failed cluster set to all ones in the clusters of its compartment (R261). -/
def State.peersSeeFailed (s : State) (c n : Nat) : State :=
  (s.clustersOf c).foldl (fun s m =>
    if m = n then s else
    (s.modCluster m (fun k => { k with peer := smPut (fun _ => 0#32) k.peer n 0xFFFFFFFF#32 })).wakeCluster m) s

/-- A cluster failed (R15): its tasks are lost, the lines dirty only there carry poison, and its compartment is told that it
has shrunk. -/
def State.failCluster (s : State) (n : Nat) : State :=
  let c := s.cid n
  let s := match (s.cluster n).drain, s.apply with
    -- it runs no task and its L2 is empty: the drain of R264 is over
    | some .cmt, _ => (s.setF (Reg.CMT_CLUSTER n) Fld.CMT_CLUSTER_DRAINED 1).setF (Reg.CMT_CLUSTER n) Fld.CMT_CLUSTER_RESULT 2
    | some .patch, some a => ((s.setLoading 0 n false).endApply a).setUpt 11
    | some (.test p), _ => (match s.istRun p with | some r => s.endTest p r 5 | none => s)
    | _, _ => s
  let s := (s.setF (Reg.CMT_CLUSTER n) Fld.CMT_CLUSTER_FAILED 1).setF (Reg.PWC_ISL n) Fld.PWC_ISL_FAILED 1
  let s := foldN (fun core s => s.stopCore core) (clusterCores n) s
  let s := (s.loseL2 n).dropTlbs n
  let s := s.modCluster n (fun k => { k with drain := none, resetKind := none, inv := [] })
  let s := (s.updEmpty n).barRemove c n
  let s := (s.logErrOpen (pageUSQ n) 3 0).losePoint (ptCluster n)
  (s.peersSeeFailed c n).announceShrunk c n

/-- CLUSTER_FAULT (R15). -/
def execClusterFault (n : ClusterId) (s : State) : Outcome State Fault Refusal :=
  if s.isF (Reg.CMT_CLUSTER n.val) Fld.CMT_CLUSTER_FAILED then .next s else .next (s.failCluster n.val).settle

/-- PATCH_LOAD_END (R483, R487): the words are written and the unit restored, or the unit has failed during the load. -/
def execPatchLoadEnd (ok : Bool) (s : State) : Outcome State Fault Refusal :=
  match s.apply with
  | none => .next s
  | some a =>
    if s.loading a = false then .next s
    else if ok then .next (s.loadDone a).settle
    else if a.kind = 0 then .next (s.failCluster a.target).settle
    else .next ((((s.setLoading 1 a.target false).endApply a).setUpt 11).degrade a.target).settle

/-! ### Resets of cores and clusters (R451) -/

/-- A core held in reset while its store buffer drains for up to 200 ns (R201); its task and its other state are gone. -/
def State.beginCoreReset (s : State) (core kind : Nat) : State :=
  let s := s.dropRequests core
  let k := s.core core
  let s := s.setCore core { coreAfterReset k with run := .off, sb := k.sb, posted := k.posted, resetting := some kind }
  s.setF (Reg.CII_STAT (core / 16) (core % 16)) Fld.CII_STAT_HALTED 0

/-- A cluster held in reset while its buffers drain and its caches are written back (R220, R451). -/
def State.beginClusterReset (s : State) (n kind : Nat) : State :=
  let s := s.drainBusy n
  let s := foldN (fun c s => s.beginCoreReset c kind) (clusterCores n) s
  let s := (s.resetClusterPages n).dropTlbs n
  let s := s.setF (Reg.L2C_STAT n) Fld.L2C_STAT_FLUSHING 1
  s.modCluster n (fun k => { k with resetKind := some kind, inv := [], mask := 0#32 })

/-- The end of a core's reset: entries still in its buffer are discarded and logged, and it parks (R49, R203). -/
def State.endCoreReset (s : State) (core : Nat) : State :=
  match (s.core core).resetting with
  | none => s
  | some kind => (s.discardStores core kind).coreReset core

/-- An open number of the lines that a cluster holds modified written back, in ascending address (R220, R451). DESIGN CHOICE (log 160):
within the time of a cluster reset the cluster's own L2 writes them back; how many it ends is open. -/
def State.wbSome (s : State) (n : Nat) : State :=
  let l := s.lines.filter (fun e => (Cache.l2 n).modified e.2)
  if l = [] then s else
  let (v, s) := s.openWord
  (l.take (v.toNat % (l.length + 1))).foldl (fun s e => s.giveBack n e.1) s

/-- The end of the allowances of a reset: lines still dirty in the cluster are marked with poison at the directory. -/
def State.endClusterReset (s : State) (n : Nat) : State :=
  let s := foldN (fun c s => s.endCoreReset c) (clusterCores n) s
  match (s.cluster n).resetKind with
  | none => s
  | some _ => (((s.wbSome n).loseL2 n).modCluster n (fun k => { k with resetKind := none })).updEmpty n


/-! ### In-service tests (R468 to R471) -/

/-- Whether the writer and the target meet the table of R468. -/
def State.istAllowed (s : State) (w : Who) (c kind t : Nat) : Bool :=
  if kind = 0 then w.isH c && decide (t < 96) && s.isF (Reg.CMT_CLUSTER t) Fld.CMT_CLUSTER_EN && decide (s.cid t = c)
  else if kind = 1 then w.isH c && decide (t < 64) && s.ownsBand c t
  else if kind = 2 then s.platHOrW w && decide (t < 16) && s.isF (Reg.DMC_STAT t) Fld.DMC_STAT_PRESENT
  else s.platHOrW w && s.sparing && decide (t = s.spareCh) && decide (s.spareState = 0)

/-- Whether the drain of a test's target can start (R470, R472). -/
def State.istBusy (s : State) (kind t : Nat) : Bool :=
  if kind = 0 then (s.cluster t).drain.isSome || (s.cluster t).resetKind.isSome
  else if kind = 1 then s.comp.bandFlush.any (fun e => decide (e.1 = t))
  else if kind = 2 then s.channelBusy t || s.channelWanted t || s.channelHeld t
  else s.ist.any (fun e => decide (e.2.kind = 3))

/-- A test entered in page IST_c. -/
def State.putIst (s : State) (c : Nat) (r : IstRun) : State :=
  { s with ist := smIns c r (smErase s.ist c) }

/-- Step 3 of R469: leave asked; granted, the test runs. -/
def State.istLeaveStep (s : State) (c : Nat) (r : IstRun) : State :=
  match s.askLeave (istLeave c r) with
  | (s, false) => s.endTest c r 8
  | (s, true) => (s.putIst c { r with running := true }).setIst c 2

/-- A write of IST_REQ of page IST_c (R468, R469), up to the start of the drain. -/
def State.wrIst (s : State) (w : Who) (c : Nat) (v : Word) : State :=
  let k := Reg.IST_REQ c
  let kind := fieldN v 0 2
  let t := fieldN v 2 7
  if s.istAllowed w c kind t = false then s.denyAt k else
  let s := s.putFields k v
  if bitN v 12 = false then s else
  let res := s.getF (Reg.IST_STAT c) Fld.IST_STAT_RESULT
  if res = 1 ∨ res = 2 ∨ (s.istRun c).isSome then s.setIst c 6 else
  let needsW := kind ≤ 2 && (if kind = 1 then decide (c = 63) else s.unitNeedsW kind t)
  if needsW && !w.wOrBoot then s.setIst c 7 else
  if s.istBusy kind t then s.setIst c 6 else
  let r : IstRun := ⟨kind, t, fieldN v 9 3, false⟩
  let s := (s.putIst c r).setIst c 1
  if kind = 0 then s.startDrain t (.test c)
  else if kind = 1 ∨ kind = 2 then s
  else s.istLeaveStep c r

/-- The result, the detail and the severity of what a test has found (R471). -/
def istVerdict (r : IstRun) (late : Bool) (f : TestFinding) (spareUsed : Bool) : Nat × Nat :=
  match f with
  | .clean => (if late then 4 else 3, 0)
  | .coreFails c => if spareUsed then (5, c.val) else (4, c.val)
  | .secondCoreFails => (5, 0)
  | .l2WayFails => (5, 0)
  | .l3WayFails sl _ => (4, sl.val)
  | .centringFails sc rk => (4, sc.val + rk.val * 2)
  | .deviceFails sc rk => (4, sc.val + rk.val * 2)
  | .overTime => (9, 0)
  | .realFault => (if r.kind = 0 then 5 else 9, 0)

/-- Whether a finding belongs to a test's kind and selection (R471). -/
def istFits (r : IstRun) (f : TestFinding) : Bool :=
  match f with
  | .clean => true
  | .coreFails _ => decide (r.kind = 0) && r.sel.testBit 0
  | .secondCoreFails => decide (r.kind = 0) && r.sel.testBit 0
  | .l2WayFails => decide (r.kind = 0) && r.sel.testBit 1
  | .l3WayFails _ _ => decide (r.kind = 1)
  | .centringFails _ _ => decide (r.kind = 2)
  | .deviceFails _ _ => decide (r.kind = 3)
  | .overTime => decide (r.kind = 2)
  | .realFault => true

/-- What a finding does to the tested unit (R471). -/
def State.istRepair (s : State) (r : IstRun) (f : TestFinding) : State :=
  match f with
  | .coreFails c => if (s.cluster r.target).spareUsed then s.failCluster r.target else s.retireCore (r.target * 16 + c.val)
  | .secondCoreFails => s.failCluster r.target
  | .l2WayFails => s.failCluster r.target
  | .l3WayFails sl w => s.spareTrigger sl.val w.val
  | .centringFails _ _ => s.degrade r.target
  | .deviceFails _ _ => s.setF Reg.DMG_SPARE_STAT Fld.DMG_SPARE_STAT_STATE 3
  | .realFault => if r.kind = 0 then s.failCluster r.target else s
  | _ => s

end Sys2Proof.Machine
end

