-- ==== Sys2Proof/Machine/Warden.lean ====
section
/-! DEFINITION. The warden block (chapter 12): secure attributes, the request queue and its replies, partial resets, and the
secure watchdog's registers. -/

namespace Sys2Proof.Machine

open Host

/-! ### Secure attributes (R293, R294) -/

/-- Whether an attribute word names a world that fits its compartment. -/
def attrFits (a : Nat) : Bool := decide ((a / 64 % 2 = 1) ↔ (a % 64 = 63))

/-- Whether an attribute word needs W: it names compartment 63, or is locked. -/
def attrNeedsW (a : Nat) : Bool := decide (a % 64 = 63) || decide (a / 128 % 2 = 1)

/-- Whether a secure attribute may change from `old` to `new` by the writer (R294). -/
def State.attrMayChange (s : State) (w : Who) (old new : Nat) : Bool :=
  attrFits new && s.platHOrW w && ((!attrNeedsW old && !attrNeedsW new) || w.wOrBoot)

/-- A write of a router vector's entry (R294, R375): an ID below 9 with MODE = 0 is ignored. -/
def State.wrIrt (s : State) (w : Who) (k : Nat) (v : Word) : State :=
  let old := s.getF k Fld.IRT_ATTR
  let new := fieldN v 0 8
  if s.attrMayChange w old new = false then s.denyAt k else
  if bitN v 9 = false ∧ fieldN v 10 6 < 9 then s else (s.putFields k v).dropStale

/-- A write of a GPIO pin's register (R294, R295): the attribute by its rule, the other fields by the pin's compartment. -/
def State.wrPin (s : State) (w : Who) (n : Nat) (v : Word) : State :=
  let k := Reg.GPIO_PIN n
  let old := s.getF k Fld.GPIO_PIN_ATTR
  let new := fieldN v 0 8
  let own := w.boot || (decide (w.cid = old % 64) && decide (w.sec = (old / 64 % 2 = 1)))
  if (new ≠ old ∧ s.attrMayChange w old new = false) ∨ (new = old ∧ own = false) then s.denyAt k else
  if own then s.putFields k v else s.setF k Fld.GPIO_PIN_ATTR new

/-- A write of BLK_OWNER (R491, R503): by the attribute's rule; a denial where the owner is derived or fixed, and for a
write that moves CMT or a beat-wheel page away from the platform compartment. -/
def State.wrOwner (s : State) (w : Who) (page : Nat) (v : Word) : State :=
  let k := Reg.BLK_OWNER page
  match Blk.ofPage page with
  | none => s
  | some (b, _) =>
    let fixed : Bool := decide (b = .wdn) || decide (b = .swd) || decide (b = .dev)
    let stays : Bool := match b with
      | .cmt | .bwMesh | .bwL3s | .bwD2d | .bwDram | .bwHub => true
      | _ => false
    if b.derivedOwner ∨ fixed ∨ (stays ∧ fieldN v 0 6 ≠ s.platform) ∨
        s.attrMayChange w (fieldN (s.rd k) 0 8) (fieldN v 0 8) = false then s.denyAt k else s.putFields k v

/-- A request refused by a page whose owner is compartment 63 (R296). -/
def State.wardenRefuse (s : State) (page key : Nat) : State :=
  let s := s.denyAt key
  let s := s.addF Reg.WDN_DENY Fld.WDN_DENY_COUNT 1
  s.setF Reg.WDN_DENY Fld.WDN_DENY_LAST_BLK page

/-- Whether a page refuses a clock, power or reset request of this requester (R296). -/
def State.wardenOwned (s : State) (w : Who) (page : Nat) : Bool := decide (s.owner page % 64 = 63) && !w.sec

/-! ### Requests (R299 to R304) -/

/-- A request ended: its caller is given res and st (R300). -/
def State.endRequest (s : State) (r : WReq) (res : Word) (st : Nat) : State :=
  let s := { s with warden := { s.warden with q := s.warden.q.erase r } }.updQDepth
  s.modCore (r.cluster * 16 + r.core) (fun k => if k.wcall = some r.id then { k with wresult := some (res, BitVec.ofNat 64 st) } else k)

/-- Every open request ended with one status. -/
def State.endRequests (s : State) (st : Nat) : State := s.warden.q.foldl (fun s r => s.endRequest r 0#64 st) s

/-- The status with which a call ends at once, if it does (R300, R306): no warden, a restart, busy. Where OPEN has been
cleared by W itself the manual gives no status: it is an open value among those of the table (log 17). -/
def State.wcallRefusal (s : State) (c : Nat) : State × Option Nat :=
  let wcl := s.getF Reg.WDN_CTL Fld.WDN_CTL_WCL
  let working := (s.clustersOf 63).any (fun n => !s.isF (Reg.CMT_CLUSTER n) Fld.CMT_CLUSTER_FAILED)
  if working = false ∨ s.warden.down ∨ (s.clustersOf 63).contains wcl = false ∨ s.warden.openedOnce = false then (s, some 6)
  else if s.warden.restarted then (s, some 5)
  else if s.isF Reg.WDN_CTL Fld.WDN_CTL_OPEN = false then let (w, s) := s.openWord; (s, some (w.toNat % 7))
  else if 4 ≤ (s.warden.q.filter (fun r => decide (r.cid = c))).length then (s, some 3)
  else (s, none)

/-- Whether an open request holds an ID. -/
def State.idHeld (s : State) (i : BitVec 16) : Bool := s.warden.q.any (fun r => decide (r.id = i))

/-- A request ID that no open request holds (R299): an open value, or the lowest free one where that is held. At most 252 are open. -/
def State.newReqId (s : State) (n : Nat) : BitVec 16 :=
  if s.idHeld (Config.reqId n) = false then Config.reqId n else
  BitVec.ofNat 16 (((natsFrom 0 253).find? (fun i => !s.idHeld (BitVec.ofNat 16 i))).getD 253)

/-- A write of WDN_WRPL_c (R303): the reply of core `c` of the WCALL cluster. -/
def State.wrReply (s : State) (w : Who) (c : Nat) (v : Word) : State :=
  let k := Reg.WDN_WRPL c
  if w.boot = false ∧ (w.isW = false ∨ w.cluster ≠ s.getF Reg.WDN_CTL Fld.WDN_CTL_WCL ∨ w.core ≠ c) then s.denyAt k else
  match s.warden.q.find? (fun r => decide (r.id.toNat = fieldN v 0 16) && decide (r.delivered = some (w.cluster * 16 + c))) with
  | none => s.addF Reg.WDN_STAT Fld.WDN_STAT_LATE 1
  | some r =>
    -- a caller that has been reset or retired waits no longer (R304)
    let gone := (s.core (r.cluster * 16 + r.core)).wcall ≠ some r.id
    (if gone then s.addF Reg.WDN_STAT Fld.WDN_STAT_LATE 1 else s).endRequest r (s.rd (Reg.WDN_WRES c)) (min 2 (fieldN v 16 8))

/-- A write of WDN_WRES_c. -/
def State.wrResult (s : State) (w : Who) (c : Nat) (v : Word) : State :=
  let k := Reg.WDN_WRES c
  if w.boot = false ∧ (w.isW = false ∨ w.cluster ≠ s.getF Reg.WDN_CTL Fld.WDN_CTL_WCL ∨ w.core ≠ c) then s.denyAt k else s.putFields k v

/-- WCALL_TIMEOUT (R300): a request that has passed its allowance ends with st 4. -/
def execWcallTimeout (id : BitVec 16) (s : State) : Outcome State Fault Refusal :=
  match s.warden.q.find? (fun r => decide (r.id = id)) with
  | none => .next s
  | some r =>
    let t := s.getF Reg.WDN_CTL Fld.WDN_CTL_TMO_US
    if t = 0 ∨ s.now < r.tb + t * 1000 then .next s else .next (s.endRequest r 0#64 4)

/-! ### Partial resets (R306, R307) -/

/-- The DMA engines bound to a compartment. -/
def State.enginesOf (s : State) (c : Nat) : List Nat :=
  (natsFrom 0 64).filter (fun n => decide (s.forcedF (Reg.DMA_ATTR n) Fld.DMA_ATTR_ATTR % 64 = c))

/-- Engines told to stop at their next transfer boundary. -/
def State.stopEngines (s : State) (c : Nat) : State :=
  { s with io := { s.io with dmaStop := s.io.dmaStop ++ ((s.enginesOf c).filter (fun n => !s.io.dmaStop.contains n)) } }

/-- A warden partial reset started (R306); one started while another runs is absorbed. `cause`: 0 watchdog, 1 RESTART. -/
def State.partialReset (s : State) (cause : Nat) : State :=
  let k := Reg.WDN_STAT
  if s.getF k Fld.WDN_STAT_STATE = 2 then s else
  let s := ((s.setF k Fld.WDN_STAT_STATE 2).setF k Fld.WDN_STAT_CAUSE cause).addF k Fld.WDN_STAT_RESTARTS 1
  let s := s.setF Reg.WDN_CTL Fld.WDN_CTL_OPEN 0
  let s := s.endRequests 5
  let s := { s with warden := { s.warden with restarted := true } }
  let s := s.stopTests (fun r => if r.kind = 0 then decide (s.cid r.target = 63) else if r.kind = 1 then s.ownsBand 63 r.target else s.channelHas63)
  let s := (s.clustersOf 63).foldl (fun s n => s.beginClusterReset n 3) s
  s.stopEngines 63

/-- A write of WDN_CTL. -/
def State.wrWardenCtl (s : State) (v : Word) : State :=
  let s := s.putFields Reg.WDN_CTL v
  let s := if bitN v 7 then { s with warden := { s.warden with openedOnce := true, restarted := false } } else s
  if bitN v 8 then s.partialReset 1 else s

/-! ### The secure watchdog (R305) -/

/-- Ticks of a period: values below 4,096 act as 4,096. -/
def State.swdPeriod (s : State) (k : Nat) : Nat := max 4096 (fieldN (s.rd k) 0 24)

/-- The watchdog in a stage, its count loaded. -/
def State.swdStage (s : State) (stage : Nat) : State :=
  let s := { s with warden := { s.warden with swdTb := s.now } }
  let s := s.setF Reg.SWD_STAT Fld.SWD_STAT_STAGE stage
  s.setF Reg.SWD_STAT Fld.SWD_STAT_COUNT (s.swdPeriod (if stage = 2 then Reg.SWD_P2 else Reg.SWD_P1))

/-- The ticks of 32,768 Hz left in the watchdog's stage (SWD_STAT.COUNT): what was loaded, less those since. -/
def State.swdLeft (s : State) : Nat :=
  s.getF Reg.SWD_STAT Fld.SWD_STAT_COUNT - (s.now - s.warden.swdTb) * 32768 / 1000000000

/-- A write of SWD_CTL: EN set starts stage 1, and stays. -/
def State.wrSwdCtl (s : State) (v : Word) : State :=
  let on := s.isF Reg.SWD_CTL Fld.SWD_CTL_EN
  let s := s.putFields Reg.SWD_CTL v
  if on = false ∧ bitN v 0 then s.swdStage 1 else s

/-- A write of SWD_KICK: the key services the watchdog; any other value is a denial. -/
def State.wrKick (s : State) (v : Word) : State :=
  if fieldN v 0 16 ≠ 0x5EC1 then s.denyAt Reg.SWD_KICK else
  if s.getF Reg.SWD_STAT Fld.SWD_STAT_STAGE = 0 then s else s.swdStage 1

end Sys2Proof.Machine
end

