-- ==== Sys2Proof/Machine/Ledger.lean ====
section
/-! DEFINITION. The minute ledger (chapter 13): metering points and posts, strikes and spans, records, their hash and
signature, export, winding, coalescing, checkpoints, energy and band-milliseconds. -/

namespace Sys2Proof.Machine

open Host

/-! ### Use of cores (R258, R310) -/

/-- The key that a core's use is charged to: its compartment and the tag of its instructions; none while it runs no task (R46, R258). -/
def State.coreKey (s : State) (core : Nat) : Option (Nat × Nat) :=
  match (s.core core).task with
  | none => none
  | some _ => some (s.cid (core / 16), (s.core core).useTag.toNat)

/-- A core's use up to now charged at its cluster's point (R46, R258). -/
def State.settleUse (s : State) (core : Nat) : State :=
  let k := s.core core
  let key := s.coreKey core
  let s := (s.charge (ptCluster (core / 16)) key 0 k.useInstr).charge (ptCluster (core / 16)) key 1 (s.now - k.chargeTb)
  s.modCore core (fun k => { k with useInstr := 0, chargeTb := s.now })

/-- A core's use from now on goes to a tag; what another tag has had is charged to it first (R46). -/
def State.setUseTag (s : State) (core : Nat) (tag : BitVec 16) : State :=
  if (s.core core).useTag = tag then s else (s.settleUse core).modCore core (fun k => { k with useTag := tag })

/-- The use of every core that runs a task charged up to now. -/
def State.settleAll (s : State) : State :=
  (s.cores.filter (fun e => e.2.task.isSome)).foldl (fun s e => s.settleUse e.1) s

/-! ### Spans (R314, R315) -/

/-- Key slots of the engine. -/
def keySlots : Nat := 4096

/-- A key's meters added to a list of meters. -/
def metersSum (a b : List Nat) : List Nat := (natsFrom 0 8).map (fun i => stick meterTop (a.getD i 0 + b.getD i 0))

/-- A key's meters added to a span; `free` says whether a slot is free for a new key, and a key without one goes to the
overflow entry. -/
def Span.addKey (p : Span) (free : Bool) (k : KeyUse) : Span :=
  if p.keys.any (fun e => decide (e.cid = k.cid ∧ e.tag = k.tag)) then
    { p with keys := p.keys.map (fun e => if e.cid = k.cid ∧ e.tag = k.tag then { e with m := metersSum e.m k.m } else e) }
  else if free then { p with keys := p.keys ++ [{ k with m := metersSum (List.replicate 8 0) k.m }] }
  else { p with ovf := metersSum p.ovf k.m, overflow := true }

/-- The deltas of a point added to a span, while `others` slots are taken by another span. -/
def Span.addKeys (p : Span) (others : Nat) (l : List KeyUse) : Span :=
  l.foldl (fun p k => p.addKey (decide (p.keys.length + others < keySlots)) k) p

/-- Two spans added: the accumulated one first (R325). -/
def Span.merge (a b : Span) : Span :=
  let p := a.addKeys 0 b.keys
  { p with tbEnd := b.tbEnd, ovf := metersSum p.ovf b.ovf, overflow := p.overflow || b.overflow,
           bandMs := (natsFrom 0 64).map (fun i => stick meterTop (a.bandMs.getD i 0 + b.bandMs.getD i 0)),
           energyUn := stick meterTop (a.energyUn + b.energyUn), dropped := stick 0xFFFF (a.dropped + b.dropped),
           lost := a.lost || b.lost, stepNs := a.stepNs + b.stepNs, stepped := a.stepped || b.stepped,
           interrupted := b.interrupted, throttle := a.throttle || b.throttle, minutes := a.minutes + b.minutes,
           sync := b.sync, syncErr := b.syncErr }

/-- The slots taken by a span that is still closing. -/
def State.closingKeys (s : State) : Nat :=
  match s.ledger.closing with
  | some p => if s.ledger.closed then 0 else p.keys.length
  | none => 0

/-- LG_LIVE brought up to date. -/
def State.updLive (s : State) : State :=
  let n := s.ledger.openSpan.keys.length + s.closingKeys
  let s := s.setF Reg.LG_LIVE Fld.LG_LIVE_LIVE n
  s.setF Reg.LG_LIVE Fld.LG_LIVE_PEAK (max n (s.getF Reg.LG_LIVE Fld.LG_LIVE_PEAK))

/-- The open span changed. -/
def State.modOpen (s : State) (f : Span → Span) : State :=
  { s with ledger := { s.ledger with openSpan := f s.ledger.openSpan } }

/-- `n` charged in the open span itself, by an agent whose deltas do not pass a metering point. -/
def State.chargeOpen (s : State) (cid tag i n : Nat) : State :=
  if n = 0 ∨ s.ledger.metering = false then s else
  let k : KeyUse := ⟨cid, tag, metersAdd (List.replicate 8 0) i n⟩
  (s.modOpen (fun p => p.addKeys s.closingKeys [k])).updLive

/-! ### Posts (R316, R317) -/

/-- The number of a metering point. -/
def pointNum : MeterPoint → Nat
  | .cluster n => ptCluster n.val
  | .dmc n => ptDmc n.val
  | .dma n => ptDma n.val
  | .fab p => ptFab p.val

/-- The closing span's deltas of a point posted: summed before T + 1 ms, discarded and counted later. -/
def State.postOld (s : State) (p : Nat) : State :=
  let q := s.meterPt p
  if q.old = [] then s else
  let s := { s with meters := smPut (fun _ => {}) s.meters p { q with old := [] } }
  match s.ledger.closing with
  | some c =>
    if s.ledger.closed then
      { s with ledger := { s.ledger with closing := some { c with dropped := stick 0xFFFF (c.dropped + 1), lost := true } } }
    else
      { s with ledger := { s.ledger with closing := some (c.addKeys s.ledger.openSpan.keys.length q.old) } }
  | none => s.modOpen (fun c => { c with dropped := stick 0xFFFF (c.dropped + 1), lost := true })

/-- METER_POST (R316): a point's deltas reach the engine. -/
def execMeterPost (pt : MeterPoint) (s : State) : Outcome State Fault Refusal :=
  if s.ledger.metering = false then .next s else
  let p := pointNum pt
  let s := match pt with | .cluster n => foldN (fun (c : Nat) (s : State) => s.settleUse c) (clusterCores n.val) s | _ => s
  let s := s.postOld p
  let q := s.meterPt p
  let s := { s with meters := smPut (fun _ => {}) s.meters p { q with cur := [] } }
  .next (s.modOpen (fun c => c.addKeys s.closingKeys q.cur)).updLive

/-! ### Records (R320 to R322) -/

/-- Little-endian bytes of a number in 8 bytes. -/
def le8 (n : Nat) : List Byte := natToBytes 8 n

/-- Whether a key has a nonzero meter. -/
def KeyUse.live (k : KeyUse) : Bool := k.m.any (· ≠ 0)

/-- A key placed in ascending order of CID and TAG. -/
def insertKey (k : KeyUse) : List KeyUse → List KeyUse
  | [] => [k]
  | e :: t => if k.cid * 65536 + k.tag ≤ e.cid * 65536 + e.tag then k :: e :: t else e :: insertKey k t

/-- The entries of a record, in order (R321). -/
def Span.entries (p : Span) : List KeyUse := (p.keys.filter KeyUse.live).foldl (fun l k => insertKey k l) []

/-- The SAT bits of a list of meters (R314). -/
def satBits (m : List Nat) : Nat := (natsFrom 0 8).foldl (fun a i => if m.getD i 0 = meterTop then a + 2 ^ i else a) 0

/-- An entry's 64 bytes (R321). -/
def entryBytes (cid tag : Nat) (m : List Nat) : List Byte :=
  le8 (m.getD 0 0 + tag * 2 ^ 48) ++ le8 (m.getD 1 0 + cid * 2 ^ 48 + satBits m * 2 ^ 54) ++
    (natsFrom 2 6).flatMap (fun i => le8 (m.getD i 0))

/-- A 48-bit count with its SAT bit (R320). -/
def satCount (n : Nat) : List Byte := le8 (n + b2n (decide (n = meterTop)) * 2 ^ 48)

/-- Zero bytes. -/
def zeros (n : Nat) : List Byte := List.replicate n 0#8

/-- Whether some value of a span is saturated. -/
def Span.sat (p : Span) : Bool :=
  p.keys.any (fun k => decide (satBits k.m ≠ 0)) || decide (satBits p.ovf ≠ 0) || decide (p.energyUn = meterTop) || p.bandMs.any (· = meterTop)

/-- FLAGS of a record (R320). -/
def Record.flags (r : Record) : Nat :=
  r.gran + b2n r.span.interrupted * 2 ^ 6 + b2n r.span.resumed * 2 ^ 7 + b2n r.span.sat * 2 ^ 8 + b2n r.span.overflow * 2 ^ 9 +
    b2n r.span.stepped * 2 ^ 10 + r.span.sync * 2 ^ 11 + b2n r.span.lost * 2 ^ 13 + b2n r.loss * 2 ^ 14 +
    b2n r.genesis * 2 ^ 15 + b2n r.span.throttle * 2 ^ 16

/-- The bytes of a record with a given signature field (R320). -/
def Record.bytesWith (r : Record) (sig : List Byte) : List Byte :=
  let es := r.span.entries
  le8 (1 + es.length * 2 ^ 16) ++ le8 r.seq.toNat ++ le8 r.span.tbStart.toNat ++ le8 r.span.tbEnd.toNat ++ le8 r.flags ++
    le8 r.span.syncErr ++ le8 r.lossCount ++ le8 r.node ++ le8 Config.devUid.toNat ++ le8 (BitVec.ofInt 64 r.span.stepNs).toNat ++
    satCount r.span.energyUn ++ le8 r.span.dropped ++ zeros 0x20 ++ sliceB r.prevHash 0 48 ++ zeros 0x10 ++
    entryBytes 0 0 r.span.ovf ++ (natsFrom 0 64).flatMap (fun i => satCount (r.span.bandMs.getD i 0)) ++
    sliceB sig 0 96 ++ zeros 0xA0 ++ es.flatMap (fun k => entryBytes k.cid k.tag k.m)

/-- The bytes of a record. -/
def Record.bytes (r : Record) : List Byte := r.bytesWith r.sig

/-- The size of a record. -/
def Record.size (r : Record) : Nat := 1024 + 64 * r.span.entries.length

/-- The size of the ledger region. -/
def regionSize : Nat := 58720256

/-- The bytes that no unwound record holds. -/
def State.ledgerFree (s : State) : Nat := regionSize - s.ledger.records.foldl (fun a r => a + r.size) 0

/-- LG_STAT.FREE_PERMIL and GRAN brought up to date. -/
def State.updLedger (s : State) : State :=
  (s.setF Reg.LG_STAT Fld.LG_STAT_FREE_PERMIL (s.ledgerFree * 1000 / regionSize)).setF Reg.LG_STAT Fld.LG_STAT_GRAN s.ledger.gran

/-- Records overwritten, oldest first, until `n` bytes are free: each adds 1 to LG_LOSS (R326). -/
def State.makeFree : Nat → State → Nat → State
  | 0, s, _ => s
  | f + 1, s, n =>
    if n ≤ s.ledgerFree then s else
    match s.ledger.records with
    | [] => s
    | _ :: t =>
      let s := { s with ledger := { s.ledger with records := t } }
      State.makeFree f ((s.addF Reg.LG_LOSS Fld.LG_LOSS_COUNT 1).irqRaise 0x11 4#64) n

/-- A granularity for the next span, with its interrupt when it changes (R325). -/
def State.setGran (s : State) (g : Nat) : State :=
  if g = s.ledger.gran then s else ({ s with ledger := { s.ledger with gran := g } }.updLedger).irqRaise 0x11 2#64

/-- The thresholds of R325 after a record. -/
def State.coalesce (s : State) : State :=
  let f := s.ledgerFree
  let g := s.ledger.gran
  if f * 1000 ≤ regionSize * 25 then s.setGran 60
  else if f * 100 ≤ regionSize * 5 then s.setGran (max g 15)
  else if f * 100 ≤ regionSize * 10 then s.setGran (max g 5)
  else s

/-- A record written from a span: hashed, signed and placed (R320 to R326). -/
def State.writeRecord (s : State) (p : Span) : State :=
  let p := { p with lost := p.lost || s.ledger.nextPartial }
  let size := 1024 + 64 * p.entries.length
  let s := s.makeFree (s.ledger.records.length + 1) size
  let loss := s.getF Reg.LG_LOSS Fld.LG_LOSS_COUNT
  let seq := s.rd Reg.LG_SEQ_NEW + 1#64
  let r : Record := { seq := seq, span := p, gran := s.ledger.gran, loss := decide (s.ledger.lastLoss < loss), lossCount := loss,
                      genesis := s.ledger.genesis, node := if s.isF Reg.FABG_NODE Fld.FABG_NODE_EN then s.getF Reg.FABG_NODE Fld.FABG_NODE_NODE else 0,
                      prevHash := if s.ledger.genesis then zeros 48 else s.ledger.lastHash, hash := [], sig := [] }
  let h := Config.sha384 (r.bytesWith (zeros 96))
  let r := { r with hash := h, sig := Config.ecdsaSign h }
  let s := { s with ledger := { s.ledger with records := s.ledger.records ++ [r], lastHash := h, lastLoss := loss,
                                              genesis := false, nextPartial := false } }
  let s := ((s.wr Reg.LG_SEQ_NEW seq).updLedger).irqRaise 0x11 (if p.lost then 0x11#64 else 1#64)
  s.coalesce

/-! ### Strikes and closing (R316 to R319) -/

/-- The length of a minute in ns. -/
def minuteNs : Nat := 60000000000

/-- The free space is at or above 20 % while GRAN is not 1: the next span's GRAN is 1 (R325). -/
def State.freeRelax (s : State) : Bool := decide (regionSize * 20 ≤ s.ledgerFree * 100 ∧ s.ledger.gran ≠ 1)

/-- A strike at timebase `t`: every point swaps its banks, the open span begins to close and a new one opens; the free space
is checked (R325). -/
def State.strike (s : State) (t : Word) : State :=
  let s := s.settleAll
  let thr := decide (s.getF Reg.IDX_THERM Fld.IDX_THERM_LEVEL ≠ 0)
  let p := s.ledger.openSpan
  let closing : Span := { p with tbEnd := t, minutes := 1, throttle := p.throttle || thr,
                                 sync := s.getF Reg.FABG_SYNC Fld.FABG_SYNC_STATE, syncErr := s.syncErr }
  { s with meters := s.meters.map (fun (e : Nat × MeterPt) => (e.1, { e.2 with old := e.2.cur, cur := [], intv := [], intvOld := e.2.intvOld ++ e.2.intv })),
           ledger := { s.ledger with closing := some closing, closed := false, relax := s.freeRelax, openSpan := { tbStart := t, throttle := thr } } }.updLive

/-- MINUTE_STRIKE (R316, R319): at a multiple of 60 s of the timebase, unless the previous span is still closing. -/
def execMinuteStrike (s : State) : Outcome State Fault Refusal :=
  if s.ledger.metering = false ∨ s.ledger.closing.isSome ∨ s.now % minuteNs ≠ 0 then .next s else .next (s.strike s.tb)

/-- The span that has ended and is not sealed, as the checkpoint keeps it: before T + 1 ms, with PARTIAL where a point has
not posted yet (log 170). -/
def State.unsealed (s : State) : Option Span :=
  let late := !s.ledger.closed && s.meters.any (fun e => decide (e.2.old ≠ []))
  s.ledger.closing.map (fun c => { c with lost := c.lost || late })

/-- The checkpoint as it stands now (R328). -/
def State.takeCheckpoint (s : State) : State :=
  let c : Checkpoint := ⟨s.tb, s.ledger.openSpan, s.ledger.accum, s.unsealed, s.getF Reg.FABG_SYNC Fld.FABG_SYNC_STATE, s.syncErr⟩
  { s with ledger := { s.ledger with checkpoint := some c } }

/-- The checkpoint's ended span is sealed, or in the accumulated span: the checkpoint keeps it no more (R328). -/
def State.checkpointSealed (s : State) : State :=
  { s with ledger := { s.ledger with checkpoint := s.ledger.checkpoint.map (fun c => { c with closed := none, accum := s.ledger.accum }) } }

/-- SPAN_CLOSE (R317): at T + 1 ms. -/
def execSpanClose (s : State) : Outcome State Fault Refusal :=
  match s.ledger.closing with
  | none => .next s
  | some c =>
    if s.ledger.closed ∨ s.now < c.tbEnd.toNat + 1000000 then .next s else
    let lost := s.meters.any (fun e => decide (e.2.old ≠ []))
    let s := { s with ledger := { s.ledger with closing := some { c with lost := c.lost || lost }, closed := true } }
    .next (s.setF Reg.LG_STAT Fld.LG_STAT_CLOSING 1).updLive.takeCheckpoint

/-- RECORD_SEAL (R317, R325): the closed span ends in a record, or is added to the accumulated one. -/
def execRecordSeal (s : State) : Outcome State Fault Refusal :=
  match s.ledger.closing with
  | none => .next s
  | some c =>
    if s.ledger.closed = false then .next s else
    let p := match s.ledger.accum with | none => c | some a => a.merge c
    let relax := s.ledger.relax
    let s := { s with ledger := { s.ledger with closing := none, closed := false, relax := false } }
    let s := s.setF Reg.LG_STAT Fld.LG_STAT_CLOSING 0
    let s := if s.ledger.gran ≤ p.minutes ∨ relax then ({ s with ledger := { s.ledger with accum := none } }).writeRecord p
      else { s with ledger := { s.ledger with accum := some p } }
    .next (if relax then s.setGran 1 else s).updLive.checkpointSealed.settle

/-! ### Timebase steps, checkpoints and resumption (R319, R328) -/

/-- What a write of the timebase from `old` to `new` does: it is counted in the open span, and a forward step across strike
values makes one strike at once. -/
def State.ledgerStep (s : State) (old new : Word) : State :=
  if s.ledger.metering = false then s else
  let s := s.modOpen (fun p => { p with stepped := true, stepNs := p.stepNs + (new.toNat : Int) - (old.toNat : Int) })
  let s := { s with ledger := { s.ledger with msDone := none } }
  if old.toNat / minuteNs < new.toNat / minuteNs ∧ s.ledger.closing.isNone then s.strike new else s

/-- LEDGER_CHECKPOINT (R328). -/
def execLedgerCheckpoint (s : State) : Outcome State Fault Refusal :=
  .next (if s.ledger.metering then s.takeCheckpoint else s)

/-- Metering interrupted by a reset or a loss of power: what has not reached the checkpoint is not metered (R328). -/
def State.ledgerStop (s : State) : State :=
  let l := s.ledger
  { s with meters := [], ledger := { l with openSpan := {}, closing := none, accum := none, closed := false, relax := false, metering := false,
                                            exporting := none, stopped := l.stopped || l.metering } }

/-- The engine comes up after an interruption: a span of the checkpoint that was closed but not sealed is sealed first, then
a record is written from the checkpoint (R328). -/
def State.ledgerRecover (s : State) : State :=
  if s.ledger.stopped = false then s else
  let cp := s.ledger.checkpoint
  let s := { s with ledger := { s.ledger with checkpoint := none, stopped := false } }
  match cp with
  | none => s
  | some c =>
    let s := match c.closed with
      | none => s
      | some p => s.writeRecord (match c.accum with | none => p | some a => a.merge p)
    let p : Span := { c.openSpan with tbEnd := c.tb, interrupted := true, sync := c.sync, syncErr := c.syncErr }
    s.writeRecord (match c.closed, c.accum with | none, some a => { (a.merge p) with interrupted := true } | _, _ => p)

/-- Metering begins, with a resume strike (R328). -/
def State.ledgerResume (s : State) : State :=
  { s with meters := [], ledger := { s.ledger with openSpan := { tbStart := s.tb, resumed := true }, closing := none, metering := true } }.updLedger

/-! ### Export, winding, format (R323, R324, R327) -/

/-- A write of LG_EXP_CTL: GO is ignored while an export runs. -/
def State.wrExport (s : State) (v : Word) : State :=
  let s := s.putFields Reg.LG_EXP_CTL v
  if bitN v 16 = false ∨ s.getF Reg.LG_EXP_STAT Fld.LG_EXP_STAT_RESULT = 1 then s else
  let m := s.getF Reg.LG_EXP_CTL Fld.LG_EXP_CTL_MAXKIB
  let s := (s.setF Reg.LG_EXP_STAT Fld.LG_EXP_STAT_RESULT 1).setF Reg.LG_STAT Fld.LG_STAT_EXPORTING 1
  { s with ledger := { s.ledger with exporting := some (s.getF Reg.LG_EXP Fld.LG_EXP_BASE * 2 ^ 18, (if m = 0 then 257 else m) * 1024,
                                                        (s.rd Reg.LG_SEQ_NEW).toNat) } }

/-- The bytes of a record as exported: an uncorrectable word of MRAM reads as an open value (R461). -/
def State.exportBytes (s : State) (r : Record) : State × List Byte :=
  if r.bad = false then (s, r.bytes) else
  let (i, s) := s.openWord
  let (w, s) := s.openWord
  let o := i.toNat % (r.size / 8) * 8
  (s, r.bytes.take o ++ natToBytes 8 w.toNat ++ r.bytes.drop (o + 8))

/-- Bytes written from offset `o` of a packed region, line by line; false where an access is refused (R323). -/
def State.writePacked (s : State) (c b o : Nat) : List Byte → Nat → State × Bool
  | _, 0 => (s, true)
  | l, n + 1 =>
    let r : Req := { cid := c, die := 10, src := 6 }
    match s.packed c b o with
    | none => (s.packedRefused r b o, false)
    | some pa =>
      match s.dmaWrite r (pa / 64) (BitVec.ofNat 512 (bytesToNat (l.take 64))) fullMask false with
      | (s, some .color) => (s, false)
      | (s, some .resp) => (s.logErrOpen 0x11 2 pa, false)
      | (s, none) => s.writePacked c b (o + 64) (l.drop 64) n

/-- The records of an export copied one by one: the state, the records and bytes copied, and whether no access was
refused. -/
def State.exportAll (s : State) (c b max' : Nat) : List Record → Nat → Nat → State × Nat × Nat × Bool
  | [], n, o => (s, n, o, true)
  | r :: t, n, o =>
    if max' < o + r.size then (s, n, o, true) else
    let (s, bytes) := s.exportBytes r
    match s.writePacked c b o bytes (r.size / 64) with
    | (s, false) => (s, n, o, false)
    | (s, true) => (s.wr Reg.LG_SEQ_EXP r.seq).exportAll c b max' t (n + 1) (o + r.size)

/-- LG_EXPORT_END (R323). -/
def execLgExportEnd (s : State) : Outcome State Fault Refusal :=
  match s.ledger.exporting with
  | none => .next s
  | some (b, m, newest) =>
    let todo := s.ledger.records.filter (fun r => decide ((s.rd Reg.LG_SEQ_EXP).toNat < r.seq.toNat ∧ r.seq.toNat ≤ newest))
    let (s, n, o, ok) := s.exportAll (s.owner 0x11 % 64) b m todo 0 0
    let k := Reg.LG_EXP_STAT
    let s := ((s.setF k Fld.LG_EXP_STAT_RESULT (if ok then 2 else 3)).setF k Fld.LG_EXP_STAT_COUNT n).setF k Fld.LG_EXP_STAT_BYTES o
    let s := { s with ledger := { s.ledger with exporting := none } }
    .next ((s.setF Reg.LG_STAT Fld.LG_STAT_EXPORTING 0).irqRaise 0x11 8#64).settle

/-- A write of LG_WIND (R324). -/
def State.wrWind (s : State) (v : Word) : State :=
  if (s.rd Reg.LG_SEQ_EXP).toNat < v.toNat then s.denyAt Reg.LG_WIND else
  if v.toNat ≤ (s.rd Reg.LG_WIND).toNat then s else
  ({ s with ledger := { s.ledger with records := s.ledger.records.filter (fun r => decide (v.toNat < r.seq.toNat)) } }.wr Reg.LG_WIND v).updLedger

/-- A write of LG_CTL by W: FORMAT discards every record held (R327). -/
def State.wrFormat (s : State) (v : Word) : State :=
  if bitN v 0 = false then s else
  let n := s.ledger.records.length
  ({ s with ledger := { s.ledger with records := [], genesis := true } }.addF Reg.LG_LOSS Fld.LG_LOSS_COUNT n).updLedger

/-! ### Energy and bands (R312, R313) -/


/-- What each key used of an island in `ns` of an interval, from the use `u` of its point in that time, and the total that its
energy is shared over (R312). -/
def State.islandUse (s : State) (i ns : Nat) (u : List KeyUse) : List (Nat × Nat × Nat) × Nat :=
  let use := fun (f : List Nat → Nat) => (u.map (fun k => (k.cid, k.tag, f k.m))).filter (fun e => decide (e.2.2 ≠ 0))
  let tot := fun (l : List (Nat × Nat × Nat)) => l.foldl (fun a e => a + e.2.2) 0
  if i < 96 then
    let l := use (fun m => m.getD 1 0)
    let cores := ((clusterCores i).filter (fun c => !(s.core c).retired)).length
    (l, max (tot l) (cores * ns))
  else if 104 ≤ i ∧ i < 120 then let l := use (fun m => m.getD 3 0 + m.getD 4 0); (l, tot l)
  else if 120 ≤ i ∧ i < 124 then let l := use (fun m => m.getD 7 0); (l, tot l)
  else if 124 ≤ i ∧ i < 130 then let l := use (fun m => m.getD 5 0 + m.getD 6 0); (l, tot l)
  else ([], 0)

/-- Whether keys share an island's energy. -/
def hasKeys (i : Nat) : Bool := decide (i < 96) || decide (104 ≤ i) && decide (i < 130)

/-- The point whose interval an island's energy is shared by. -/
def islandPoint (i : Nat) : Nat :=
  if i < 96 then ptCluster i else if i < 120 then ptDmc (i - 104) else if i < 124 then ptPcie (i - 120) else ptFab (i - 124)

/-- An energy shared in a span among the keys of a list: each share is rounded down; the rest goes to ENERGY_UNATTR. -/
def Span.shareEnergy (p : Span) (others uj : Nat) (l : List (Nat × Nat × Nat)) (total : Nat) : Span :=
  let shares := (l.map (fun e => (e.1, e.2.1, if total = 0 then 0 else uj * e.2.2 / total))).filter (fun e => decide (e.2.2 ≠ 0))
  let p := p.addKeys others (shares.map (fun e => ⟨e.1, e.2.1, metersAdd (List.replicate 8 0) 2 e.2.2⟩))
  { p with energyUn := stick meterTop (p.energyUn + (uj - shares.foldl (fun a e => a + e.2.2) 0)) }

/-- The interval of energy, in ns. -/
def energyNs : Nat := 100000

/-- The part of the interval that ends now which lies before the strike of the span that is closing, in ns (R312). -/
def State.beforeStrike (s : State) : Nat :=
  match s.ledger.closing with
  | some c => if s.ledger.closed then 0 else energyNs - min energyNs (s.now - c.tbEnd.toNat)
  | none => 0

/-- The energy of an island's interval shared: the part before a strike in the closing span, the rest in the open one; the
energy of the interval is taken as even over its time (log 169). -/
def State.shareInterval (s : State) (i uj : Nat) : State :=
  let q := s.meterPt (islandPoint i)
  let b := s.beforeStrike
  if b = 0 then
    let (l, total) := s.islandUse i energyNs (q.intvOld ++ q.intv)
    s.modOpen (fun p => p.shareEnergy s.closingKeys uj l total)
  else
    let x := uj * b / energyNs
    let (l, total) := s.islandUse i b q.intvOld
    let s := { s with ledger := { s.ledger with closing := s.ledger.closing.map (fun (p : Span) => p.shareEnergy s.ledger.openSpan.keys.length x l total) } }
    let (l, total) := s.islandUse i (energyNs - b) q.intv
    s.modOpen (fun p => p.shareEnergy s.closingKeys (uj - x) l total)

/-- ENERGY_APPORTION (R312): each share is rounded down; the rest goes to ENERGY_UNATTR. -/
def execEnergyApportion (island : Fin 136) (uj : Nat) (s : State) : Outcome State Fault Refusal :=
  if s.ledger.metering = false then .next s else
  let i := island.val
  let s := if i < 96 then foldN (fun c s => if (s.core c).task.isSome then s.settleUse c else s) (clusterCores i) s else s
  let s := (s.shareInterval i uj).updLive
  let q := s.meterPt (islandPoint i)
  .next (if hasKeys i then { s with meters := smPut (fun _ => {}) s.meters (islandPoint i) { q with intv := [], intvOld := [] } } else s)

/-- The bands that a compartment owns. -/
def State.bandsOf (s : State) (c : Nat) : Nat := ((natsFrom 0 64).filter (s.ownsBand c)).length

/-- The millisecond boundary `t` counted, once (R313). -/
def State.countBands (s : State) (t : Nat) : State :=
  if s.ledger.metering = false ∨ s.ledger.msDone = some t then s else
  let s := s.modOpen (fun p => { p with bandMs := (natsFrom 0 64).map (fun c => stick meterTop (p.bandMs.getD c 0 + s.bandsOf c)) })
  { s with ledger := { s.ledger with msDone := some t } }

/-- BAND_MS_TICK (R313): at a millisecond boundary of the timebase. -/
def execBandMsTick (s : State) : Outcome State Fault Refusal :=
  .next (if s.now % 1000000 ≠ 0 then s else s.countBands s.now)

/-- The timebase slewed from `old` to `new`: a boundary that it passes in between is not missed, neither a minute's strike
(R316) nor a millisecond's count (R313). -/
def State.ledgerSlew (s : State) (old new : Word) : State :=
  let last := new.toNat - 1
  let t := last / minuteNs * minuteNs
  let s := if s.ledger.metering ∧ s.ledger.closing.isNone ∧ old.toNat < t then s.strike (BitVec.ofNat 64 t) else s
  let m := last / 1000000 * 1000000
  if old.toNat < m then s.countBands m else s

/-! ### MRAM errors (R461) -/

/-- MRAM_UNCORRECTABLE (R461). -/
def execMramUncorrectable (m : MramContent) (s : State) : Outcome State Fault Refusal :=
  match m with
  | .record q =>
    .next { s with ledger := { s.ledger with records := s.ledger.records.map (fun r => if r.seq = q then { r with bad := true } else r) } }
  | .checkpoint => .next { s with ledger := { s.ledger with checkpoint := none, nextPartial := true } }
  | .wardenImage b => .next { s with boot := { s.boot with wimg := s.boot.wimg.filter (fun e => decide (e.1 ≠ b2n b)) } }
  | .indexImage b => .next { s with boot := { s.boot with ifw := s.boot.ifw.filter (fun e => decide (e.1 ≠ b2n b)) } }
  | .antiRollback k =>
    .next { s.setF (Reg.RST_ARB k.val) Fld.RST_ARB_MIN 0xFFFFFFFF with boot := { s.boot with arbBad := k.val :: s.boot.arbBad.filter (· ≠ k.val) } }

end Sys2Proof.Machine
end

