-- ==== Sys2Proof/Machine/Walk.lean ====
section
/-! DEFINITION. The table walk (chapter 7), shared by the cores, the IOMMU and the DMA engines: entry formats, page sizes,
memory types, and the two-stage walk with the place where each failure is found. -/

namespace Sys2Proof.Machine

/-! ### Memory types (R162, R168) -/

/-- The fixed type of a physical address; none for an address of no type (R162). -/
def State.fixedType (s : State) (pa : Nat) : Option MemType :=
  if s.inDram pa then some .wb
  else if 0x8000000000000 ≤ pa ∧ pa < 0x8400000000000 then some .devPosted
  else if 0xFF00000000000 ≤ pa ∧ pa < 0xFF00010000000 then some .devStrict
  else none

/-- The strength of a type. -/
def MemType.rank : MemType → Nat
  | .wb => 0
  | .nc => 1
  | .devPosted => 2
  | .devStrict => 3

/-- The stronger of two types (R168). -/
def MemType.strongest (a b : MemType) : MemType := if a.rank ≤ b.rank then b else a

/-- The type that an MT field encodes (R168). -/
def mtOfCode (n : Nat) : MemType := if n = 0 then .wb else if n = 1 then .nc else if n = 2 then .devPosted else .devStrict

/-- Whether a type is a device type. -/
def MemType.device (m : MemType) : Bool := decide (2 ≤ m.rank)

/-! ### Entries (R160, R163 to R166) -/

/-- The slot span of a level, as its log2. -/
def spanLog (lvl : Nat) : Nat := 12 + 9 * (4 - lvl)

/-- Fields of an entry. -/
def eV (e : Word) : Bool := bitN e 0
def eTbl (e : Word) : Bool := bitN e 1
def eR (e : Word) : Bool := bitN e 2
def eW (e : Word) : Bool := bitN e 3
def eX (e : Word) : Bool := bitN e 4
def eU (e : Word) : Bool := bitN e 5
def eG (e : Word) : Bool := bitN e 8
def eA (e : Word) : Bool := bitN e 9
def eD (e : Word) : Bool := bitN e 10
def eMT (e : Word) : MemType := mtOfCode (fieldN e 6 2)
def eSZ (e : Word) : Nat := fieldN e 52 6
def eNext (e : Word) : Nat := fieldN e 12 40 * 4096

/-- Whether an entry has the reserved encodings of R165. -/
def eReserved (stage2 : Bool) (lvl : Nat) (e : Word) : Bool :=
  if eTbl e then decide (fieldN e 2 10 ≠ 0) || decide (fieldN e 52 6 ≠ 0) || decide (lvl = 4)
  else bitN e 11 || (stage2 && (bitN e 5 || bitN e 8)) || (eW e && !eR e)

/-- Whether the SZ of a leaf lies in the range of its stage and level (R160). -/
def eSizeOk (stage2 : Bool) (lvl sz : Nat) : Bool :=
  decide (spanLog lvl ≤ sz) && decide (sz ≤ (if stage2 ∧ lvl = 0 then 52 else spanLog lvl + 8))

/-- The output address of a leaf: OA[51:SZ] joined to the input bits below SZ; none where input bits above bit 51 are
not 0 (R166). -/
def eOutput (e : Word) (inp : Nat) : Option Nat :=
  let sz := eSZ e
  let o := fieldN e 12 40 * 4096 / 2 ^ sz * 2 ^ sz + inp % 2 ^ sz
  if o < 2 ^ 52 then some o else none

/-- What reading an entry finds: the TYPE of a translation fault (R165, R166), the next table, or a leaf's output. -/
inductive EntryRes where
  | fault (typ : Nat)
  | table (next : Nat)
  | leaf (out : Nat)
  deriving DecidableEq, Repr

/-- An entry checked as R165 and R166 state. -/
def entryRes (stage2 : Bool) (lvl : Nat) (e : Word) (inp : Nat) : EntryRes :=
  if eV e = false then .fault 0
  else if eReserved stage2 lvl e then .fault 1
  else if eTbl e then .table (eNext e)
  else if eSizeOk stage2 lvl (eSZ e) = false then .fault 2
  else match eOutput e inp with
    | none => .fault 3
    | some o => .leaf o

/-- The index of an address at a level of a stage (R160). -/
def walkIndex (stage2 : Bool) (lvl inp : Nat) : Nat :=
  inp / 2 ^ spanLog lvl % (if stage2 ∧ lvl = 0 then 16 else 512)

/-! ### The walk (R173) -/

/-- How a read of an entry failed: a color refusal, an error response, or poison. -/
inductive RdFail where
  | color | resp | poison
  deriving DecidableEq, Repr

/-- What a walk found: a leaf, with its level and output. -/
structure Leaf where
  e : Word
  lvl : Nat
  out : Nat
  deriving DecidableEq, Repr

/-- What a walk read on its way, for the TLBs: table entries, and stage-2 translations of stage-1 table pages. -/
inductive Seen where
  | entry (stage lvl addr : Nat) (e : Word)
  | page (ipa : Nat) (l : Leaf)
  deriving DecidableEq, Repr

/-- A failure of a walk: the cause's low part by kind, the TYPE of FSYN, and where it was found (R175). `k` marks a failure
taken at K although stage 2 is enabled. -/
inductive WKind where
  | trans (typ : Nat)
  | perm | aClear | dClear
  | device | data | color
  deriving DecidableEq, Repr

structure WErr where
  kind : WKind
  stg2 : Bool
  s1ptw : Bool
  lvl : Nat
  ipa : Nat
  deriving DecidableEq, Repr

/-- The environment of a walk: the entries and pages that a TLB already holds, the read of an entry at a physical
address, the roots. -/
structure Walker where
  cached : State → Nat → Nat → State × Option Word
  page : State → Nat → State × Option Leaf
  read : State → Nat → MemType → State × Except RdFail Word
  s2 : Bool
  root1 : Nat
  root2 : Nat

/-- An entry at a physical address read: no read is issued to a device, whichever gives that type; an address of no type fails. -/
def State.walkRead (s : State) (w : Walker) (pa : Nat) (mt : MemType) : State × Except (WKind × Bool) Word :=
  if mt.device then (s, .error (.device, false)) else
  match s.fixedType pa with
  | none => (s, .error (.data, false))
  | some f =>
    if (mt.strongest f).device then (s, .error (.device, false)) else
    match w.read s pa (mt.strongest f) with
    | (s, .error .color) => (s, .error (.color, false))
    | (s, .error .resp) => (s, .error (.data, false))
    | (s, .error .poison) => (s, .error (.data, true))
    | (s, .ok e) => (s, .ok e)

/-- The stage-2 walk from level `lvl` on, with `n` levels left. -/
def State.walk2 (w : Walker) (ipa : Nat) : Nat → State → Nat → Nat → List Seen → State × Except WErr (Leaf × List Seen)
  | 0, s, lvl, _, _ => (s, .error ⟨.trans 1, true, false, lvl, ipa⟩)
  | n + 1, s, lvl, t, seen =>
    let ea := t + 8 * walkIndex true lvl ipa
    let fail := fun (k : WKind) => (⟨k, true, false, lvl, ipa⟩ : WErr)
    let (s, c) := w.cached s 2 ea
    let (s, r) : State × Except (WKind × Bool) Word := match c with
      | some e => (s, .ok e)
      | none => s.walkRead w ea .wb
    match r with
    | .error (k, _) => (s, .error (fail k))
    | .ok e =>
      match entryRes true lvl e ipa with
      | .fault typ => (s, .error (fail (.trans typ)))
      | .table nx => State.walk2 w ipa n s (lvl + 1) nx (seen ++ [.entry 2 lvl ea e])
      | .leaf o => (s, .ok (⟨e, lvl, o⟩, seen))

/-- The stage-2 translation of a stage-1 table address (R169, R170, R175): R and A are checked, D is not.
Every fault of it has S1PTW = 1, those of a read of a stage-2 table (0x1C, 0x1E) among them, where the table of R175 and the
text of FSYN.S1PTW differ (DESIGN CHOICE, log 167). -/
def State.tablePage (s : State) (w : Walker) (ipa : Nat) (seen : List Seen) : State × Except WErr (Leaf × List Seen) :=
  let (s, c) := w.page s ipa
  let (s, r) : State × Except WErr (Leaf × List Seen) := match c with
    | some l => (s, .ok (l, seen))
    | none => match State.walk2 w ipa 5 s 0 w.root2 seen with
      | (s, .ok (l, seen)) => (s, .ok (l, seen ++ [.page ipa l]))
      | (s, .error e) => (s, .error e)
  match r with
  | .error e => (s, .error { e with s1ptw := true, ipa := ipa })
  | .ok (l, seen) =>
    if eR l.e = false then (s, .error ⟨.perm, true, true, l.lvl, ipa⟩)
    else if eA l.e = false then (s, .error ⟨.aClear, true, true, l.lvl, ipa⟩)
    else (s, .ok (l, seen))

/-- A stage-1 entry read through stage 2 where it is on. A failure inside stage 2 is reported there (R175). -/
def State.read1 (s : State) (w : Walker) (lvl ea : Nat) (seen : List Seen) : State × Except WErr (Word × List Seen) :=
  if w.s2 = false then
    match s.walkRead w ea .wb with
    | (s, .error (k, _)) => (s, .error ⟨k, false, false, lvl, 0⟩)
    | (s, .ok e) => (s, .ok (e, seen))
  else
    match s.tablePage w ea seen with
    | (s, .error e) => (s, .error e)
    | (s, .ok (l, seen)) =>
      match s.walkRead w l.out (eMT l.e) with
      | (s, .error (k, true)) => (s, .error ⟨k, false, false, lvl, 0⟩)
      | (s, .error (k, false)) => (s, .error ⟨k, true, true, l.lvl, ea⟩)
      | (s, .ok e) => (s, .ok (e, seen))

/-- The stage-1 walk from level `lvl` on, with `n` levels left. -/
def State.walk1 (w : Walker) (va : Nat) : Nat → State → Nat → Nat → List Seen → State × Except WErr (Leaf × List Seen)
  | 0, s, lvl, _, _ => (s, .error ⟨.trans 1, false, false, lvl, 0⟩)
  | n + 1, s, lvl, t, seen =>
    let ea := t + 8 * walkIndex false lvl va
    let fail := fun (k : WKind) => (⟨k, false, false, lvl, 0⟩ : WErr)
    let (s, c) := w.cached s 1 ea
    let (s, r) : State × Except WErr (Word × List Seen) := match c with
      | some e => (s, .ok (e, seen))
      | none => s.read1 w lvl ea seen
    match r with
    | .error e => (s, .error e)
    | .ok (e, seen) =>
      match entryRes false lvl e va with
      | .fault typ => (s, .error (fail (.trans typ)))
      | .table nx => State.walk1 w va n s (lvl + 1) nx (seen ++ [.entry 1 lvl ea e])
      | .leaf o => (s, .ok (⟨e, lvl, o⟩, seen))

/-- The checks of a leaf in the order of R169: permission, device type, A, D. -/
def leafCheck (l : Leaf) (perm device wr stg2 : Bool) (ipa : Nat) : Option WErr :=
  let f := fun (k : WKind) => some (⟨k, stg2, false, l.lvl, ipa⟩ : WErr)
  if perm = false then f .perm
  else if device then f .perm
  else if eA l.e = false then f .aClear
  else if wr ∧ eD l.e = false then f .dClear
  else none

/-- TYPE of FSYN for a failure (R177's map). -/
def WKind.typ : WKind → Nat
  | .trans t => t
  | .perm => 4
  | .aClear => 5
  | .dClear => 6
  | .device => 7
  | .data => 8
  | .color => 9

end Sys2Proof.Machine
end

