-- ==== Sys2Proof/Machine/Pcie.lean ====
section
/-! DEFINITION. PCIe ports and the IOMMU (chapter 15): requester binding, translation and refusals of device requests, ATS
and page requests, invalidation, MSI, GPIO edges, partner violations, containment and link training. -/

namespace Sys2Proof.Machine

open Host

/-! ### Ports, links, entries -/

/-- The page of a port, and of its IOMMU. -/
def pagePCIE (p : Nat) : Nat := 0x24 + p
def pageIOM (p : Nat) : Nat := 0x28 + p

/-- The state of a link: 0 down, 1 up, 2 held down by DPC (R380). -/
def State.link (s : State) (p l : Nat) : Nat := smGet (fun _ => 0) s.io.links (p * 4 + l)

/-- A link's state set. -/
def State.setLink (s : State) (p l v : Nat) : State :=
  { s with io := { s.io with links := smPut (fun _ => 0) s.io.links (p * 4 + l) v } }

/-- Whether some link of a port is up. -/
def State.portUp (s : State) (p : Nat) : Bool := (natsFrom 0 4).any (fun l => decide (s.link p l = 1))

/-- The links a port has, by PCIE_CFG.BIF as its last reset took it (R354, R355). -/
def State.linkCount (s : State) (p : Nat) : Nat := smGet (fun _ => 0) s.io.bifNow p + 1

/-- An error noted in the AER capability of a root port: bit `n` of its uncorrectable or correctable status (log 18). -/
def State.aerSet (s : State) (p l : Nat) (cor : Bool) (n : Nat) : State :=
  let k := (p * 4 + l) * 2 + b2n cor
  { s with io := { s.io with aer := smPut (fun _ => 0) s.io.aer k (smGet (fun _ => 0) s.io.aer k ||| 2 ^ n) } }

/-- An error noted on the link that a request came by, which no operand names: an open choice. -/
def State.aerOpen (s : State) (p : Nat) (cor : Bool) (n : Nat) : State :=
  let (w, s) := s.openWord
  s.aerSet p (w.toNat % s.linkCount p) cor n

/-- AER status bits (log 18). -/
def aerPoisoned : Nat := 12
def aerTimeout : Nat := 14
def aerAbort : Nat := 15
def aerUnexpected : Nat := 16
def aerMalformed : Nat := 18
def aerUR : Nat := 20
def aerACS : Nat := 21
def aerIDE : Nat := 28
def aerAdvisory : Nat := 13

/-- An error logged whose severity the manual does not give: the severity is an open value. -/
def State.logErrSevOpen (s : State) (page : Nat) (addr info : Word) : State :=
  let (w, s) := s.openWord
  s.logErr page (w.toNat % 5) addr info

/-- The entry that a requester ID is bound to on a port: the lowest that matches (R359). -/
def State.bindRid (s : State) (p rid : Nat) : Option Nat :=
  (natsFrom 0 64).find? (fun i =>
    let k := Reg.IOM_RTE p i
    s.isF k Fld.IOM_RTE_EN && decide ((rid ^^^ s.getF k Fld.IOM_RTE_RID) &&& s.getF k Fld.IOM_RTE_MASK = 0))

/-- The attribute, compartment and tag of an entry. -/
def State.rteAttr (s : State) (p i : Nat) : Nat := s.getF (Reg.IOM_RTE p i) Fld.IOM_RTE_ATTR
def State.rteCid (s : State) (p i : Nat) : Nat := s.rteAttr p i % 64
def State.rteTag (s : State) (p i : Nat) : Nat := s.getF (Reg.IOM_RTE p i) Fld.IOM_RTE_TAG

/-- An entry's requests as requests to memory: in the slots of its compartment, charged to its key (R359, R361). -/
def State.ioReq (s : State) (p i : Nat) : Req :=
  { cid := s.rteCid p i, die := 8 + p / 2, hub := some (p / 2), key := some (s.rteCid p i, s.rteTag p i), src := 5 }

/-- Payload bytes charged in DMA_B to an entry's key, and to the port's interval (R361, R312). -/
def State.chargePort (s : State) (p i n : Nat) : State :=
  if n = 0 ∨ s.ledger.metering = false then s else
  let (c, t) := (s.rteCid p i, s.rteTag p i)
  (s.chargeOpen c t 7 n).countPort p (some (c, t)) n

/-! ### Translation (R362) -/

/-- An entry of a table read by the IOMMU or a DMA engine. -/
def ioRead (r : Req) (s : State) (pa : Nat) (mt : MemType) : State × Except RdFail Word :=
  let (s, x) := match mt with
    | .nc => s.ncRead r (pa / 64)
    | _ => s.dmaRead r (pa / 64)
  match x with
  | .error .color => (s, .error .color)
  | .error .resp => (s, .error .resp)
  | .ok (_, true) => (s, .error .poison)
  | .ok (d, false) => (s, .ok (BitVec.ofNat 64 (d.toNat >>> (8 * (pa % 64 / 8 * 8)))))

/-- A walk that holds nothing cached. -/
def ioWalker (r : Req) (s2 : Bool) (root1 root2 : Nat) : Walker :=
  { cached := fun s _ _ => (s, none), page := fun s _ => (s, none), read := ioRead r, s2 := s2, root1 := root1, root2 := root2 }

/-- A translation's result: the address, its type, the page size, the IPA, and whether reads, writes and marks allow each. -/
structure IoXlat where
  pa : Nat
  mt : MemType
  size : Nat
  ipa : Nat
  r : Bool
  w : Bool
  d1 : Bool
  d2 : Bool
  deriving DecidableEq, Repr

/-- Whether a leaf allows a device's access: U, X and G are ignored (R362). -/
def ioPerm (e : Word) (wr : Bool) : Bool := if wr then eW e else eR e

/-- The stage-2 part of a device's translation, or of a DMA engine's: the address, its type and the leaf. -/
def State.ioStage2 (s : State) (w : Walker) (ipa : Nat) (wr : Bool) (mt : MemType) : State × Except WErr (Nat × MemType × Option Leaf) :=
  if w.s2 = false then (s, .ok (ipa, mt, none)) else
  match State.walk2 w ipa 5 s 0 w.root2 [] with
  | (s, .error e) => (s, .error e)
  | (s, .ok (l, _)) =>
    let t := mt.strongest (eMT l.e)
    let f : MemType := match s.fixedType l.out with | some f => f | none => .wb
    match leafCheck l (ioPerm l.e wr) (t.strongest f).device wr true ipa with
    | some e => (s, .error e)
    | none => (s, .ok (l.out, t.strongest f, some l))

/-- The device type of a final address, where only stage 1 or no stage is on, and the absence of a type (R162, R358). -/
def State.ioType (s : State) (pa : Nat) (mt : MemType) : Except Nat MemType :=
  match s.fixedType pa with
  | none => .error 10
  | some f => if (mt.strongest f).device then .error 4 else .ok (mt.strongest f)

/-- A failure as the log and the event give it: TYPE, LVL, STG, S1PTW. -/
structure IoFail where
  typ : Nat
  lvl : Nat := 0
  stg : Bool := false
  s1ptw : Bool := false
  deriving DecidableEq, Repr

/-- A walk's failure as an IoFail. -/
def ioFailOf (e : WErr) : IoFail := ⟨e.kind.typ, e.lvl, e.stg2, e.s1ptw⟩

/-- The words of IOM_S1_i and IOM_S2_i that a request's translation uses: after a write and before IOM_INV both old ones or
both new ones, an open choice (R366). -/
def State.ioRoots (s : State) (p i iova : Nat) : State × Word × Word :=
  let k1 := Reg.IOM_S1 p i
  let k2 := Reg.IOM_S2 p i
  if s.forced k1 = s.rd k1 ∧ s.forced k2 = s.rd k2 then (s, s.rd k1, s.rd k2)
  else if Config.tlbUse s.free iova then (s.tick, s.forced k1, s.forced k2)
  else (s.tick, s.rd k1, s.rd k2)

/-- The translation of an untranslated request of entry `i` of port `p` (R362). -/
def State.ioTranslate (s : State) (p i iova : Nat) (wr : Bool) : State × Except IoFail IoXlat :=
  let (s, r1, r2) := s.ioRoots p i iova
  let en1 := bitN r1 Fld.IOM_S1_EN.lo
  let en2 := bitN r2 Fld.IOM_S2_EN.lo
  let w := ioWalker (s.ioReq p i) en2 (fieldN r1 Fld.IOM_S1_BASE.lo Fld.IOM_S1_BASE.w * 4096)
    (fieldN r2 Fld.IOM_S2_BASE.lo Fld.IOM_S2_BASE.w * 128)
  let canon := decide (iova < 2 ^ 56 ∨ 2 ^ 64 - 2 ^ 56 ≤ iova)
  if en1 then
    if canon = false then (s, .error ⟨3, 0, false, false⟩) else
    match State.walk1 w iova 5 s 0 w.root1 [] with
    | (s, .error e) => (s, .error (ioFailOf e))
    | (s, .ok (l, _)) =>
      let dev : Bool := !en2 && (match s.ioType l.out (eMT l.e) with | .error 4 => true | _ => false)
      match leafCheck l (ioPerm l.e wr) dev wr false 0 with
      | some e => (s, .error (ioFailOf e))
      | none =>
        match s.ioStage2 w l.out wr (eMT l.e) with
        | (s, .error e) => (s, .error (ioFailOf e))
        | (s, .ok (pa, mt, l2)) =>
          match s.ioType pa mt with
          | .error t => (s, .error ⟨t, 0, en2, false⟩)
          | .ok mt =>
            let sz := match l2 with | some x => min (eSZ l.e) (eSZ x.e) | none => eSZ l.e
            let e2 : Word := match l2 with | some x => x.e | none => 0xFFFFFFFFFFFFFFFF#64
            (s, .ok ⟨pa, mt, 2 ^ sz, l.out, eR l.e && eR e2, eW l.e && eW e2, eD l.e, eD e2⟩)
  else if 2 ^ 52 ≤ iova then (s, .error ⟨3, 0, false, false⟩)
  else
    match s.ioStage2 w iova wr .wb with
    | (s, .error e) => (s, .error (ioFailOf e))
    | (s, .ok (pa, mt, l2)) =>
      match s.ioType pa mt with
      | .error t => (s, .error ⟨t, 0, en2, false⟩)
      | .ok mt =>
        match l2 with
        | some x => (s, .ok ⟨pa, mt, 2 ^ eSZ x.e, iova, eR x.e, eW x.e, true, eD x.e⟩)
        | none => (s, .ok ⟨pa, mt, 4096, iova, true, true, true, true⟩)

/-- A translation kept in the port's IOTLB of 1,024 entries; where neither stage is on nothing is kept. -/
def State.ioFill (s : State) (p i iova : Nat) (x : IoXlat) : State :=
  if s.isF (Reg.IOM_S1 p i) Fld.IOM_S1_EN = false ∧ s.isF (Reg.IOM_S2 p i) Fld.IOM_S2_EN = false then s else
  let e : IoTlb := ⟨p, i, iova / x.size * x.size, x.ipa / x.size * x.size, x.pa / x.size * x.size, x.size, x.r, x.w, x.d1, x.d2, x.mt⟩
  let mine := s.io.iotlb.filter (fun t => decide (t.port = p))
  let old := if mine.length < 1024 then s.io.iotlb else s.io.iotlb.erase (mine.getD 0 e)
  { s with io := { s.io with iotlb := old.filter (fun t => decide (t ≠ e)) ++ [e] } }

/-- The final address of an untranslated access: from the IOTLB where an entry allows it and is still used, otherwise by a
walk (R362, R366). -/
def State.ioAddr (s : State) (p i iova : Nat) (wr : Bool) : State × Except IoFail (Nat × MemType) :=
  let use := Config.tlbUse s.free iova
  match s.io.iotlb.find? (fun t => decide (t.port = p ∧ t.ent = i ∧ t.iova ≤ iova ∧ iova < t.iova + t.size)) with
  | some t =>
    let s := s.tick
    if use ∧ (if wr then t.w && t.d1 && t.d2 else t.r) = true then (s, .ok (t.pa + iova % t.size, t.mt)) else
    match s.ioTranslate p i iova wr with
    | (s, .error e) => (s, .error e)
    | (s, .ok x) => (s.ioFill p i iova x, .ok (x.pa, x.mt))
  | none =>
    match s.ioTranslate p i iova wr with
    | (s, .error e) => (s, .error e)
    | (s, .ok x) => (s.ioFill p i iova x, .ok (x.pa, x.mt))

/-! ### Refusals (R363) -/

/-- Bits [11:0] of the class-3 message data (R376). -/
def IoFail.detail (e : IoFail) (wr : Bool) : Nat :=
  e.typ * 256 + e.lvl * 32 + b2n e.stg * 16 + b2n e.s1ptw * 8 + b2n wr * 4

/-- A request of entry `i` refused: the IOM log, and a class-3 event where faults are sent (R363). -/
def State.ioRefuse (s : State) (p i rid iova : Nat) (wr : Bool) (e : IoFail) : State :=
  let d := e.detail wr
  let s := s.logErrSevOpen (pageIOM p) (BitVec.ofNat 64 iova) (BitVec.ofNat 64 (rid + i * 2 ^ 16 + d * 2 ^ 22))
  let k := Reg.IOM_VEC p i
  if s.isF k Fld.IOM_VEC_FEN then
    s.raise ⟨s.getF k Fld.IOM_VEC_FVEC, s.rteAttr p i % 128, 3, rid, p, BitVec.ofNat 64 (iova / 4096 * 4096 + d)⟩
  else s

/-- An Unsupported Request noted under AER. -/
def State.unsupported (s : State) (p : Nat) : State := s.aerOpen p false aerUR

/-! ### Device requests (R359 to R364) -/

/-- A line's part of an access: lines from `pa` on, the bytes of each. `left` bytes are still to be moved. -/
def State.ioMove (s : State) (r : Req) (pa : Nat) (wr poison : Bool) : List Byte → Nat → Nat → State × Option MErr
  | _, 0, _ => (s, none)
  | _, _, 0 => (s, none)
  | data, left + 1, fuel + 1 =>
    let o := pa % 64
    let n := min (64 - o) (left + 1)
    let (s, e) : State × Option MErr :=
      if wr then s.dmaWrite r (pa / 64) (BitVec.ofNat 512 (bytesToNat (data.take n) <<< (8 * o))) (maskBytes o n) poison
      else match s.dmaRead r (pa / 64) with
        | (s, .error e) => (s, some e)
        | (s, .ok _) => (s, none)
    match e with
    | some e => (s, some e)
    | none => s.ioMove r (pa + n) wr poison (data.drop n) (left + 1 - n) fuel

/-- The access of a request whose final address is known: refused on a color violation with the report of R363. -/
def State.ioAccess (s : State) (p i rid addr pa : Nat) (wr poison : Bool) (data : List Byte) (len : Nat) : State :=
  match s.ioMove (s.ioReq p i) pa wr poison data len (len / 64 + 2) with
  | (s, some .color) => s.ioRefuse p i rid addr wr ⟨9, 0, s.isF (Reg.IOM_S2 p i) Fld.IOM_S2_EN, false⟩
  | (s, some .resp) => s
  | (s, none) => if wr then s else s.chargePort p i len

/-- DPC on a link (R380): it is held down. The invalidations that wait for devices of a port with no link left up complete
for them (R381, log 19). -/
def State.dpc (s : State) (p l : Nat) : State :=
  let s := s.setLink p l 2
  if s.portUp p then s else { s with io := { s.io with atsWait := s.io.atsWait.filter (fun e => decide (e.1 ≠ p)) } }

/-- An MSI: its vector on the router of the port's die (R374, R376). -/
def State.msi (s : State) (p i rid : Nat) (data : Nat) : State :=
  s.raise ⟨p / 2 * 4096 + data % 4096, s.rteAttr p i % 128, 0, rid, p, BitVec.ofNat 64 data⟩

/-- Whether an address lies in a port's MSI range. -/
def State.inMsi (s : State) (p addr : Nat) : Bool := decide (addr / 2 ^ 20 = s.getF (Reg.PCIE_MSI p) Fld.PCIE_MSI_BASE)

/-- A device request at port `p`, of at most 512 bytes of payload and within 4 KiB; any other is malformed (R354). -/
def State.inbound (s : State) (p rid : Nat) (k : TlpKind) (addr : Nat) (data : List Byte) (len : Nat) (poison : Bool) : State :=
  let wr : Bool := match k with | .memWrite => true | .translatedWrite => true | _ => false
  let n := if wr then data.length else len
  if (wr ∧ 512 < n) ∨ 4096 < addr % 4096 + n then
    let (w, s) := s.openWord
    let l := w.toNat % s.linkCount p
    (s.aerSet p l false aerMalformed).dpc p l
  else
  match s.bindRid p rid with
  | none => s.unsupported p
  | some i =>
    let s := if wr then s.chargePort p i n else s
    match k with
    | .memRead =>
      match s.ioAddr p i addr false with
      | (s, .error e) => s.ioRefuse p i rid addr false e
      | (s, .ok (pa, _)) => s.ioAccess p i rid addr pa false false [] n
    | .memWrite =>
      if n = 4 ∧ s.inMsi p addr then s.msi p i rid (bytesToNat data) else
      match s.ioAddr p i addr true with
      | (s, .error e) => s.ioRefuse p i rid addr true e
      | (s, .ok (pa, _)) => s.ioAccess p i rid addr pa true poison data n
    | _ =>
      if s.isF (Reg.IOM_RTE p i) Fld.IOM_RTE_ATS = false then s.unsupported p else
      match s.ioType addr .wb with
      | .error t => s.ioRefuse p i rid addr wr ⟨t, 0, false, false⟩
      | .ok _ => s.ioAccess p i rid addr addr wr poison data n

/-- INBOUND_REQUEST (R359 to R364). -/
def execInboundRequest (p : Fin 4) (rid : BitVec 16) (k : TlpKind) (addr : Word) (data : List Byte) (len : Fin 4097) (s : State) :
    Outcome State Fault Refusal :=
  .next (s.inbound p.val rid.toNat k addr.toNat data len.val false).settle

/-- POISONED_WRITE_RECEIVED (R379): advisory, and stored with poison. -/
def execPoisonedWriteReceived (p : Fin 4) (rid : BitVec 16) (addr : Word) (data : List Byte) (s : State) :
    Outcome State Fault Refusal :=
  let s := (s.aerOpen p.val false aerPoisoned).aerOpen p.val true aerAdvisory
  .next (s.inbound p.val rid.toNat .memWrite addr.toNat data 0 true).settle

/-- IOMMU_WALK (R362): a walk that succeeds fills the IOTLB. -/
def execIommuWalk (p : Fin 4) (rid : BitVec 16) (iova : Word) (wr : Bool) (s : State) : Outcome State Fault Refusal :=
  match s.bindRid p.val rid.toNat with
  | none => .next s
  | some i =>
    match s.ioTranslate p.val i iova.toNat wr with
    | (s, .error _) => .next s.settle
    | (s, .ok x) => .next (s.ioFill p.val i iova.toNat x).settle

/-- ATS_TRANSLATION_REQUEST (R364): a walk that would fault answers no access and is not logged. From an entry with ATS = 0
it is an Unsupported Request. -/
def execAtsTranslationRequest (p : Fin 4) (rid : BitVec 16) (iova : Word) (s : State) : Outcome State Fault Refusal :=
  match s.bindRid p.val rid.toNat with
  | none => .next (s.unsupported p.val)
  | some i =>
    if s.isF (Reg.IOM_RTE p.val i) Fld.IOM_RTE_ATS = false then .next (s.unsupported p.val) else
    match s.ioTranslate p.val i iova.toNat false with
    | (s, .error _) => .next s.settle
    | (s, .ok x) => .next (s.ioFill p.val i iova.toNat x).settle

/-- MSI_WRITE (R374, R375): a 4-byte write from a bound requester to the MSI range goes to the router untranslated. -/
def execMsiWrite (p : Fin 4) (rid : BitVec 16) (addr : Word) (data : BitVec 32) (s : State) : Outcome State Fault Refusal :=
  .next (s.inbound p.val rid.toNat .memWrite addr.toNat (natToBytes 4 data.toNat) 0 false).settle

/-- PAGE_REQUEST (R365): sent as a class-4 event where PRI and PEN allow it, otherwise dropped and logged. -/
def execPageRequest (p : Fin 4) (rid : BitVec 16) (page : Word) (prg : BitVec 9) (last wr rd : Bool) (s : State) :
    Outcome State Fault Refusal :=
  match s.bindRid p.val rid.toNat with
  | none => .next (s.unsupported p.val)
  | some i =>
    let d := BitVec.ofNat 64 (page.toNat / 4096 * 4096 + prg.toNat * 8 + b2n last * 4 + b2n wr * 2 + b2n rd)
    let k := Reg.IOM_VEC p.val i
    if s.isF (Reg.IOM_RTE p.val i) Fld.IOM_RTE_PRI ∧ s.isF k Fld.IOM_VEC_PEN then
      .next (s.raise ⟨s.getF k Fld.IOM_VEC_PVEC, s.rteAttr p.val i % 128, 4, rid.toNat, p.val, d⟩).settle
    else .next (s.logErrSevOpen (pageIOM p.val) page (BitVec.ofNat 64 (rid.toNat + i * 2 ^ 16))).settle

/-! ### Writes of the IOMMU's registers (R360, R365, R366) -/

/-- A write of IOM_RTE_i (R360). -/
def State.wrRte (s : State) (w : Who) (p i : Nat) (v : Word) : State :=
  let k := Reg.IOM_RTE p i
  let old := s.rd k
  let a := fieldN old 32 8
  let b := fieldN v 32 8
  let only63 := (fieldN old 32 6 ≠ 63 && fieldN v 32 6 ≠ 63) || w.wOrBoot
  if s.platHOrW w = false ∨ only63 = false ∨ s.attrMayChange w a b = false then s.denyAt k
  else if bitN old 40 ∧ fieldN old 0 40 ≠ fieldN v 0 40 then s.denyAt k
  else s.putFields k v

/-- A write of IOM_S1_i, IOM_S2_i or IOM_VEC_i: by H of the entry's compartment or by W. The two roots take effect after
IOM_INV (R366). -/
def State.wrIomEntry (s : State) (w : Who) (p i k : Nat) (v : Word) : State :=
  if w.hOrW (s.rteCid p i) = false then s.denyAt k
  else (if k = Reg.IOM_VEC p i then s else s.latch k).putFields k v

/-- Whether an invalidation of `scope` and entry `e` covers an entry `i`. -/
def invEntry (scope e i : Nat) : Bool := decide (scope = 0) || decide (i = e)

/-- A write of IOM_INV (R366): while an invalidation runs only GO is ignored, and the invalidation keeps its own operands. -/
def State.wrIomInv (s : State) (w : Who) (p : Nat) (v : Word) : State :=
  let k := Reg.IOM_INV p
  let scope := fieldN v 0 2
  let e := fieldN v 2 6
  let ok := if scope = 0 then s.platHOrW w else w.hOrW (s.rteCid p e)
  if ok = false then s.denyAt k else
  let busy := decide (s.getF (Reg.IOM_INV_STAT p) Fld.IOM_INV_STAT_STATE = 1)
  if busy then (s.latch k).putFields k v else
  let s := s.putFields k v
  if bitN v 8 = false then s else
  let ats := (natsFrom 0 64).filter (fun i => invEntry scope e i && s.isF (Reg.IOM_RTE p i) Fld.IOM_RTE_ATS && s.portUp p)
  let s := { s with io := { s.io with atsWait := s.io.atsWait.filter (fun (x : Nat × Nat) => decide (x.1 ≠ p)) ++ ats.map (fun i => (p, i)) } }
  s.setF (Reg.IOM_INV_STAT p) Fld.IOM_INV_STAT_STATE 1

/-- The IOTLB entries that a port's invalidation covers removed; the roots written before it take effect for its entries. -/
def State.iomRemove (s : State) (p : Nat) : State :=
  let k := Reg.IOM_INV p
  let scope := s.forcedF k Fld.IOM_INV_SCOPE
  let e := s.forcedF k Fld.IOM_INV_ENTRY
  let a := s.forcedF k Fld.IOM_INV_ADDR * 4096
  let s := s.unlatch k
  let s := ((natsFrom 0 64).filter (invEntry scope e)).foldl (fun s i => (s.unlatch (Reg.IOM_S1 p i)).unlatch (Reg.IOM_S2 p i)) s
  { s with io := { s.io with iotlb := s.io.iotlb.filter (fun t =>
      !(decide (t.port = p) && invEntry scope e t.ent &&
        (decide (scope < 2) || (decide (scope = 2) && decide (t.ipa ≤ a ∧ a < t.ipa + t.size)) ||
          (decide (scope = 3) && decide (t.iova ≤ a ∧ a < t.iova + t.size))))) } }

/-- IOM_INV_COMPLETE (R366). -/
def execIomInvComplete (p : Fin 4) (s : State) : Outcome State Fault Refusal :=
  let k := Reg.IOM_INV_STAT p.val
  if s.getF k Fld.IOM_INV_STAT_STATE ≠ 1 then .next s else
  let s := s.iomRemove p.val
  let s := { s with io := { s.io with atsWait := s.io.atsWait.filter (fun (x : Nat × Nat) => decide (x.1 ≠ p.val)) } }
  .next (s.setF k Fld.IOM_INV_STAT_STATE 2)

/-- ATS_INVALIDATION_TIMEOUT (R366): STATE 3, the entry's ATS cleared, and a log entry. -/
def execAtsInvalidationTimeout (p : Fin 4) (s : State) : Outcome State Fault Refusal :=
  let k := Reg.IOM_INV_STAT p.val
  let late := (s.io.atsWait.filter (fun (x : Nat × Nat) => decide (x.1 = p.val))).map (·.2)
  if s.getF k Fld.IOM_INV_STAT_STATE ≠ 1 ∨ late = [] then .next s else
  let s := s.iomRemove p.val
  let s := late.foldl (fun s i => s.setF (Reg.IOM_RTE p.val i) Fld.IOM_RTE_ATS 0) s
  let s := { s with io := { s.io with atsWait := s.io.atsWait.filter (fun (x : Nat × Nat) => decide (x.1 ≠ p.val)) } }
  .next ((s.setF k Fld.IOM_INV_STAT_STATE 3).logErrSevOpen (pageIOM p.val) 0#64 (BitVec.ofNat 64 (late.headD 0 * 2 ^ 16))).settle

/-- A write of IOM_PRGR (R365): the response message sent is kept by port. -/
def State.wrPrgr (s : State) (w : Who) (p : Nat) (v : Word) : State :=
  let k := Reg.IOM_PRGR p
  match s.bindRid p (fieldN v 0 16) with
  | none => s.denyAt k
  | some i =>
    if s.isF (Reg.IOM_RTE p i) Fld.IOM_RTE_PRI = false ∨ w.hOrW (s.rteCid p i) = false then s.denyAt k else
    { s with io := { s.io with prgSent := smPut (fun _ => 0) s.io.prgSent p (fieldN v 0 27 + 1) } }

/-! ### GPIO (R378) -/

/-- GPIO_EDGE (R378): the level is sampled, and an input edge that EDGE selects raises the pin's vector. -/
def execGpioEdge (n : Fin 16) (level : Bool) (s : State) : Outcome State Fault Refusal :=
  let k := Reg.GPIO_PIN n.val
  let was := s.isF k Fld.GPIO_PIN_IN
  let edge := s.getF k Fld.GPIO_PIN_EDGE
  let hit : Bool := decide (level ≠ was) && edge.testBit (if level then 0 else 1) && !s.isF k Fld.GPIO_PIN_DIR
  let s := s.setF k Fld.GPIO_PIN_IN (b2n level)
  if hit then
    .next (s.raise ⟨s.getF k Fld.GPIO_PIN_VEC, s.getF k Fld.GPIO_PIN_ATTR % 128, 2, n.val, 0, BitVec.ofNat 64 (b2n level)⟩).settle
  else .next s

/-! ### Partner violations and links (R379, R380, R15, R416) -/

/-- MALFORMED_TLP (R379): dropped, and DPC on the link. -/
def execMalformedTlp (p l : Fin 4) (s : State) : Outcome State Fault Refusal :=
  .next ((s.aerSet p.val l.val false aerMalformed).dpc p.val l.val)

/-- UNSUPPORTED_REQUEST (R379). -/
def execUnsupportedRequest (p l : Fin 4) (_k : UrKind) (s : State) : Outcome State Fault Refusal :=
  .next (s.aerSet p.val l.val false aerUR)

/-- UNEXPECTED_COMPLETION (R379): correctable, advisory. -/
def execUnexpectedCompletion (p l : Fin 4) (s : State) : Outcome State Fault Refusal :=
  .next ((s.aerSet p.val l.val false aerUnexpected).aerSet p.val l.val true aerAdvisory)

/-- ACS_VIOLATION (R379): answered with CA, or the write dropped. -/
def execAcsViolation (p l : Fin 4) (_posted : Bool) (s : State) : Outcome State Fault Refusal :=
  .next (s.aerSet p.val l.val false aerACS)

/-- IDE_INTEGRITY_FAILURE (R379): the stream drops every TLP from now on. -/
def execIdeIntegrityFailure (p l stream : Fin 4) (s : State) : Outcome State Fault Refusal :=
  let s := s.aerSet p.val l.val false aerIDE
  let k := p.val * 16 + l.val * 4 + stream.val
  .next { s with io := { s.io with ideStopped := k :: s.io.ideStopped.filter (· != k) } }

/-- DPC_RELEASE (R380): the link may train again. -/
def execDpcRelease (p l : Fin 4) (s : State) : Outcome State Fault Refusal :=
  if s.link p.val l.val = 2 then .next (s.setLink p.val l.val 0) else .next s

/-- PCIE_LINK_TRAINING (R416): with leave, the link trains; the leave is returned at its end. A link held by DPC does not
train, and a link that the port's split does not have is none (R354). -/
def execPcieLinkTraining (p l : Fin 4) (ok : Bool) (s : State) : Outcome State Fault Refusal :=
  if s.link p.val l.val = 2 ∨ s.linkCount p.val ≤ l.val then .next s else
  match s.askLeave (.pcie p) with
  | (s, false) => .next s
  | (s, true) => .next ((s.setLink p.val l.val (b2n ok)).giveLeave (.pcie p))

/-- PCIE_LINK_LOSS (R15): the link is down until it has trained again. -/
def execPcieLinkLoss (p l : Fin 4) (s : State) : Outcome State Fault Refusal :=
  if s.link p.val l.val = 1 then .next (s.setLink p.val l.val 0) else .next s

/-! ### Memory accesses of I/O agents (R212) -/

/-- An access of the I/O die for a compartment, charged to no key. -/
def ioAgent (cid : Nat) : Req := { cid := cid, die := 8, hub := some 0, key := none, src := 5 }

/-- DMA_MEMORY_READ (R212). -/
def execDmaMemoryRead (cid : CompId) (pa : BitVec 52) (s : State) : Outcome State Fault Refusal :=
  .next (s.dmaRead (ioAgent cid.val) (pa.toNat / 64)).1.settle

/-- DMA_MEMORY_WRITE (R212). -/
def execDmaMemoryWrite (cid : CompId) (pa : BitVec 52) (data : BitVec 512) (mask : BitVec 64) (s : State) :
    Outcome State Fault Refusal :=
  .next (s.dmaWrite (ioAgent cid.val) (pa.toNat / 64) data mask false).1.settle

end Sys2Proof.Machine
end

