-- ==== Sys2Proof/Machine/Dma.lean ====
section
/-! DEFINITION. The DMA engines (chapter 15): taking and stealing jobs, translation at stage 2, copies, fills and CRCs line by
line, poison, completion records and events. -/

namespace Sys2Proof.Machine

open Host

/-- The page of an engine. -/
def pageDMA (n : Nat) : Nat := 0x80 + n

/-- The attribute and the compartment of an engine: a change waits for the end of the job in progress (R367). -/
def State.dmaAttr (s : State) (n : Nat) : Nat := s.forcedF (Reg.DMA_ATTR n) Fld.DMA_ATTR_ATTR
def State.dmaCid (s : State) (n : Nat) : Nat := s.dmaAttr n % 64

/-- The job an engine holds. -/
def State.dmaJob (s : State) (n : Nat) : Option DmaJob := smGet (fun _ => none) s.io.jobs n

/-- An engine's job set. -/
def State.setJob (s : State) (n : Nat) (j : Option DmaJob) : State :=
  { s with io := { s.io with jobs := smPut (fun _ => none) s.io.jobs n j } }

/-! ### Taking a job (R367, R368) -/

/-- The engines whose home queues an engine tries after its own, in order (R368). -/
def State.stealOrder (s : State) (n : Nat) : List Nat :=
  let d := n / 32
  let e := n % 32
  let k := Reg.DMA_CTL n
  let own := if s.isF k Fld.DMA_CTL_STEALD then (natsFrom 1 31).map (fun i => 32 * d + (e + i) % 32) else []
  let other := if s.isF k Fld.DMA_CTL_STEALX then (natsFrom 0 32).map (fun i => 32 * (1 - d) + (e + i) % 32) else []
  (own ++ other).filter (fun m => decide (s.dmaAttr m = s.dmaAttr n))

/-- How one attempt at a queue ended. -/
inductive TakeRes where
  | job (j : DmaJob)
  | empty | bad | stopped
  deriving DecidableEq, Repr

/-- An attempt to claim a job for engine `n` from queue `q` of its compartment: charged to no tag until it takes a frame and to
the frame's tag from then on (R258, R311). -/
def State.takeFrom (s : State) (n q : Nat) : State × TakeRes :=
  let c := s.dmaCid n
  let r : Req := { cid := c, die := 8 + n / 32, hub := some (n / 32), key := none, src := 5 }
  if s.inRange c q = false then (s, .bad) else
  match s.readDesc r c q with
  | (s, .error _) => (s, .stopped)
  | (s, .ok d) =>
    if d.valid = false ∨ d.cid ≠ c ∨ d.kindDma = false then (s, .bad) else
    match s.claimTagged r none 0 c q d with
    | (s, .frame _ f) => (s.repostAll, .job ⟨f.w, q, c⟩)
    | (s, .empty) => (s, .empty)
    | (s, .broken _) => (s, .stopped)
    | (s, .err _ _) => (s, .stopped)

/-- The queues of a list of engines tried until one gives a job. -/
def State.stealFrom (s : State) (n : Nat) : List Nat → State × TakeRes
  | [] => (s, .empty)
  | m :: t =>
    match s.takeFrom n (s.getF (Reg.DMA_CTL m) Fld.DMA_CTL_HOMEQ) with
    | (s, .job j) => (s, .job j)
    | (s, _) => s.stealFrom n t

/-- DMA_JOB_TAKE (R367, R368): an engine that is enabled, holds no job and waits for no change of compartment. A home
queue that is no queue of its compartment with KIND 1 is logged as a denial. -/
def execDmaJobTake (n : Fin 64) (s : State) : Outcome State Fault Refusal :=
  let e := n.val
  let k := Reg.DMA_CTL e
  if s.isF k Fld.DMA_CTL_EN = false ∨ (s.dmaJob e).isSome ∨ s.io.dmaStop.contains e then .next s else
  let (s, r) := match s.takeFrom e (s.getF k Fld.DMA_CTL_HOMEQ) with
    | (s, .bad) => (s.denyAt k, TakeRes.bad)
    | (s, .empty) => s.stealFrom e (s.stealOrder e)
    | x => x
  match r with
  | .job j =>
    let s := s.setJob e (some j)
    .next (((s.setF (Reg.DMA_STAT e) Fld.DMA_STAT_STATE 1).setF (Reg.DMA_STAT e) Fld.DMA_STAT_QID j.qid)).settle
  | _ => .next s.settle

/-! ### A job's operands (R369) -/

/-- Double at byte offset `o` of a job. -/
def DmaJob.at (j : DmaJob) (o : Nat) : Nat := (j.words.getD (o / 8) 0#64).toNat
def DmaJob.op (j : DmaJob) : Nat := j.at 0 % 4
def DmaJob.src (j : DmaJob) : Nat := j.at 0x08
def DmaJob.dst (j : DmaJob) : Nat := j.at 0x10
def DmaJob.len (j : DmaJob) : Nat := j.at 0x18 % 2 ^ 40
def DmaJob.seed (j : DmaJob) : Nat := j.at 0x20 % 2 ^ 32
def DmaJob.caddr (j : DmaJob) : Nat := j.at 0x28
def DmaJob.tag (j : DmaJob) : Nat := j.at 0x38 % 2 ^ 16

/-- Whether a reserved field of a job is not 0. -/
def DmaJob.reserved (j : DmaJob) : Bool :=
  decide (j.at 0 / 8 ≠ 0) || decide (j.at 0x18 / 2 ^ 40 ≠ 0) || decide (j.at 0x30 / 2 ^ 19 ≠ 0) ||
    (natsFrom 8 22).any (fun i => decide (j.at (8 * i) ≠ 0))

/-- An engine's accesses for a job: in its compartment's slots, charged to the job's key (R311, R368). -/
def dmaReq (n : Nat) (j : DmaJob) : Req :=
  { cid := j.cid, die := 8 + n / 32, hub := some (n / 32), key := some (j.cid, j.tag), src := 5 }

/-! ### Translation (R371) -/

/-- Where an access of an engine goes: memory, or the window of a port whose outbound arbiter lists the engine. -/
inductive DmaTo where
  | mem | port (p : Nat)
  deriving DecidableEq, Repr

/-- What an engine remembers from access to access: the page it last translated, and the source line it last read. -/
structure DmaCache where
  page : Option (Nat × Nat × DmaTo) := none
  line : Option (Nat × BitVec 512 × Bool) := none
  deriving DecidableEq, Repr

/-- Who moves data for a job or a command: its accesses, its stage 2, and the engine it is, if it is one. -/
structure Mover where
  req : Req
  en : Bool
  root : Nat
  eng : Option Nat
  deriving DecidableEq, Repr

/-- Engine `n` working on a job, with the root that it had when it took the job. -/
def State.mover (s : State) (n : Nat) (j : DmaJob) : Mover :=
  ⟨dmaReq n j, decide (s.forcedF (Reg.DMA_XLAT n) Fld.DMA_XLAT_EN = 1), s.forcedF (Reg.DMA_XLAT n) Fld.DMA_XLAT_BASE * 128, some n⟩

/-- Whether the outbound arbiter of port `p` lists engine `n` (R283). -/
def dmaListed (n p : Nat) : Bool := decide (p / 2 = n / 32) && decide (p % 2 = n % 32 / 16)

/-- Where a final address of a given type leads; status 4 for any other type or port. -/
def State.dmaTarget (s : State) (eng : Option Nat) (pa : Nat) (mt : MemType) : Except Nat DmaTo :=
  match s.fixedType pa with
  | none => .error 4
  | some f =>
    match mt.strongest f with
    | .wb => .ok .mem
    | .nc => .ok .mem
    | .devPosted =>
      let p := (pa - 0x8000000000000) / 2 ^ 44
      if 0x8000000000000 ≤ pa ∧ pa < 0x8400000000000 ∧ eng.any (fun n => dmaListed n p) then .ok (.port p) else .error 4
    | .devStrict => .error 4

/-- The final address of an IPA for a mover: status 1 for a fault of the walk, 2 for a color violation in it. -/
def State.dmaXlat (s : State) (a : Mover) (ipa : Nat) (wr : Bool) : State × Except Nat (Nat × DmaTo) :=
  if a.en = false then
    match s.dmaTarget a.eng ipa .wb with
    | .error e => (s, .error e)
    | .ok t => (s, .ok (ipa, t))
  else if 2 ^ 52 ≤ ipa then (s, .error 1)
  else
    let w := ioWalker a.req true 0 a.root
    match State.walk2 w ipa 5 s 0 w.root2 [] with
    | (s, .error e) => (s, .error (if e.kind = .color then 2 else 1))
    | (s, .ok (l, _)) =>
      match leafCheck l (ioPerm l.e wr) false wr true ipa with
      | some _ => (s, .error 1)
      | none =>
        match s.dmaTarget a.eng l.out (eMT l.e) with
        | .error e => (s, .error e)
        | .ok t => (s, .ok (l.out, t))

/-- The final address of an IPA, from the page last translated where it is the same. -/
def State.dmaAddr (s : State) (a : Mover) (c : DmaCache) (ipa : Nat) (wr : Bool) : State × Except Nat (Nat × DmaTo × DmaCache) :=
  match c.page with
  | some (pg, out, t) =>
    if pg = ipa / 4096 then (s, .ok (out * 4096 + ipa % 4096, t, c)) else
    match s.dmaXlat a ipa wr with
    | (s, .error e) => (s, .error e)
    | (s, .ok (pa, t)) => (s, .ok (pa, t, { c with page := some (ipa / 4096, pa / 4096, t) }))
  | none =>
    match s.dmaXlat a ipa wr with
    | (s, .error e) => (s, .error e)
    | (s, .ok (pa, t)) => (s, .ok (pa, t, { c with page := some (ipa / 4096, pa / 4096, t) }))

/-! ### Reads and writes of a job -/

/-- The status of a refused access: 2 for a color violation; for another error response the manual names none, so it is
one of the statuses of the table (log 20). -/
def State.dmaStatus (s : State) (e : MErr) : State × Nat :=
  match e with
  | .color => (s, 2)
  | .resp => let (w, s) := s.openWord; (s, 1 + w.toNat % 6)

/-- `k` bytes read at an IPA within one line, and whether the line carries poison. -/
def State.dmaReadSeg (s : State) (a : Mover) (c : DmaCache) (ipa k : Nat) :
    State × Except Nat (List Byte × Bool × DmaCache) :=
  match s.dmaAddr a c ipa false with
  | (s, .error e) => (s, .error e)
  | (s, .ok (pa, .port p, c)) =>
    if s.portUp p = false then (s, .error 6) else
    let l := (natsFrom 0 k).map (fun i => byteOf (Config.deviceRead s.free (pa + i)) 0)
    (s.tick.countPort p a.req.key k, .ok (l, false, c))
  | (s, .ok (pa, .mem, c)) =>
    let (s, x) : State × Except Nat (BitVec 512 × Bool) := match c.line with
      | some (l, d, p) =>
        if l = pa / 64 then (s, .ok (d, p)) else
        (match s.dmaRead a.req (pa / 64) with
         | (s, .error e) => (let (s, st) := s.dmaStatus e; (s, .error st))
         | (s, .ok r) => (s, .ok r))
      | none =>
        (match s.dmaRead a.req (pa / 64) with
         | (s, .error e) => (let (s, st) := s.dmaStatus e; (s, .error st))
         | (s, .ok r) => (s, .ok r))
    match x with
    | .error e => (s, .error e)
    | .ok (d, p) => (s, .ok (natToBytes k (d.toNat >>> (8 * (pa % 64))), p, { c with line := some (pa / 64, d, p) }))

/-- `k` bytes, at most 64, read at an IPA from one line or two. -/
def State.dmaReadBytes (s : State) (a : Mover) (c : DmaCache) (ipa k : Nat) :
    State × Except Nat (List Byte × Bool × DmaCache) :=
  let k1 := min k (64 - ipa % 64)
  match s.dmaReadSeg a c ipa k1 with
  | (s, .error e) => (s, .error e)
  | (s, .ok (l1, p1, c)) =>
    if k = k1 then (s, .ok (l1, p1, c)) else
    match s.dmaReadSeg a c (ipa + k1) (k - k1) with
    | (s, .error e) => (s, .error e)
    | (s, .ok (l2, p2, c)) => (s, .ok (l1 ++ l2, p1 || p2, c))

/-- Bytes written at an IPA within one line. -/
def State.dmaWriteSeg (s : State) (a : Mover) (c : DmaCache) (ipa : Nat) (l : List Byte) (poison : Bool) :
    State × Except Nat DmaCache :=
  match s.dmaAddr a c ipa true with
  | (s, .error e) => (s, .error e)
  | (s, .ok (_, .port p, c)) => if s.portUp p = false then (s, .error 6) else (s.countPort p a.req.key l.length, .ok c)
  | (s, .ok (pa, .mem, c)) =>
    match s.dmaWrite a.req (pa / 64) (BitVec.ofNat 512 (bytesToNat l <<< (8 * (pa % 64)))) (maskBytes (pa % 64) l.length) poison with
    | (s, some e) => let (s, st) := s.dmaStatus e; (s, .error st)
    | (s, none) => (s, .ok c)

/-- What a job has done: the bytes completed, the CRC, and the status. -/
structure JobEnd where
  status : Nat
  bytes : Nat
  crc : Nat
  deriving DecidableEq, Repr

/-- Byte `a mod 8` of the pattern of OP 1 (R370). -/
def patternByte (pat a : Nat) : Byte := byteOf (BitVec.ofNat 64 pat) (a % 8)

/-- A job moved destination line by destination line (R370, R372): `done` bytes so far of LEN. -/
def State.jobLoop (n : Nat) (j : DmaJob) : Nat → State → DmaCache → DmaCache → Nat → Nat → State × JobEnd
  | 0, s, _, _, d, crc => (s, ⟨0, d, crc⟩)
  | f + 1, s, cs, cd, d, crc =>
    if j.len ≤ d then (s, ⟨0, d, crc⟩) else
    let at' := if j.op = 3 then j.src + d else j.dst + d
    let k := min (j.len - d) (64 - at' % 64)
    let (s, r) : State × Except Nat (List Byte × Bool × DmaCache) :=
      if j.op = 1 then (s, .ok ((natsFrom 0 k).map (fun i => patternByte j.src (at' + i)), false, cs))
      else s.dmaReadBytes (s.mover n j) cs (j.src + d) k
    match r with
    | .error e => (s, ⟨e, d, crc⟩)
    | .ok (l, p, cs) =>
      if p ∧ 2 ≤ j.op then (s, ⟨3, d, crc⟩) else
      let crc := if 2 ≤ j.op then crcBytes crc l else crc
      if j.op = 3 then State.jobLoop n j f s cs cd (d + k) crc else
      match s.dmaWriteSeg (s.mover n j) cd at' l p with
      | (s, .error e) => (s, ⟨e, d, crc⟩)
      | (s, .ok cd) => State.jobLoop n j f s cs cd (d + k) crc

/-! ### Completion (R373) -/

/-- The completion record: 16 bytes. -/
def recordBytes (j : DmaJob) (e : JobEnd) : List Byte :=
  natToBytes 8 (e.status + e.bytes % 2 ^ 40 * 256) ++ natToBytes 8 (if 2 ≤ j.op then e.crc else 0)

/-- A completion record written at an IPA, which may cross a line. -/
def State.writeCompletion (s : State) (n : Nat) (j : DmaJob) (l : List Byte) : State :=
  let a := j.caddr
  let k := min l.length (64 - a % 64)
  match s.dmaWriteSeg (s.mover n j) {} a (l.take k) false with
  | (s, .error _) => s
  | (s, .ok c) => if k = l.length then s else (s.dmaWriteSeg (s.mover n j) c (a + k) (l.drop k) false).1

/-- The completion event posted: queue CQ must be a queue of the engine's compartment; an event that cannot be posted is
counted as dropped (log 21). -/
def State.postCompletion (s : State) (n : Nat) (j : DmaJob) : State :=
  if (j.at 0x30).testBit 18 = false then s else
  let e : Ev := ⟨0, s.dmaAttr n % 128, 5, n, 0, BitVec.ofNat 64 j.caddr⟩
  match s.postEvent (n / 32) j.cid (j.at 0x30 % 2 ^ 18) e with
  | (s, .done) => s
  | (s, _) => s.addF (Reg.IRR_STAT (n / 32 * 16)) Fld.IRR_STAT_DROPS 1

/-- A job ended: its record and event, the meters, and the writes that waited for it (R258, R367). -/
def State.endJob (s : State) (n : Nat) (j : DmaJob) (e : JobEnd) : State :=
  let s := s.charge (ptDma n) (some (j.cid, j.tag)) 7 e.bytes
  let s := if j.caddr = 0 then s else s.writeCompletion n j (recordBytes j e)
  let s := s.postCompletion n j
  let s := s.setJob n none
  let s := s.setF (Reg.DMA_STAT n) Fld.DMA_STAT_STATE (if s.io.dmaStop.contains n then 3 else 0)
  (s.unlatch (Reg.DMA_ATTR n)).unlatch (Reg.DMA_XLAT n)

/-- A held job of operation `op` run to its end: bad jobs end with status 4, jobs told to stop with status 5. -/
def State.runJob (s : State) (n op : Nat) : State :=
  match s.dmaJob n with
  | none => s
  | some j =>
    if j.op ≠ op then s else
    if j.reserved then s.endJob n j ⟨4, 0, j.seed⟩
    else if s.io.dmaStop.contains n then s.endJob n j ⟨5, 0, j.seed⟩
    else
      let (s, e) := State.jobLoop n j (j.len / 64 + 2) s {} {} 0 j.seed
      s.endJob n j e

/-- DMA_COPY (R369, R372): OP 0. -/
def execDmaCopy (n : Fin 64) (s : State) : Outcome State Fault Refusal := .next (s.runJob n.val 0).settle

/-- DMA_FILL (R370): OP 1. -/
def execDmaFill (n : Fin 64) (s : State) : Outcome State Fault Refusal := .next (s.runJob n.val 1).settle

/-- DMA_COPY_CRC (R372): OP 2. -/
def execDmaCopyCrc (n : Fin 64) (s : State) : Outcome State Fault Refusal := .next (s.runJob n.val 2).settle

/-- DMA_CRC (R372): OP 3. -/
def execDmaCrc (n : Fin 64) (s : State) : Outcome State Fault Refusal := .next (s.runJob n.val 3).settle

/-- A write of DMA_ATTR (R294, R367): a change of compartment waits for the end of the job in progress. -/
def State.wrDmaAttr (s : State) (w : Who) (n : Nat) (v : Word) : State :=
  let k := Reg.DMA_ATTR n
  let old := s.getF k Fld.DMA_ATTR_ATTR
  let new := fieldN v 0 8
  if s.attrMayChange w old new = false then s.denyAt k else
  (if (s.dmaJob n).isSome then s.latch k else s).putFields k v

/-- A write of DMA_XLAT: it takes effect at the next job. -/
def State.wrDmaXlat (s : State) (n : Nat) (v : Word) : State :=
  let k := Reg.DMA_XLAT n
  (if (s.dmaJob n).isSome then s.latch k else s).putFields k v

end Sys2Proof.Machine
end

