-- ==== Sys2Proof/Machine/Fabric.lean ====
section
/-! DEFINITION. The Duastor fabric's links (chapter 16): routes, transmit slots, credits, replay, violations, quarantine,
training, widths, and the timebase exchange. -/

namespace Sys2Proof.Machine

open Host

/-! ### Ports -/

/-- The page of a fabric port. -/
def pageFAB (p : Nat) : Nat := 0x30 + p

/-- A port's link state. -/
def State.fabPort (s : State) (p : Nat) : FabPort := smGet (fun _ => {}) s.fab.ports p

/-- A port's link state stored. -/
def State.setFabPort (s : State) (p : Nat) (x : FabPort) : State :=
  { s with fab := { s.fab with ports := smPut (fun _ => {}) s.fab.ports p x } }

/-- FAB_PORT_STAT.STATE. -/
def State.fabState (s : State) (p : Nat) : Nat := s.getF (Reg.FAB_PORT_STAT p) Fld.FAB_PORT_STAT_STATE

/-- FAB_PORT_STAT.STATE set. -/
def State.setFabState (s : State) (p v : Nat) : State := s.setF (Reg.FAB_PORT_STAT p) Fld.FAB_PORT_STAT_STATE v

/-- Whether a port carries frames. -/
def State.fabUp (s : State) (p : Nat) : Bool := decide (p < 6) && decide (s.fabState p = 2)

/-- Whether a port has a link: one that retrains, or waits for leave to, holds its frames and keeps its routes (log 172). -/
def State.fabLive (s : State) (p : Nat) : Bool :=
  s.fabUp p || (decide (p < 6) && (decide (s.fabState p = 4) || (decide (s.fabState p = 1) && (s.fabPort p).again)))

/-- This device's node ID, and whether it is in a ring. -/
def State.node (s : State) : Nat := s.getF Reg.FABG_NODE Fld.FABG_NODE_NODE
def State.ring (s : State) : Bool := s.isF Reg.FABG_NODE Fld.FABG_NODE_RING
def State.upPort (s : State) : Nat := s.getF Reg.FABG_NODE Fld.FABG_NODE_UP
def State.dnPort (s : State) : Nat := s.getF Reg.FABG_NODE Fld.FABG_NODE_DN

/-- Whether a node lies behind child port `k`. -/
def State.behind (s : State) (k n : Nat) : Bool :=
  let r := Reg.FABG_SUB k
  s.isF r Fld.FABG_SUB_EN && decide (s.getF r Fld.FABG_SUB_LO ≤ n) && decide (n ≤ s.getF r Fld.FABG_SUB_HI)

/-- Where a frame goes (R390, R391). -/
inductive Route where
  | here | port (p : Nat) | none
  deriving DecidableEq, Repr

/-- The route to a node. -/
def State.routeTo (s : State) (dst : Nat) : Route :=
  if dst = s.node then .here
  else if s.ring then
    let n := max 1 (s.getF Reg.FABG_NODE Fld.FABG_NODE_RINGN)
    let d := (dst + n - s.node % n) % n
    let (a, b) := if d ≤ n / 2 then (s.dnPort, s.upPort) else (s.upPort, s.dnPort)
    if s.fabLive a then .port a else if s.fabLive b then .port b else .none
  else
    match (natsFrom 0 6).find? (fun k => s.behind k dst) with
    | some k => .port k
    | none => if s.upPort < 6 then .port s.upPort else .none

/-! ### Metering and slots -/

/-- Payload bytes charged at a port: index 5 sent, 6 received (R310, R386). -/
def State.chargeFab (s : State) (p : Nat) (key : Option (Nat × Nat)) (i n : Nat) : State := s.charge (ptFab p) key i n

/-- The compartment that a fabric domain is bound to on this device (R394, R395). -/
def State.fdomComp (s : State) (d : Nat) : Option Nat :=
  (natsFrom 0 64).find? (fun c => s.isF (Reg.FXC_ACC c) Fld.FXC_ACC_EN && decide (s.getF (Reg.FXC_ACC c) Fld.FXC_ACC_FDOM = d))

/-- Whether a compartment owns a transmit slot of a port: a slot of its die's hub wheel (R394). -/
def State.fabSlot (s : State) (p c : Nat) : Bool := s.hasSlot (wheelHub (p / 3)) c false

/-! ### Sending (R387, R388) -/

/-- The cells of a frame: header, payload and trailer. -/
def frameCells (f : Frame) : Nat := f.ncell.toNat + 2

/-- Whether a frame may leave now: the credits of its VC cover it, and the replay buffer of 128 KiB and 2,048 frames has room (R387). -/
def FabPort.canSend (x : FabPort) (f : Frame) : Bool :=
  decide (frameCells f ≤ x.credits.getD f.vc.toNat 0) && decide (x.replay.length < 2048) &&
    decide (x.replay.foldl (fun a g => a + frameCells g) 0 + frameCells f ≤ 4096)

/-- A frame leaves: it takes the next sequence number and stays in the replay buffer. -/
def FabPort.launch (x : FabPort) (f : Frame) : FabPort :=
  let v := f.vc.toNat
  { x with credits := listSet x.credits v (x.credits.getD v 0 - frameCells f), nextSeq := (x.nextSeq + 1) % 4096,
           replay := x.replay ++ [{ f with seq := BitVec.ofNat 12 x.nextSeq }] }

/-- The frames that wait sent in order, VC by VC, as far as credits go. -/
def FabPort.flushWait (x : FabPort) : FabPort :=
  x.waitq.foldl (fun (x : FabPort) f =>
    if x.waitq.any (fun g => g.vc = f.vc) = false ∧ x.canSend f then x.launch f
    else { x with waitq := x.waitq ++ [f] }) { x with waitq := [] }

/-- A port's link state stored, and the frames that wait sent where it is up. -/
def State.putFlushed (s : State) (p : Nat) (x : FabPort) : State := s.setFabPort p (if s.fabUp p then x.flushWait else x)

/-- A frame given to a port: it leaves, or waits behind earlier frames of its VC, or until the port has retrained. -/
def State.sendOn (s : State) (p : Nat) (f : Frame) : State :=
  let x := s.fabPort p
  s.setFabPort p (if s.fabUp p ∧ x.waitq.any (fun g => g.vc = f.vc) = false ∧ x.canSend f then x.launch f else { x with waitq := x.waitq ++ [f] })

/-- How sending ended: gone, no route, or lost at a quarantined port. -/
inductive SendRes where
  | sent (p : Nat) | noRoute | lost | noSlot (p : Nat)
  deriving DecidableEq, Repr

/-- A frame sent towards its DST in the slots of compartment `c`. -/
def State.sendFrame (s : State) (c : Nat) (f : Frame) : State × SendRes :=
  match s.routeTo f.dst.toNat with
  | .here => (s, .noRoute)
  | .none => (s, .noRoute)
  | .port p =>
    if s.fabState p = 3 then (s, .lost)
    else if s.fabLive p = false then (s, .noRoute)
    else if s.fabSlot p c = false then (s, .noSlot p)
    else (s.sendOn p f, .sent p)

/-- A new request ID. -/
def State.newOpid (s : State) : BitVec 16 × State :=
  (BitVec.ofNat 16 s.fab.nextOp, { s with fab := { s.fab with nextOp := (s.fab.nextOp + 1) % 65536 } })

/-! ### Receiving (R385, R386, R393, R409) -/

/-- VC, least and largest NCELL of a TYPE. -/
def frameShape (t : Nat) : Option (Nat × Nat × Nat) :=
  match t with
  | 0x01 => some (0, 8, 8)
  | 0x02 => some (0, 1, 8)
  | 0x03 => some (0, 0, 0)
  | 0x11 => some (1, 0, 0)
  | 0x12 => some (1, 0, 0)
  | 0x13 => some (1, 0, 8)
  | 0x21 => some (2, 0, 1)
  | 0x22 => some (2, 0, 1)
  | 0x23 => some (2, 8, 8)
  | 0x24 => some (2, 0, 0)
  | 0x25 => some (2, 0, 0)
  | 0x30 => some (3, 0, 0)
  | 0x31 => some (3, 0, 0)
  | _ => none

/-- Header word 0 of a frame. -/
def frameWord0 (f : Frame) : Nat :=
  f.typ.toNat + f.vc.toNat * 2 ^ 8 + f.ncell.toNat * 2 ^ 10 + f.seq.toNat * 2 ^ 16 + f.dst.toNat * 2 ^ 28 + f.src.toNat * 2 ^ 46

/-- Whether the SRC of a frame is allowed on its port (R393). -/
def State.srcOk (s : State) (p src : Nat) : Bool :=
  if s.ring then decide (src ≠ s.node)
  else if s.isF (Reg.FABG_SUB p) Fld.FABG_SUB_EN then s.behind p src
  else decide (src ≠ s.node) && (natsFrom 0 6).all (fun k => !s.behind k src)

/-- The reason of R409 for which a frame of `cells` payload bytes breaks the protocol, 0 where it does not. -/
def State.frameFault (s : State) (p : Nat) (f : Frame) : Nat :=
  match frameShape f.typ.toNat with
  | none => 1
  | some (vc, lo, hi) =>
    if f.vc.toNat ≠ vc ∨ f.ncell.toNat < lo ∨ hi < f.ncell.toNat ∨ f.payload.length > f.ncell.toNat * 32 then 2
    else if 2048 ≤ (f.seq.toNat + 4096 - (s.fabPort p).expect) % 4096 then 5
    else if s.srcOk p f.src.toNat = false then 7
    else 0

/-- A violation of a port: the frame is discarded, answered with a NAK and counted (R409). -/
def State.violate (s : State) (p : Nat) (f : Frame) (reason : Nat) : State :=
  let x := s.fabPort p
  let x := { x with nakDue := some (f.seq.toNat, reason), viols := countIn x.viols s.now 1000000,
                    expect := if reason = 5 then x.expect else (f.seq.toNat + 1) % 4096 }
  let s := (s.setFabPort p x).addF (Reg.FAB_PORT_STAT p) Fld.FAB_PORT_STAT_VIOL 1
  s.logErrSevOpen (pageFAB p) (BitVec.ofNat 64 (frameWord0 f)) (BitVec.ofNat 64 (reason + f.src.toNat * 2 ^ 8 + f.typ.toNat * 2 ^ 26))

/-- A frame received: true where it is the next in sequence of a port that is up and breaks no rule. A frame ahead of the
sequence waits for its replay and is discarded. -/
def State.receive (s : State) (p : Nat) (f : Frame) (typ : Nat) : State × Bool :=
  if s.fabUp p = false ∨ f.typ.toNat ≠ typ then (s, false) else
  match s.frameFault p f with
  | 0 =>
    let x := s.fabPort p
    if f.seq.toNat = x.expect then (s.setFabPort p { x with expect := (x.expect + 1) % 4096 }, true) else (s, false)
  | r => (s.violate p f r, false)

/-- A received frame for another node sent onward (R390, R394). -/
def State.forward (s : State) (p : Nat) (f : Frame) : State :=
  match s.sendFrame ((s.fdomComp f.fdom.toNat).getD 0) f with
  | (s, .sent _) => s
  | (s, .noRoute) => if s.routeTo f.dst.toNat = .none ∧ s.ring = false then s.violate p f 6 else s
  | (s, .noSlot _) => s.violate p f 9
  | (s, .lost) => s

/-- A request or response received: true where it is for this node. -/
def State.arrives (s : State) (p : Nat) (f : Frame) (typ : Nat) : State × Bool :=
  match s.receive p f typ with
  | (s, false) => (s, false)
  | (s, true) => if s.routeTo f.dst.toNat = .here then (s, true) else (s.forward p f, false)

/-! ### Acknowledgements, NAKs and credits -/

/-- Whether sequence number `a` comes before `b` in a window of 2,048. -/
def seqBefore (a b : Nat) : Bool := let d := (b + 4096 - a) % 4096; decide (0 < d ∧ d ≤ 2048)

/-- Frames before `n` acknowledged. -/
def FabPort.freeTo (x : FabPort) (n : Nat) : FabPort := { x with replay := x.replay.filter (fun f => !seqBefore f.seq.toNat n) }

/-- FRAME_CRC_ERROR (R387): a NAK with reason 0; more than 256 errors within 1 ms start a retrain. -/
def execFrameCrcError (p : Fin 6) (s : State) : Outcome State Fault Refusal :=
  if s.fabUp p.val = false then .next s else
  let x := s.fabPort p.val
  let x := { x with nakDue := some (x.expect, 0), crcErrs := countIn x.crcErrs s.now 1000000 }
  .next (if 256 < x.crcErrs.length then (s.setFabPort p.val { x with again := true }).setFabState p.val 4 else s.setFabPort p.val x)

/-- NAK (R387, R409): reason 0 replays from the named frame; any other names a frame that the partner has discarded. -/
def execNak (p : Fin 6) (seq : BitVec 12) (reason : BitVec 4) (s : State) : Outcome State Fault Refusal :=
  let x := s.fabPort p.val
  if x.replay.any (fun f => f.seq = seq) = false then .next s else
  if reason = 0#4 then
    let s := s.setFabPort p.val { x.freeTo seq.toNat with replayFrom := some seq.toNat }
    .next (s.addF (Reg.FAB_PORT_STAT p.val) Fld.FAB_PORT_STAT_REPLAY 1)
  else .next (s.putFlushed p.val { x with replay := x.replay.filter (fun f => decide (f.seq ≠ seq)) })

/-- ACK (R387): every frame up to the one named is freed. -/
def execAck (p : Fin 6) (seq : BitVec 12) (s : State) : Outcome State Fault Refusal :=
  let x := s.fabPort p.val
  .next (s.putFlushed p.val { x.freeTo ((seq.toNat + 1) % 4096) with replayFrom := none })

/-- CREDIT_RETURN (R388). -/
def execCreditReturn (p : Fin 6) (vc : Fin 4) (cells : BitVec 16) (s : State) : Outcome State Fault Refusal :=
  let x := s.fabPort p.val
  .next (s.putFlushed p.val { x with credits := listSet x.credits vc.val (min 512 (x.credits.getD vc.val 0 + cells.toNat)) })

/-- FAB_VIOLATION (R409). -/
def execFabViolation (p : Fin 6) (f : Frame) (reason : Fin 10) (s : State) : Outcome State Fault Refusal :=
  if s.fabUp p.val = false ∨ reason.val = 0 then .next s else .next (s.violate p.val f reason.val).settle

/-! ### Training, width, control (R383, R384, R410) -/

/-- A write of FAB_PORT_CTL, but for what a lost link does (see wrPortCtl). -/
def State.retrain (s : State) (p st : Nat) : State :=
  let x := s.fabPort p
  (s.setFabPort p { x with tries := 0, viols := [], helloOk := false, again := decide (st = 4) }).setFabState p st

/-- Whether the device stands alone: not in a fabric, or without a link (R408). -/
def State.alone (s : State) : Bool :=
  !s.isF Reg.FABG_NODE Fld.FABG_NODE_EN || (natsFrom 0 6).all (fun p => !(s.fabLive p || decide (s.fabState p = 3)))

/-- FABG_SYNC.STATE after a write of FABG_NODE or FABG_SYNC: alone without the fabric, locked as the master (R408). -/
def State.updSync (s : State) : State :=
  let k := Reg.FABG_SYNC
  if s.alone then s.setSync 0 0
  else if s.isF k Fld.FABG_SYNC_MASTER then s.setSync 1 0
  else s

/-- HELLO (R383): the ends must agree on RING. -/
def execHello (p : Fin 6) (_node : BitVec 18) (_port : Fin 6) (ring : Bool) (s : State) : Outcome State Fault Refusal :=
  let x := s.fabPort p.val
  .next (s.setFabPort p.val { x with helloOk := decide (ring = s.ring) })

/-- A link's width set within its bound (R384); a change is a decision of Index, logged (R438). -/
def State.setWidth (s : State) (p w reason : Nat) : State :=
  let k := Reg.FAB_PORT_STAT p
  let old := s.getF k Fld.FAB_PORT_STAT_WIDTH
  if s.fabUp p = false ∨ s.getF (Reg.FAB_PORT_CTL p) Fld.FAB_PORT_CTL_MINW < w ∨ old = w then s
  else (s.setF k Fld.FAB_PORT_STAT_WIDTH w).idxLog 6 reason (124 + p) 0 (BitVec.ofNat 64 (4 / 2 ^ old)) (BitVec.ofNat 64 (4 / 2 ^ w))

/-- FAB_WIDTH_CHANGE (R384): Index narrows a link no further than MINW, or widens it. -/
def execFabWidthChange (p : Fin 6) (w : Fin 3) (s : State) : Outcome State Fault Refusal :=
  let old := s.getF (Reg.FAB_PORT_STAT p.val) Fld.FAB_PORT_STAT_WIDTH
  .next (s.setWidth p.val w.val (if old < w.val then 2 else 1)).settle

/-! ### The timebase exchange (R407, R408) -/

/-- SYNC_EXCHANGE_START (R407): the time at which the exchange begins is kept. -/
def execSyncExchangeStart (p : Fin 6) (s : State) : Outcome State Fault Refusal :=
  if s.fabUp p.val = false ∨ s.isF Reg.FABG_NODE Fld.FABG_NODE_EN = false then .next s else
  let x := s.fabPort p.val
  .next (s.setFabPort p.val { x with syncAt := some s.tb })

/-- The largest correction that a slew of 100 ppm makes in one period, in ns. -/
def State.slewMax (s : State) : Nat := max 1 (s.getF Reg.FABG_SYNC Fld.FABG_SYNC_PERIOD_US) / 10

/-- A child's correction: a step of more than 1 µs counts as a timebase write, a smaller offset is slewed away (log 22). -/
def State.correct (s : State) (off : Int) : State :=
  let big := decide (1000 < off.natAbs)
  let d : Int := if big then off else if off.natAbs ≤ s.slewMax then off else if 0 ≤ off then (s.slewMax : Int) else -(s.slewMax : Int)
  let new := BitVec.ofInt 64 ((s.tb.toNat : Int) - d)
  if big then
    ({ s with tb := new }.setF Reg.TBC_STAT Fld.TBC_STAT_STEPPED 1).ledgerStep s.tb new
  else ({ s with tb := new }).ledgerSlew s.tb new

/-- SYNC (R407, R408): the child of the link to the parent corrects its timebase and is locked. -/
def execSync (p : Fin 6) (t1 t2 t3 t4 : Word) (hops : BitVec 18) (s : State) : Outcome State Fault Refusal :=
  if s.isF Reg.FABG_NODE Fld.FABG_NODE_EN = false ∨ s.fabState p.val = 0 then .next s else
  let x := s.fabPort p.val
  let s := s.setFabPort p.val { x with syncAt := none }
  if p.val ≠ s.upPort ∨ s.isF Reg.FABG_SYNC Fld.FABG_SYNC_MASTER then .next s else
  let off : Int := ((t2.toNat : Int) - t1.toNat - ((t4.toNat : Int) - t3.toNat)) / 2
  let s := s.correct off
  let s := { s with fab := { s.fab with lastSync := s.now, hops := hops.toNat } }
  .next (s.setSync 1 (stick 0xFFFFFFFF (4 * hops.toNat)))

/-- SYNC_HOLDOVER (R408): no exchange for 10 ms, since the last one or since the device had a link at all. -/
def execSyncHoldover (s : State) : Outcome State Fault Refusal :=
  let k := Reg.FABG_SYNC
  if ¬(s.getF k Fld.FABG_SYNC_STATE = 1 ∨ s.getF k Fld.FABG_SYNC_STATE = 0 ∧ s.alone = false) ∨ s.isF k Fld.FABG_SYNC_MASTER ∨ s.now < s.fab.lastSync + 10000000 then .next s else
  let e := stick 0xFFFFFFFF (4 * s.fab.hops + 50 * (s.now - s.fab.lastSync) / 1000000000)
  .next (s.setSync 2 e).settle

/-- SYNC_LOST (R408): 60 s in holdover. -/
def execSyncLost (s : State) : Outcome State Fault Refusal :=
  let k := Reg.FABG_SYNC
  if s.getF k Fld.FABG_SYNC_STATE ≠ 2 ∨ s.now < s.fab.lastSync + 60010000000 then .next s else
  .next (s.setSync 3 0xFFFFFFFF)

end Sys2Proof.Machine
end

