-- ==== Sys2Proof/Machine/Fxc.lean ====
section
/-! DEFINITION. What the Duastor fabric carries (chapter 16): remote pushes, windows, command rings and their completion,
barriers, reductions, broadcasts and snapshots, and what a lost link or a quarantine ends. -/

namespace Sys2Proof.Machine

open Host

/-! ### Who acts -/

/-- The die of a fabric port as a requester for compartment `c`, charged to `key`. -/
def fabReq (p c : Nat) (key : Option (Nat × Nat)) : Req := { cid := c, die := 8 + p / 3, hub := some (p / 3), key := key, src := 6 }

/-- The fabric unit of I/O die 0, which reads the rings, as a requester. -/
def fxcReq (c : Nat) (key : Option (Nat × Nat)) : Req := { cid := c, die := 8, hub := some 0, key := key, src := 6 }

/-- A refusal counted at a port (R257, R396). -/
def State.countRefused (s : State) (p : Nat) : State := s.addF (Reg.FAB_PORT_STAT p) Fld.FAB_PORT_STAT_REFUSED 1

/-- A response to a frame: sent back to its source in the slots of compartment `c`. -/
def State.respond (s : State) (c : Nat) (f : Frame) (typ : BitVec 8) (status : Nat) (data : List Byte) (poison : BitVec 8) : State × SendRes :=
  s.sendFrame c { typ := typ, vc := 1, ncell := BitVec.ofNat 4 ((data.length + 31) / 32), seq := 0, dst := f.src, src := BitVec.ofNat 18 s.node,
                  fdom := f.fdom, tag := f.tag, opid := f.opid, aux := BitVec.ofNat 8 status, addr := 0, opnd := 0, payload := data, poison := poison }

/-! ### Remote pushes (R239, R257) -/

/-- The core that waits for the answer to a remote push. -/
def State.pusher (s : State) (opid : BitVec 16) : Option Nat := (s.cores.find? (fun e => decide (e.2.remote = some opid))).map (·.1)

/-- A remote push ended: its status is pushed and the core runs on. -/
def State.pushEnded (s : State) (core st : Nat) : State :=
  s.modCore core (fun k => { k with run := .running, remote := none, stack := BitVec.ofNat 64 st :: k.stack })

/-- The frame that a PUSH or BCAST carries. -/
def payloadFrame (f : Frame) : QFrame :=
  ⟨(natsFrom 0 32).map (fun i => bytesToWord ((f.payload.drop (8 * i)).take 8)), (natsFrom 0 4).map (fun i => decide (f.poison.toNat / 4 ^ i % 4 ≠ 0))⟩

/-- A request that a port refuses is counted there; one of this device's own that no port carries is not. -/
def State.refusePush (s : State) (p : Option Nat) : State := match p with | some p => s.countRefused p | none => s

/-- A frame pushed into queue `q` with the checks of R257, `key` the RKEY presented where one is needed: the status for the pusher. It
came through port `p`, or from this device itself (R390). -/
def State.remotePush (s : State) (p : Option Nat) (q : Nat) (f : Frame) (key : Option Word) : State × Nat :=
  match s.queueComp q with
  | none => (s.refusePush p, 2)
  | some c =>
    let r := match p with | some p => fabReq p c none | none => fxcReq c none
    match s.readDesc r c q with
    | (s, .error _) => (s.refusePush p, 2)
    | (s, .ok d) =>
      let rk : Bool := match key with | none => true | some k => decide (k = d.rkey)
      if d.encoded = false ∨ d.cid ≠ c ∨ bitN d.ctl 9 = false ∨ d.lvl ≠ 0 ∨ rk = false then (s.refusePush p, 2) else
      let fr := payloadFrame f
      let fr := (fr.put 0x38 (putN (fr.at 0x38) 0 16 d.tag)).put 0xF0 0#64
      match s.pushQ { r with key := some (c, d.tag) } none 0 c q d fr with
      | (s, .done) => (match p with | some p => s.chargeFab p (some (c, d.tag)) 6 256 | none => s, 0)
      | (s, .full) => (s, 1)
      | (s, .lostSlot) => (s, 4)
      | (s, .err (.color _)) => (s, 5)
      | (s, .err .resp) => (s.refusePush p, 2)

/-- How a remote push of a core stands: on its way, or ended with a status. -/
inductive PushSent where
  | waits | ended (st : Nat)
  deriving DecidableEq, Repr

/-- A remote push sent by a core: the PUSH frame, and the core waits. A push for this device's own node is delivered here (R390). A
compartment without fabric access, or a node without a route, is unreachable. -/
def State.sendPush (s : State) (core node q tag : Nat) (f : QFrame) : State × PushSent :=
  let c := s.cid (core / 16)
  if s.isF (Reg.FXC_ACC c) Fld.FXC_ACC_EN = false then (s, .ended 3) else
  let (op, s) := s.newOpid
  let fr : Frame := { typ := 0x01, vc := 0, ncell := 8, seq := 0, dst := BitVec.ofNat 18 node, src := BitVec.ofNat 18 s.node,
                      fdom := BitVec.ofNat 16 (s.getF (Reg.FXC_ACC c) Fld.FXC_ACC_FDOM), tag := BitVec.ofNat 16 tag, opid := op, aux := 0,
                      addr := BitVec.ofNat 64 q, opnd := f.at 0xF0, payload := f.w.flatMap (fun w => natToBytes 8 w.toNat),
                      poison := BitVec.ofNat 8 ((natsFrom 0 4).foldl (fun a i => if f.p.getD i false then a + 3 * 4 ^ i else a) 0) }
  let wait := fun (s : State) => s.modCore core (fun k => { k with run := .pushing, remote := some op, entry := none })
  if node = s.node then let (s, st) := s.remotePush none q fr (some fr.opnd); (s, .ended st) else
  match s.sendFrame c fr with
  | (s, .sent p) => (wait (s.chargeFab p (some (c, tag)) 5 256), .waits)
  | (s, .noSlot _) => (wait s, .waits)
  | (s, _) => (s, .ended 3)

/-- PUSH (R257, R390): a remote push for this node, or forwarded. -/
def execPush (p : Fin 6) (f : Frame) (s : State) : Outcome State Fault Refusal :=
  match s.arrives p.val f 0x01 with
  | (s, false) => .next s.settle
  | (s, true) =>
    let q := f.addr.toNat % 2 ^ 18
    let (s, st) := s.remotePush (some p.val) q f (some f.opnd)
    .next (s.respond ((s.queueComp q).getD 0) f 0x11 st [] 0).1.settle

/-- PUSH_RSP (R239): the pusher gets its status. -/
def execPushRsp (p : Fin 6) (f : Frame) (s : State) : Outcome State Fault Refusal :=
  match s.arrives p.val f 0x11 with
  | (s, false) => .next s.settle
  | (s, true) =>
    match s.pusher f.opid with
    | some c => .next (s.pushEnded c f.aux.toNat)
    | none => .next s

/-- REMOTE_PUSH_TIMEOUT (R239): no answer within 100 µs ends with st 3. -/
def execRemotePushTimeout (c : CoreId) (s : State) : Outcome State Fault Refusal :=
  if (s.core c.val).run = .pushing ∧ (s.core c.val).remote.isSome then .next (s.pushEnded c.val 3) else .next s

/-! ### Windows (R396) -/

/-- Whether an access of `n` bytes at offset `o` to window `i` of compartment `c` is accepted. -/
def State.windowOk (s : State) (c i o n : Nat) (key : Word) (wr : Bool) : Bool :=
  let k := Reg.FXC_WIN_CTL c i
  s.isF k Fld.FXC_WIN_CTL_EN && decide (key = s.rd (Reg.FXC_WIN_KEY c i)) &&
    decide (o + n ≤ s.getF (Reg.FXC_WIN_SIZE c i) Fld.FXC_WIN_SIZE_SIZE) && (if wr then s.isF k Fld.FXC_WIN_CTL_W else s.isF k Fld.FXC_WIN_CTL_R)

/-- Bytes written into a window, line by line: 0, or the status of the refusal. -/
def State.windowWrite (s : State) (r : Req) (b : Nat) : Nat → Nat → List Byte → Nat → Nat → State × Nat
  | 0, _, _, _, _ => (s, 0)
  | f + 1, o, l, poison, done =>
    match l with
    | [] => (s, 0)
    | _ :: _ =>
      let n := min l.length (64 - o % 64)
      let bad := (natsFrom (done / 32) ((done + n + 31) / 32 - done / 32)).any (fun i => poison.testBit i)
      match s.packed r.cid b o with
      | none => (s.packedRefused r b o, 2)
      | some pa =>
        match s.dmaWrite r (pa / 64) (BitVec.ofNat 512 (bytesToNat (l.take n) <<< (8 * (pa % 64)))) (maskBytes (pa % 64) n) bad with
        | (s, some .color) => (s, 2)
        | (s, some .resp) => (s, 5)
        | (s, none) => s.windowWrite r b f (o + n) (l.drop n) poison (done + n)

/-- Bytes read from a window, line by line: the bytes and the cells that carry poison, or the status of the refusal. -/
def State.windowRead (s : State) (r : Req) (b : Nat) : Nat → Nat → Nat → Nat → State × Except Nat (List Byte × Nat)
  | 0, _, _, _ => (s, .ok ([], 0))
  | f + 1, o, n, done =>
    if n = 0 then (s, .ok ([], 0)) else
    let k := min n (64 - o % 64)
    match s.packed r.cid b o with
    | none => (s.packedRefused r b o, .error 2)
    | some pa =>
      match s.dmaRead r (pa / 64) with
      | (s, .error .color) => (s, .error 2)
      | (s, .error .resp) => (s, .error 5)
      | (s, .ok (d, p)) =>
        let l := natToBytes k (d.toNat >>> (8 * (pa % 64)))
        let bits := if p then (natsFrom (done / 32) ((done + k + 31) / 32 - done / 32)).foldl (fun a i => a ||| 2 ^ i) 0 else 0
        match s.windowRead r b f (o + k) (n - k) (done + k) with
        | (s, .error e) => (s, .error e)
        | (s, .ok (t, q)) => (s, .ok (l ++ t, bits ||| q))

/-- A requester for an access to a window of compartment `c`: through a port, or from this device itself. -/
def winReq (p : Option Nat) (c : Nat) (key : Option (Nat × Nat)) : Req :=
  match p with
  | some p => fabReq p c key
  | none => fxcReq c key

/-- A window of compartment `c` as an access finds it: the key that pays and the base of its region. -/
def State.winKey (s : State) (c i : Nat) : Nat × Nat := (c, s.getF (Reg.FXC_WIN_SIZE c i) Fld.FXC_WIN_SIZE_TAG)
def State.winBase (s : State) (c i : Nat) : Nat := s.getF (Reg.FXC_WIN_CTL c i) Fld.FXC_WIN_CTL_BASE * 2 ^ 18

/-- A PUT checked and performed, through port `p` or for this device's own node (R390): its status. -/
def State.windowPut (s : State) (p : Option Nat) (f : Frame) : State × Nat :=
  let i := f.aux.toNat
  match s.fdomComp f.fdom.toNat with
  | none => (s.refusePush p, 5)
  | some c =>
    if 16 ≤ i ∨ s.windowOk c i f.addr.toNat f.payload.length f.opnd true = false then (s.refusePush p, 5) else
    let key := some (s.winKey c i)
    let (s, st) := s.windowWrite (winReq p c key) (s.winBase c i) 6 f.addr.toNat f.payload f.poison.toNat 0
    (match p with | some p => if st = 0 then s.chargeFab p key 6 f.payload.length else s | none => s, st)

/-- A GET checked and performed likewise: its data with the cells that carry poison, or its status. -/
def State.windowGet (s : State) (p : Option Nat) (f : Frame) : State × Except Nat (List Byte × Nat) :=
  let i := f.aux.toNat
  match s.fdomComp f.fdom.toNat with
  | none => (s.refusePush p, .error 5)
  | some c =>
    if 16 ≤ i ∨ 256 < f.len ∨ s.windowOk c i f.addr.toNat f.len f.opnd false = false then (s.refusePush p, .error 5) else
    s.windowRead (winReq p c (some (s.winKey c i))) (s.winBase c i) 6 f.addr.toNat f.len 0

/-- WINDOW_PUT (R396, R399): a PUT checked, performed and answered. -/
def execWindowPut (p : Fin 6) (f : Frame) (s : State) : Outcome State Fault Refusal :=
  match s.arrives p.val f 0x02 with
  | (s, false) => .next s.settle
  | (s, true) =>
    let c := (s.fdomComp f.fdom.toNat).getD 0
    let (s, st) := s.windowPut (some p.val) f
    .next (s.respond c f 0x12 st [] 0).1.settle

/-- GET_REQ (R396): a read from a window answered with its data. -/
def execGetReq (p : Fin 6) (f : Frame) (s : State) : Outcome State Fault Refusal :=
  match s.arrives p.val f 0x03 with
  | (s, false) => .next s.settle
  | (s, true) =>
    let c := (s.fdomComp f.fdom.toNat).getD 0
    let key := some (s.winKey c f.aux.toNat)
    match s.windowGet (some p.val) f with
    | (s, .error st) => .next (s.respond c f 0x13 st [] 0).1.settle
    | (s, .ok (l, q)) =>
      match s.respond c f 0x13 0 l (BitVec.ofNat 8 q) with
      | (s, .sent x) => .next (s.chargeFab x key 5 l.length).settle
      | (s, _) => .next s.settle

/-! ### Command rings (R397, R398) -/

/-- The commands of a compartment that the port has read and not completed. -/
def State.fxcCmds (s : State) (c : Nat) : List FxcCmd := smGet (fun _ => []) s.fab.cmds c

/-- The commands of a compartment stored. -/
def State.setCmds (s : State) (c : Nat) (l : List FxcCmd) : State :=
  { s with fab := { s.fab with cmds := smPut (fun _ => []) s.fab.cmds c l } }

/-- A command changed. -/
def State.modCmd (s : State) (c idx : Nat) (f : FxcCmd → FxcCmd) : State :=
  s.setCmds c ((s.fxcCmds c).map (fun x => if x.idx = idx then f x else x))

/-- A command that has not ended ends with a status. -/
def State.endCmd (s : State) (c idx st : Nat) : State :=
  s.modCmd c idx (fun x => if x.status.isSome then x else { x with started := true, status := some st, opids := [] })

/-- The fields of a command. -/
def FxcCmd.at (x : FxcCmd) (o : Nat) : Nat := (x.words.getD (o / 8) 0#64).toNat
def FxcCmd.op (x : FxcCmd) : Nat := x.at 0 % 16
def FxcCmd.rop (x : FxcCmd) : Nat := x.at 0 / 16 % 8
def FxcCmd.fence (x : FxcCmd) : Bool := (x.at 0).testBit 7
def FxcCmd.event (x : FxcCmd) : Bool := (x.at 0).testBit 8
def FxcCmd.grp (x : FxcCmd) : Nat := x.at 0 / 2 ^ 9 % 64
def FxcCmd.win (x : FxcCmd) : Nat := x.at 0 / 2 ^ 15 % 16
def FxcCmd.node (x : FxcCmd) : Nat := x.at 8 % 2 ^ 18
def FxcCmd.localA (x : FxcCmd) : Nat := x.at 0x10
def FxcCmd.roff (x : FxcCmd) : Nat := x.at 0x18
def FxcCmd.len (x : FxcCmd) : Nat := x.at 0x20 % 2 ^ 40
def FxcCmd.key (x : FxcCmd) : Word := x.words.getD 5 0#64
def FxcCmd.caddr (x : FxcCmd) : Nat := x.at 0x30
def FxcCmd.tag (x : FxcCmd) : Nat := x.at 0x38 % 2 ^ 16
def FxcCmd.queue (x : FxcCmd) : Nat := x.at 0x38 / 2 ^ 16 % 2 ^ 18

/-- Whether a reserved field of a command is not 0. -/
def FxcCmd.reserved (x : FxcCmd) : Bool := decide (x.at 0 / 2 ^ 19 ≠ 0) || decide (x.at 0x38 / 2 ^ 34 ≠ 0)

/-- Whether a ring is empty (R397). -/
def State.ringEmpty (s : State) (c : Nat) : Bool :=
  decide (s.getF (Reg.FXC_HEAD c) Fld.FXC_HEAD_HEAD = s.getF (Reg.FXC_TAIL c) Fld.FXC_TAIL_TAIL)

/-- A field of FXC_RING or FXC_XLAT in force. -/
def State.ringF (s : State) (c k : Nat) (f : Fld) : Nat := if s.ringEmpty c then s.getF k f else s.forcedF k f

/-- The mover of a command's local data: stage 2 at FXC_XLAT (R397). -/
def State.fxcMover (s : State) (c : Nat) (x : FxcCmd) : Mover :=
  ⟨fxcReq c (some (c, x.tag)), decide (s.ringF c (Reg.FXC_XLAT c) Fld.FXC_XLAT_EN = 1), s.ringF c (Reg.FXC_XLAT c) Fld.FXC_XLAT_BASE * 128, none⟩

/-- The depth of a ring. -/
def State.ringDepth (s : State) (c : Nat) : Nat := 2 ^ min 16 (s.ringF c (Reg.FXC_RING c) Fld.FXC_RING_LOG2DEPTH)

/-- Commands read from a ring up to its tail, `n` at most; reading stops at a refused access. One that reads as poison ends with
status 3, and one of no operation of the table with status 4 (R398, log 173). -/
def State.readRing (s : State) (c : Nat) : Nat → State
  | 0 => s
  | n + 1 =>
    let h := s.getF (Reg.FXC_HEAD c) Fld.FXC_HEAD_HEAD
    if h = s.getF (Reg.FXC_TAIL c) Fld.FXC_TAIL_TAIL then s else
    let b := s.ringF c (Reg.FXC_RING c) Fld.FXC_RING_BASE * 2 ^ 18
    let o := 64 * (h % s.ringDepth c)
    let r := fxcReq c none
    match s.packed c b o with
    | none => s.packedRefused r b o
    | some pa =>
      match s.dmaRead r (pa / 64) with
      | (s, .error _) => s
      | (s, .ok (d, p)) =>
        let x : FxcCmd := ⟨h, lineWords d, false, [], 0, none, 0#64, s.now⟩
        let x := if p then { x with started := true, status := some 3 } else if 5 < x.op then { x with started := true, status := some 4 } else x
        (((s.setCmds c (s.fxcCmds c ++ [x])).setF (Reg.FXC_HEAD c) Fld.FXC_HEAD_HEAD ((h + 1) % 2 ^ 32))).readRing c n

/-- A write of FXC_TAIL (R395, R397): without fabric access no command is performed. -/
def State.wrTail (s : State) (c : Nat) (v : Word) : State :=
  let s := if s.ringEmpty c then (s.unlatch (Reg.FXC_RING c)).unlatch (Reg.FXC_XLAT c) else s
  let s := s.putFields (Reg.FXC_TAIL c) v
  if s.isF (Reg.FXC_ACC c) Fld.FXC_ACC_EN then s.readRing c (s.ringDepth c) else s

/-- Whether a command waits for the next generation of its group, one being in progress with a contribution of its member (R402). -/
def State.waitsGen (s : State) (x : FxcCmd) : Bool :=
  decide (x.op = 2 ∨ x.op = 3) && (smGet (fun _ => ({} : GroupGen)) s.fab.groups x.grp).localC.isSome

/-- The first command of an operation that may start: with FENCE only when no earlier one is left (R397), and not while it waits for the
next generation of its group (R402). -/
def State.nextCmd (s : State) (c op : Nat) : Option FxcCmd :=
  let l := s.fxcCmds c
  l.find? (fun x => !x.started && decide (x.op = op) && (!x.fence || decide ((l.head?.map (·.idx)) = some x.idx)) && !s.waitsGen x)

/-- A request frame of a command: byte offset `d` of it, `n` bytes. -/
def State.cmdFrame (s : State) (c : Nat) (x : FxcCmd) (typ : BitVec 8) (op : BitVec 16) (d n : Nat) (data : List Byte) (poison : BitVec 8) : Frame :=
  { typ := typ, vc := 0, ncell := BitVec.ofNat 4 ((data.length + 31) / 32), seq := 0, dst := BitVec.ofNat 18 x.node, src := BitVec.ofNat 18 s.node,
    fdom := BitVec.ofNat 16 (s.getF (Reg.FXC_ACC c) Fld.FXC_ACC_FDOM), tag := BitVec.ofNat 16 x.tag, opid := op, aux := BitVec.ofNat 8 x.win,
    addr := BitVec.ofNat 64 (x.roff + d), opnd := x.key, payload := data, poison := poison, len := n }

/-- `n` bytes, at most 256, of a command's local data read through its mover: the bytes and the poisoned cells. -/
def State.moverRead (a : Mover) : Nat → State → DmaCache → Nat → Nat → Nat → State × Except Nat (List Byte × Nat)
  | 0, s, _, _, _, _ => (s, .ok ([], 0))
  | f + 1, s, c, ipa, n, done =>
    if n = 0 then (s, .ok ([], 0)) else
    let k := min n (64 - ipa % 64)
    match s.dmaReadSeg a c ipa k with
    | (s, .error e) => (s, .error e)
    | (s, .ok (l, p, c)) =>
      let bits := if p then (natsFrom (done / 32) ((done + k + 31) / 32 - done / 32)).foldl (fun a i => a ||| 2 ^ i) 0 else 0
      match State.moverRead a f s c (ipa + k) (n - k) (done + k) with
      | (s, .error e) => (s, .error e)
      | (s, .ok (t, q)) => (s, .ok (l ++ t, bits ||| q))

/-- Bytes written at an IPA through a mover: 0, or the status of the refusal. -/
def State.moverWrite (a : Mover) : Nat → State → DmaCache → Nat → List Byte → Nat → Nat → State × Nat
  | 0, s, _, _, _, _, _ => (s, 0)
  | f + 1, s, c, ipa, l, poison, done =>
    match l with
    | [] => (s, 0)
    | _ :: _ =>
      let n := min l.length (64 - ipa % 64)
      let bad := (natsFrom (done / 32) ((done + n + 31) / 32 - done / 32)).any (fun i => poison.testBit i)
      match s.dmaWriteSeg a c ipa (l.take n) bad with
      | (s, .error e) => (s, e)
      | (s, .ok c) => State.moverWrite a f s c (ipa + n) (l.drop n) poison (done + n)

/-- The command that waits for a request ID. -/
def State.cmdOf (s : State) (op : Nat) : Option (Nat × FxcCmd) :=
  (s.fab.cmds.flatMap (fun e => (e.2.filter (fun x => x.opids.contains op)).map (fun x => (e.1, x)))).head?

/-- One frame of a command answered, with `n` bytes done: the command ends with the first status that is not 0, or done when
nothing is left to wait for. -/
def State.answered (s : State) (c : Nat) (x : FxcCmd) (op st n : Nat) : State :=
  let s := { s with fab := { s.fab with gets := smErase s.fab.gets op } }
  if st ≠ 0 then s.endCmd c x.idx st else
  s.modCmd c x.idx (fun y =>
    let left := y.opids.filter (· ≠ op)
    { y with opids := left, done := y.done + n, status := if left = [] ∧ y.status.isNone then some 0 else y.status })

/-- One frame of a command for this device's own node, delivered here (R390), byte `d` of it on: its status. -/
def State.copyHere (s : State) (c : Nat) (x : FxcCmd) (fr : Frame) (d : Nat) : State × Nat :=
  if x.op = 0 then s.windowPut none fr else
  match s.windowGet none fr with
  | (s, .error st) => (s, st)
  | (s, .ok (l, q)) => State.moverWrite (s.fxcMover c x) 6 s {} (x.localA + d) l q 0

/-- The frames of a PUT or GET sent from byte `d` on; a frame that finds no route or a lost one ends the command. -/
def State.sendSegs (c : Nat) (x : FxcCmd) : Nat → State → Nat → State
  | 0, s, _ => s
  | f + 1, s, d =>
    if x.len ≤ d then (if x.node = s.node then s.endCmd c x.idx 0 else s) else
    let n := min 256 (x.len - d)
    let (s, r) : State × Except Nat (List Byte × Nat) :=
      if x.op = 0 then State.moverRead (s.fxcMover c x) 6 s {} (x.localA + d) n 0 else (s, .ok ([], 0))
    match r with
    | .error st => s.endCmd c x.idx st
    | .ok (l, q) =>
      let typ : BitVec 8 := if x.op = 0 then 0x02 else 0x03
      if x.node = s.node then
        (match s.copyHere c x (s.cmdFrame c x typ 0 d n l (BitVec.ofNat 8 q)) d with
         | (s, 0) => State.sendSegs c x f (s.modCmd c x.idx (fun y => { y with done := y.done + n })) (d + n)
         | (s, st) => s.endCmd c x.idx st)
      else
      let (op, s) := s.newOpid
      let fr := s.cmdFrame c x typ op d n l (BitVec.ofNat 8 q)
      let s := s.modCmd c x.idx (fun y => { y with opids := y.opids ++ [op.toNat] })
      let s := { s with fab := { s.fab with gets := smIns op.toNat d (smErase s.fab.gets op.toNat) } }
      match s.sendFrame c fr with
      | (s, .sent p) => State.sendSegs c x f (if x.op = 0 then s.chargeFab p (some (c, x.tag)) 5 n else s) (d + n)
      | (s, .noSlot _) => State.sendSegs c x f s (d + n)
      | (s, .noRoute) => s.endCmd c x.idx 6
      | (s, .lost) => s.endCmd c x.idx 7

/-- A PUT or GET command started. -/
def State.startCopyCmd (s : State) (c op : Nat) : State :=
  match s.nextCmd c op with
  | none => s
  | some x =>
    if s.isF (Reg.FXC_ACC c) Fld.FXC_ACC_EN = false then s
    else if x.reserved then s.endCmd c x.idx 4
    else if x.len = 0 then s.endCmd c x.idx 0
    else State.sendSegs c x (x.len / 256 + 2) (s.modCmd c x.idx (fun y => { y with started := true, startTb := s.now })) 0

/-- FAB_CMD_PUT (R397): command OP 0. -/
def execFabCmdPut (comp : CompId) (s : State) : Outcome State Fault Refusal := .next (s.startCopyCmd comp.val 0).settle

/-- FAB_CMD_GET (R397): command OP 1. -/
def execFabCmdGet (comp : CompId) (s : State) : Outcome State Fault Refusal := .next (s.startCopyCmd comp.val 1).settle

/-- PUT_RSP (R398, R399). -/
def execPutRsp (p : Fin 6) (f : Frame) (s : State) : Outcome State Fault Refusal :=
  match s.arrives p.val f 0x12 with
  | (s, false) => .next s.settle
  | (s, true) =>
    match s.cmdOf f.opid.toNat with
    | none => .next s
    | some (c, x) =>
      let d := smGet (fun _ => 0) s.fab.gets f.opid.toNat
      .next (s.answered c x f.opid.toNat f.aux.toNat (min 256 (x.len - d)))

/-- GET_RSP (R386, R396): the data is written at the requester, with its poison. -/
def execGetRsp (p : Fin 6) (f : Frame) (s : State) : Outcome State Fault Refusal :=
  match s.arrives p.val f 0x13 with
  | (s, false) => .next s.settle
  | (s, true) =>
    match s.cmdOf f.opid.toNat with
    | none => .next s
    | some (c, x) =>
      if f.aux ≠ 0 then .next (s.answered c x f.opid.toNat f.aux.toNat 0) else
      let d := smGet (fun _ => 0) s.fab.gets f.opid.toNat
      let s := s.chargeFab p.val (some (c, x.tag)) 6 f.payload.length
      let (s, st) := State.moverWrite (s.fxcMover c x) 6 s {} (x.localA + d) f.payload f.poison.toNat 0
      .next (s.answered c x f.opid.toNat st f.payload.length).settle

/-- FAB_CMD_TIMEOUT (R398): a PUT or GET without its responses for 100 µs ends with status 6. -/
def execFabCmdTimeout (comp : CompId) (idx : BitVec 32) (s : State) : Outcome State Fault Refusal :=
  match (s.fxcCmds comp.val).find? (fun x => decide (x.idx = idx.toNat)) with
  | none => .next s
  | some x =>
    if x.started = false ∨ x.status.isSome ∨ 1 < x.op ∨ s.now < x.startTb + 100000 then .next s else .next (s.endCmd comp.val x.idx 6)

/-- FAB_COMMAND_COMPLETION (R398): the record, the class-6 event, and the command is gone. -/
def execFabCommandCompletion (comp : CompId) (idx : BitVec 32) (s : State) : Outcome State Fault Refusal :=
  let c := comp.val
  match (s.fxcCmds c).find? (fun x => decide (x.idx = idx.toNat)) with
  | none => .next s
  | some x =>
    match x.status with
    | none => .next s
    | some st =>
      let rec16 := natToBytes 8 (st + x.done % 2 ^ 40 * 256) ++ natToBytes 8 x.result.toNat
      let s := if x.caddr = 0 then s else (State.moverWrite (s.fxcMover c x) 3 s {} x.caddr rec16 0 0).1
      let s := if x.event then
          (let e : Ev := ⟨0, if c = 63 then 127 else c, 6, x.idx % 65536, 0, BitVec.ofNat 64 x.caddr⟩
           match s.postEvent 0 c x.queue e with
           | (s, .done) => s
           | (s, _) => s.addF (Reg.IRR_STAT 0) Fld.IRR_STAT_DROPS 1) else s
      .next (s.setCmds c ((s.fxcCmds c).filter (fun y => decide (y.idx ≠ x.idx)))).settle

/-! ### Groups (R400 to R404) -/

/-- A group entry in use with a domain. -/
def State.groupOf (s : State) (fdom : Nat) : Option Nat :=
  (natsFrom 0 64).find? (fun e => s.isF (Reg.FABG_GRP e) Fld.FABG_GRP_EN && decide (s.getF (Reg.FABG_GRP e) Fld.FABG_GRP_FDOM = fdom))

/-- The generation in progress of a group entry. -/
def State.gen (s : State) (e : Nat) : GroupGen := smGet (fun _ => {}) s.fab.groups e

/-- A generation stored. -/
def State.setGen (s : State) (e : Nat) (g : GroupGen) : State := { s with fab := { s.fab with groups := smPut (fun _ => {}) s.fab.groups e g } }

/-- The ports of a group entry. -/
def State.grpPorts (s : State) (e : Nat) : List Nat := (natsFrom 0 6).filter (fun p => (s.getF (Reg.FABG_GRP e) Fld.FABG_GRP_PORTMASK).testBit p)

/-- Whether a group entry has a local member, and which compartment. -/
def State.grpMember (s : State) (e : Nat) : Bool := s.isF (Reg.FABG_GRP e) Fld.FABG_GRP_MEMBER
def State.grpCid (s : State) (e : Nat) : Nat := s.getF (Reg.FABG_GRP e) Fld.FABG_GRP_CID

/-- The reduction code of a barrier, beside ROP 0 to 4. -/
def ropBarrier : Nat := 7

/-- Two contributions combined (R403): 96-bit sums; 64-bit compares. -/
def combine (rop : Nat) (a b : Int) : Int :=
  let u := fun (x : Int) => x % 2 ^ 64
  match rop with
  | 0 => (a + b + 2 ^ 95) % 2 ^ 96 - 2 ^ 95
  | 1 => min a b
  | 2 => max a b
  | 3 => if u a ≤ u b then a else b
  | 4 => if u a ≤ u b then b else a
  | _ => 0

/-- The contributions of a generation combined. -/
def GroupGen.total (g : GroupGen) : Int :=
  let l := (match g.localC with | some v => [v] | none => []) ++ g.fromPorts.map (·.2)
  match l with
  | [] => 0
  | h :: t => t.foldl (combine (g.rop.getD ropBarrier)) h

/-- The 12 bytes of a contribution or result. -/
def sumBytes (v : Int) : List Byte := natToBytes 12 (v % 2 ^ 96).toNat

/-- The value in 12 bytes. -/
def sumOf (l : List Byte) : Int := let n := bytesToNat (l.take 12); if 2 ^ 95 ≤ n then (n : Int) - 2 ^ 96 else n

/-- The port towards a group's root: the parent's in a tree; in a ring the end of the arc that leads to no members, which at
the end of an arc is an open choice. -/
def State.grpParent (s : State) (e : Nat) : State × Nat :=
  if s.ring = false then (s, s.upPort) else
  let m := s.grpPorts e
  if m.contains s.upPort then (s, s.dnPort) else if m.contains s.dnPort then (s, s.upPort) else
  let (w, s) := s.openWord
  (s, if w.toNat % 2 = 0 then s.upPort else s.dnPort)

/-- The compartment whose slots a group's frames use (R394). -/
def State.grpComp (s : State) (e : Nat) : Nat :=
  if s.grpMember e then s.grpCid e else (s.fdomComp (s.getF (Reg.FABG_GRP e) Fld.FABG_GRP_FDOM)).getD 0

/-- A global frame received on port `p` that goes no further for want of a transmit slot: violation reason 9 there (R394, R409). -/
def State.slotless (s : State) (e p : Nat) (f : Frame) : State :=
  if (s.grpPorts e).any (fun q => s.fabLive q && !s.fabSlot q (s.grpComp e)) then s.violate p f 9 else s

/-- A global frame of a group sent on a port, its payload charged to the member compartment and the tag of the command (R310). -/
def State.sendGlobal (s : State) (e p tag : Nat) (typ : BitVec 8) (aux : Nat) (addr : Word) (data : List Byte) (poison : BitVec 8) : State :=
  let c := s.grpComp e
  if s.fabLive p = false ∨ s.fabSlot p c = false then s else
  let fdom := s.getF (Reg.FABG_GRP e) Fld.FABG_GRP_FDOM
  (s.chargeFab p (if s.grpMember e then some (c, tag) else none) 5 data.length).sendOn p
    { typ := typ, vc := 2, ncell := BitVec.ofNat 4 ((data.length + 31) / 32), seq := 0, dst := 0, src := BitVec.ofNat 18 s.node,
      fdom := BitVec.ofNat 16 fdom, tag := BitVec.ofNat 16 tag, opid := 0, aux := BitVec.ofNat 8 aux, addr := addr, opnd := 0, payload := data, poison := poison }

/-- The command that holds a member's contribution to a group's generation. -/
def State.memberCmd (s : State) (e : Nat) : Option FxcCmd :=
  (s.fxcCmds (s.grpCid e)).find? (fun x => x.started && x.status.isNone && decide (x.grp = e) && decide (x.op = 2 ∨ x.op = 3))

/-- The tag of a member's contribution to a group's generation. -/
def State.memberTag (s : State) (e : Nat) : Nat := match s.memberCmd e with | some x => x.tag | none => 0

/-- The payload of a global frame received charged to the member and the tag of its command (R310, R386). -/
def State.chargeGlobal (s : State) (p e n : Nat) : State :=
  s.chargeFab p (if s.grpMember e then some (s.grpCid e, s.memberTag e) else none) 6 n

/-- A generation ended at this device: the member's command completes with the status and the result, and the result goes
down the group's ports (R401). -/
def State.genDone (s : State) (e st : Nat) (v : Int) : State :=
  let g := s.gen e
  let fdom := BitVec.ofNat 64 (s.getF (Reg.FABG_GRP e) Fld.FABG_GRP_FDOM)
  let data := if g.rop = some ropBarrier then [] else sumBytes v
  let s := (s.grpPorts e).foldl (fun s p => s.sendGlobal e p (s.memberTag e) 0x22 st fdom data 0) s
  let s := s.setGen e { gen := g.gen + 1 }
  if s.grpMember e = false then s else
  match s.memberCmd e with
  | none => s
  | some x =>
    let res := if x.op = 2 then BitVec.ofNat 64 (g.gen + 1) else BitVec.ofInt 64 v
    (s.modCmd (s.grpCid e) x.idx (fun y => { y with result := res })).endCmd (s.grpCid e) x.idx st

/-- Whether a result lies outside the signed 64-bit range (R403). -/
def sumOver (rop : Nat) (v : Int) : Bool := decide (rop = 0) && (decide (v < -(2 ^ 63)) || decide (2 ^ 63 ≤ v))

/-- The code of an ARRIVE whose generation has lost a part of its group; the manual gives none (log 172). -/
def ropLost : Nat := 5

/-- A generation that has lost a part of its group (R392): the root ends it with status 7 at every member it reaches, any other
device tells its parent, or ends it here where that is lost too. -/
def State.genLost (s : State) (e : Nat) : State :=
  if (s.gen e).lost then s else
  let s := s.setGen e { s.gen e with lost := true }
  if s.isF (Reg.FABG_GRP e) Fld.FABG_GRP_ROOT then s.genDone e 7 0 else
  let (s, p) := s.grpParent e
  if s.fabLive p then s.sendGlobal e p (s.memberTag e) 0x21 ropLost (BitVec.ofNat 64 (s.getF (Reg.FABG_GRP e) Fld.FABG_GRP_FDOM)) [] 0
  else s.genDone e 7 0

/-- A generation taken as far as its contributions go (R401): the root releases it, another device sends its ARRIVE. -/
def State.genAdvance (s : State) (e : Nat) : State :=
  let g := s.gen e
  let ports := s.grpPorts e
  if g.lost ∨ (s.grpMember e ∧ g.localC.isNone) ∨ ports.any (fun p => !g.fromPorts.any (fun x => decide (x.1 = p))) then s else
  let v := g.total
  let rop := g.rop.getD ropBarrier
  if s.isF (Reg.FABG_GRP e) Fld.FABG_GRP_ROOT then
    s.genDone e (if g.mixed then 4 else if sumOver rop v then 8 else 0) v
  else
    let (s, p) := s.grpParent e
    let fdom := BitVec.ofNat 64 (s.getF (Reg.FABG_GRP e) Fld.FABG_GRP_FDOM)
    if s.fabLive p = false then s.genDone e 7 0 else
    -- a mixed generation is told upward by a code that no reduction has
    s.sendGlobal e p (s.memberTag e) 0x21 (if g.mixed then 6 else rop) fdom (if rop = ropBarrier then [] else sumBytes v) 0

/-- A contribution entered: a different reduction marks the generation as mixed. -/
def GroupGen.note (g : GroupGen) (rop : Nat) : GroupGen :=
  { g with rop := some (g.rop.getD rop), mixed := g.mixed || decide (rop = 6) || (match g.rop with | some r => decide (r ≠ rop) | none => false) }

/-- A barrier or reduction command started: a second command of a group waits for the next generation (R402). -/
def State.contribute (s : State) (c op : Nat) : State :=
  match s.nextCmd c op with
  | none => s
  | some x =>
    let e := x.grp
    if s.isF (Reg.FXC_ACC c) Fld.FXC_ACC_EN = false then s
    else if x.reserved ∨ s.isF (Reg.FABG_GRP e) Fld.FABG_GRP_EN = false ∨ s.grpMember e = false ∨ s.grpCid e ≠ c ∨ (op = 3 ∧ 4 < x.rop) then
      s.endCmd c x.idx 4
    else
      let rop := if op = 2 then ropBarrier else x.rop
      let v : Int := if op = 2 then 0 else (BitVec.ofNat 64 x.localA).toInt
      let s := s.modCmd c x.idx (fun y => { y with started := true, startTb := s.now })
      (s.setGen e { ((s.gen e).note rop) with localC := some v }).genAdvance e

/-- FAB_CMD_BARRIER (R401): command OP 2. -/
def execFabCmdBarrier (comp : CompId) (s : State) : Outcome State Fault Refusal := .next (s.contribute comp.val 2).settle

/-- FAB_CMD_REDUCE (R403): command OP 3. -/
def execFabCmdReduce (comp : CompId) (s : State) : Outcome State Fault Refusal := .next (s.contribute comp.val 3).settle

/-- ARRIVE (R401): a contribution of the subtree behind a port. -/
def execArrive (p : Fin 6) (f : Frame) (s : State) : Outcome State Fault Refusal :=
  match s.receive p.val f 0x21 with
  | (s, false) => .next s.settle
  | (s, true) =>
    match s.groupOf (f.addr.toNat % 65536) with
    | none => .next s
    | some e =>
      if (s.grpPorts e).contains p.val = false then .next s else
      let s := s.chargeGlobal p.val e f.payload.length
      if f.aux.toNat = ropLost then .next (s.genLost e).settle else
      let g := (s.gen e).note f.aux.toNat
      .next ((s.setGen e { g with fromPorts := smIns p.val (sumOf f.payload) (smErase g.fromPorts p.val) }).genAdvance e).settle

/-- RELEASE (R401): the result travels down and completes the member's command. -/
def execRelease (p : Fin 6) (f : Frame) (s : State) : Outcome State Fault Refusal :=
  match s.receive p.val f 0x22 with
  | (s, false) => .next s.settle
  | (s, true) =>
    match s.groupOf (f.addr.toNat % 65536) with
    | none => .next s
    | some e =>
      if (s.grpPorts e).contains p.val then .next s else
      .next (((s.chargeGlobal p.val e f.payload.length).genDone e f.aux.toNat (sumOf f.payload)).slotless e p.val f).settle

/-- A broadcast at this device, received through a port or from its own command: sent down the group's ports and pushed into the member's
queue (R404). -/
def State.broadcast (s : State) (e : Nat) (from' : Option Nat) (f : Frame) : State :=
  let s := (s.grpPorts e).foldl (fun s p => s.sendGlobal e p f.tag.toNat 0x23 0 f.addr f.payload f.poison) s
  if s.grpMember e then (s.remotePush from' (s.getF (Reg.FABG_GRP e) Fld.FABG_GRP_BQUEUE) f none).1 else s

/-- BCAST (R404). -/
def execBcast (p : Fin 6) (f : Frame) (s : State) : Outcome State Fault Refusal :=
  match s.receive p.val f 0x23 with
  | (s, false) => .next s.settle
  | (s, true) =>
    match s.groupOf (f.addr.toNat % 65536) with
    | none => .next s
    | some e => .next ((s.broadcast e (some p.val) f).slotless e p.val f).settle

/-- FAB_CMD_BCAST (R404): command OP 4, from the group's root. -/
def execFabCmdBcast (comp : CompId) (s : State) : Outcome State Fault Refusal :=
  let c := comp.val
  match s.nextCmd c 4 with
  | none => .next s
  | some x =>
    let e := x.grp
    let k := Reg.FABG_GRP e
    if s.isF (Reg.FXC_ACC c) Fld.FXC_ACC_EN = false then .next s
    else if x.reserved ∨ x.len ≠ 256 ∨ s.isF k Fld.FABG_GRP_EN = false ∨ s.isF k Fld.FABG_GRP_ROOT = false ∨ s.grpCid e ≠ c then
      .next (s.endCmd c x.idx 4)
    else
      match State.moverRead (s.fxcMover c x) 6 s {} x.localA 256 0 with
      | (s, .error st) => .next (s.endCmd c x.idx st).settle
      | (s, .ok (l, q)) =>
        if q ≠ 0 then .next (s.endCmd c x.idx 3).settle else
        let f : Frame := { typ := 0x23, vc := 2, ncell := 8, seq := 0, dst := 0, src := BitVec.ofNat 18 s.node,
                           fdom := BitVec.ofNat 16 (s.getF k Fld.FABG_GRP_FDOM), tag := BitVec.ofNat 16 x.tag, opid := 0, aux := 0,
                           addr := BitVec.ofNat 64 (s.getF k Fld.FABG_GRP_FDOM), opnd := 0, payload := l }
        .next ((s.broadcast e none f).endCmd c x.idx 0).settle

/-! ### Snapshots (R404) -/

/-- The values that a snapshot captures: ledger SEQ, sync state with ERR_NS, and the ports' counters. -/
def State.capture (s : State) : List Word :=
  [s.rd Reg.LG_SEQ_NEW, putN (s.rd Reg.FABG_SYNC) 32 32 s.syncErr] ++ (natsFrom 0 6).map (fun p => s.rd (Reg.FAB_PORT_STAT p))

/-- The act of a snapshot at a member: a local command completes; otherwise an event is posted into the group's queue (log 23). -/
def State.snapAct (s : State) (c st : Nat) : State :=
  let s := { s with fab := { s.fab with shots := smPut (fun _ => []) s.fab.shots c s.capture, snaps := s.fab.snaps.filter (fun e => decide (e.1 ≠ c)) } }
  match (s.fxcCmds c).find? (fun x => x.started && x.status.isNone && decide (x.op = 5)) with
  | some x => (s.modCmd c x.idx (fun y => { y with result := s.tb })).endCmd c x.idx st
  | none =>
    match (natsFrom 0 64).find? (fun e => s.isF (Reg.FABG_GRP e) Fld.FABG_GRP_EN && s.grpMember e && decide (s.grpCid e = c)) with
    | none => s
    | some e =>
      match s.postEvent 0 c (s.getF (Reg.FABG_GRP e) Fld.FABG_GRP_BQUEUE) ⟨0, if c = 63 then 127 else c, 6, 0, 0, s.tb⟩ with
      | (s, .done) => s
      | (s, _) => s.addF (Reg.IRR_STAT 0) Fld.IRR_STAT_DROPS 1

/-- A snapshot scheduled at a member; one whose time has passed acts at once with status 9. -/
def State.snapLocal (s : State) (e : Nat) (t : Word) : State :=
  if s.grpMember e = false then s else
  let c := s.grpCid e
  if t.toNat < s.now then s.snapAct c 9 else { s with fab := { s.fab with snaps := s.fab.snaps ++ [(c, t)] } }

/-- SNAP (R404). -/
def execSnap (p : Fin 6) (f : Frame) (s : State) : Outcome State Fault Refusal :=
  match s.receive p.val f 0x24 with
  | (s, false) => .next s.settle
  | (s, true) =>
    match s.groupOf f.fdom.toNat with
    | none => .next s
    | some e => .next ((((s.grpPorts e).foldl (fun s q => s.sendGlobal e q 0 0x24 0 f.addr [] 0) s).snapLocal e f.addr).slotless e p.val f).settle

/-- FAB_CMD_SNAP (R404): command OP 5, from the group's root as a broadcast (log 172). -/
def execFabCmdSnap (comp : CompId) (s : State) : Outcome State Fault Refusal :=
  let c := comp.val
  match s.nextCmd c 5 with
  | none => .next s
  | some x =>
    let e := x.grp
    let k := Reg.FABG_GRP e
    if s.isF (Reg.FXC_ACC c) Fld.FXC_ACC_EN = false then .next s
    else if x.reserved ∨ s.isF k Fld.FABG_GRP_EN = false ∨ s.isF k Fld.FABG_GRP_ROOT = false ∨ s.grpMember e = false ∨ s.grpCid e ≠ c then
      .next (s.endCmd c x.idx 4)
    else
      let t := BitVec.ofNat 64 x.localA
      let s := s.modCmd c x.idx (fun y => { y with started := true, startTb := s.now })
      .next (((s.grpPorts e).foldl (fun s q => s.sendGlobal e q 0 0x24 0 t [] 0) s).snapLocal e t).settle

/-- SNAPSHOT_ACT (R404): the time of a member's snapshot has come. -/
def execSnapshotAct (comp : CompId) (s : State) : Outcome State Fault Refusal :=
  match s.fab.snaps.find? (fun e => decide (e.1 = comp.val ∧ e.2.toNat ≤ s.now)) with
  | none => .next s
  | some _ => .next (s.snapAct comp.val 0).settle

/-! ### Lost links (R392, R402, R410) -/

/-- A frame unacknowledged on a lost link ended as the table of R392 states; an ARRIVE and a RELEASE belong to a generation,
which loseLink ends. -/
def State.loseFrame (s : State) (f : Frame) : State :=
  let mine := decide (f.src.toNat = s.node)
  match f.typ.toNat with
  | 0x01 => if mine then (match s.pusher f.opid with | some c => s.pushEnded c 3 | none => s) else s
  | 0x02 => if mine then (match s.cmdOf f.opid.toNat with | some (c, x) => s.endCmd c x.idx 7 | none => s) else s
  | 0x03 => if mine then (match s.cmdOf f.opid.toNat with | some (c, x) => s.endCmd c x.idx 7 | none => s) else s
  | 0x23 =>
    if mine = false then s else
    match s.groupOf (f.addr.toNat % 65536) with
    | some e => (s.fxcCmds (s.grpCid e)).foldl (fun s x =>
        if x.op = 4 ∧ x.grp = e ∧ x.status = some 0 then s.modCmd (s.grpCid e) x.idx (fun y => { y with status := some 7 }) else s) s
    | none => s
  | _ => s

/-- A link lost, its port left in state `st`: unacknowledged frames end, frames not yet sent take another route, and a
generation that waits on the port ends with status 7. -/
def State.loseLink (s : State) (p st : Nat) : State :=
  let x := s.fabPort p
  let s := (s.setFabPort p {}).setFabState p st
  let s := x.replay.foldl (fun s f => s.loseFrame f) s
  let s := x.waitq.foldl (fun s f =>
    if f.vc = 2 then s.loseFrame f else
    match s.sendFrame ((s.fdomComp f.fdom.toNat).getD 0) f with
    | (s, .sent _) => s
    | (s, _) => s.loseFrame f) s
  let s := (natsFrom 0 64).foldl (fun s e =>
    let g := s.gen e
    if s.isF (Reg.FABG_GRP e) Fld.FABG_GRP_EN = false ∨ (g.localC.isNone ∧ g.fromPorts = []) then s
    else if (s.grpPorts e).contains p then s.genLost e
    else if s.isF (Reg.FABG_GRP e) Fld.FABG_GRP_ROOT = false ∧ (p = s.upPort ∨ s.ring ∧ p = s.dnPort) then s.genDone e 7 0
    else s) s
  s.updSync

/-- LINK_LOST (R392, R15). -/
def execLinkLost (p : Fin 6) (s : State) : Outcome State Fault Refusal :=
  if s.fabState p.val = 0 then .next s else .next (s.loseLink p.val 0).settle

/-- FAB_LINK_TRAINING (R383): with leave the port trains; it comes up where training succeeds and both ends agree on RING.
Three failures in a row end in STATE 5, with the link lost. -/
def execFabLinkTraining (p : Fin 6) (ok peerRing : Bool) (s : State) : Outcome State Fault Refusal :=
  let st := s.fabState p.val
  if s.isF (Reg.FAB_PORT_CTL p.val) Fld.FAB_PORT_CTL_EN = false ∨ ¬(st = 0 ∨ st = 1 ∨ st = 4) then .next s else
  match s.askLeave (.fabric p) with
  | (s, false) => .next (s.setFabState p.val 1)
  | (s, true) =>
    let s := s.giveLeave (.fabric p)
    let x := s.fabPort p.val
    if ok ∧ peerRing = s.ring then
      let x' : FabPort := if st = 4 ∨ x.again then { x with tries := 0, helloOk := true, crcErrs := [], again := false }
        else { helloOk := true, waitq := x.waitq }
      let s := if s.alone then { s with fab := { s.fab with lastSync := s.now } } else s
      .next (((s.setFabPort p.val x'.flushWait).setFabState p.val 2).updSync).settle
    else if x.tries + 1 < 3 then .next ((s.setFabPort p.val { x with tries := x.tries + 1 }).setFabState p.val (if st = 4 then 4 else 1))
    else .next (s.loseLink p.val 5).settle

/-- PORT_QUARANTINE (R410): sixteen violations within 1 ms. -/
def execPortQuarantine (p : Fin 6) (s : State) : Outcome State Fault Refusal :=
  let n := ((s.fabPort p.val).viols.filter (fun t => decide (s.now ≤ t + 1000000))).length
  if s.fabUp p.val = false ∨ n < 16 then .next s else .next (s.loseLink p.val 3).settle

/-! ### Writes of the fabric's registers -/

/-- A write of FAB_PORT_CTL (R383, R410): RETRAIN and UNQ act at once; clearing EN takes the port down. Only UNQ ends a quarantine, and
only RETRAIN takes a failed port out of STATE 5. -/
def State.wrPortCtl (s : State) (p : Nat) (v : Word) : State :=
  let k := Reg.FAB_PORT_CTL p
  let s := s.putFields k v
  let st := s.fabState p
  if (st = 3 ∧ bitN v 2 = false) ∨ (st = 5 ∧ bitN v 1 = false) then s
  else if s.isF k Fld.FAB_PORT_CTL_EN = false then (if st = 0 then s else s.loseLink p 0)
  else if st = 3 then s.retrain p 1
  else if bitN v 1 then s.retrain p (if st = 2 then 4 else 1)
  else if st = 0 then s.retrain p 1
  else s

/-- A write of FXC_ACC (R395): by H of the platform compartment, or by W when the page is that of compartment 63; a domain
bound twice is a denial. Commands that waited in the ring are read once the compartment may use the fabric. -/
def State.wrAcc (s : State) (w : Who) (c : Nat) (v : Word) : State :=
  let k := Reg.FXC_ACC c
  let ok := if c = 63 then w.wOrBoot else w.boot || w.isH s.platform
  let twice := bitN v 16 && (natsFrom 0 64).any (fun d => decide (d ≠ c) && s.isF (Reg.FXC_ACC d) Fld.FXC_ACC_EN &&
    decide (s.getF (Reg.FXC_ACC d) Fld.FXC_ACC_FDOM = fieldN v 0 16))
  if ok = false ∨ twice then s.denyAt k else
  let s := s.putFields k v
  if s.isF k Fld.FXC_ACC_EN then s.readRing c (s.ringDepth c) else s

/-- A write of FABG_GRP_e: entries of compartment 63 by W only; a generation in progress ends with status 4 here (R410). -/
def State.wrGroup (s : State) (w : Who) (e : Nat) (v : Word) : State :=
  let k := Reg.FABG_GRP e
  if s.platHOrW w = false ∨ ((fieldN v 16 6 = 63 ∨ s.grpCid e = 63) ∧ w.wOrBoot = false) then s.denyAt k else
  let g := s.gen e
  let s := if g.localC.isSome ∨ g.fromPorts ≠ [] then
      (let s := match s.memberCmd e with | some x => s.endCmd (s.grpCid e) x.idx 4 | none => s
       s.setGen e { gen := g.gen + 1 }) else s
  s.putFields k v

/-- A write of FABG_SUB_k: RSTFWD is writable by W only. -/
def State.wrSub (s : State) (w : Who) (i : Nat) (v : Word) : State :=
  let k := Reg.FABG_SUB i
  s.putFields k (if w.wOrBoot then v else putN v 39 1 (b2n (s.isF k Fld.FABG_SUB_RSTFWD)))

/-- A write of FABG_NODE: while every port is down. -/
def State.wrNode (s : State) (v : Word) : State :=
  if (natsFrom 0 6).all (fun p => decide (s.fabState p = 0)) then (s.putFields Reg.FABG_NODE v).updSync else s

/-- A write of FXC_RING or FXC_XLAT: the register takes it at once (R6), and it takes effect while the ring is empty: a write made while
commands wait in the ring is in force from the moment the ring is empty. DESIGN CHOICE, log 145. -/
def State.wrRing (s : State) (c k : Nat) (v : Word) : State :=
  (if s.ringEmpty c then s.unlatch k else s.latch k).putFields k v

end Sys2Proof.Machine
end

