-- ==== Sys2Proof/Machine/Power.lean ====
section
/-! DEFINITION. The remontoir's leaves and measurements, Index's decisions, and the emergency throttle (R413 to R420,
R428, R431 to R438, R517). -/

namespace Sys2Proof.Machine

open Host

/-! ### Operating points (R413, R420, R428) -/

/-- The frequency of an operating point in MHz. -/
def pointMHz (p : Nat) : Nat := 800 + 100 * p

/-- The throttle level in force. -/
def State.throttle (s : State) : Nat := s.getF Reg.IDX_THERM Fld.IDX_THERM_LEVEL

/-- A cluster's operating point set. -/
def State.setPoint (s : State) (n p : Nat) : State := (s.setF (Reg.IDX_CLB n) Fld.IDX_CLB_CUR p).updPool (some (s.cid n))

/-- The operating point of a mesh island: nominal but for the throttle (R414). -/
def State.meshPoint (s : State) (d : Nat) : Nat := smGet (fun _ => s.nominal) s.power.meshPt d

/-- A mesh island's operating point set. -/
def State.setMesh (s : State) (d p : Nat) : State :=
  { s with power := { s.power with meshPt := smPut (fun _ => s.nominal) s.power.meshPt d p } }

/-- A cluster sent towards an operating point, one step of 100 MHz at a time (R420). -/
def State.rampTo (s : State) (n p : Nat) : State :=
  (s.modCluster n (fun k => { k with ramp := if s.opPoint n = p then none else some p })).updPool (some (s.cid n))

/-- The point that Index has decided for a cluster. -/
def State.wantedPoint (s : State) (n : Nat) : Nat := smGet (fun _ => 0) s.power.wanted n

/-- A decision kept. -/
def State.setWanted (s : State) (n p : Nat) : State :=
  { s with power := { s.power with wanted := smPut (fun _ => 0) s.power.wanted n p } }

/-- Body bias of an island's logic, in tenths of a volt: positive forward, negative reverse (R428). -/
def bodyBias (state point : Nat) : Int :=
  match state with
  | 0 => if point < 8 then 1 else 0
  | 1 => -2
  | 2 => -3
  | _ => -4

/-- SRAM assist of an island (R428). -/
inductive Assist where
  | off | write | lightSleep | unpowered
  deriving DecidableEq, Repr

/-- The SRAM assist that a state and an operating point give (R428). -/
def sramAssist (state point : Nat) : Assist :=
  match state with
  | 0 => if point < 8 then .write else .off
  | 1 => if point < 8 then .write else .off
  | 2 => .lightSleep
  | _ => .unpowered

/-- RAMP_STEP (R420): the island moves one step of 100 MHz. -/
def execRampStep (n : ClusterId) (s : State) : Outcome State Fault Refusal :=
  match (s.cluster n.val).ramp with
  | none => .next s
  | some p =>
    let c := s.opPoint n.val
    let c' := if c < p then c + 1 else if p < c then c - 1 else c
    let s := if c' = p then s.modCluster n.val (fun k => { k with ramp := none }) else s
    .next (s.setPoint n.val c')

/-! ### Leave (R416 to R418) -/

/-- LEAVE_REQUEST (R416). -/
def execLeaveRequest (o : LeaveOp) (s : State) : Outcome State Fault Refusal := .next (s.askLeave o).1

/-- Crypto leave asked for a cluster: a refusal is kept with its time (R417, R432). -/
def State.askCrypto (s : State) (n : ClusterId) : State :=
  if s.holdsLeave (.crypto n) then s else
  match s.askLeave (.crypto n) with
  | (s, true) => s.modCluster n.val (fun k => { k with cryptoRef := none })
  | (s, false) => s.modCluster n.val (fun k => { k with cryptoRef := some s.now })

/-- CRYPTO_LEAVE (R417). -/
def execCryptoLeave (n : ClusterId) (s : State) : Outcome State Fault Refusal := .next (s.askCrypto n)

/-- CRYPTO_LEAVE_RETRY (R417): 100 µs after the refusal. -/
def execCryptoLeaveRetry (n : ClusterId) (s : State) : Outcome State Fault Refusal :=
  match (s.cluster n.val).cryptoRef with
  | none => .next s
  | some t => if s.now < t + 100000 then .next s else .next (s.askCrypto n)

/-- CRYPTO_LEAVE_RETURN (R417): 1 ms has passed without such an instruction. -/
def execCryptoLeaveReturn (n : ClusterId) (s : State) : Outcome State Fault Refusal :=
  if s.now < (s.cluster n.val).cryptoUse + 1000000 then .next s
  else .next ((s.modCluster n.val (fun k => { k with cryptoRef := none })).giveLeave (.crypto n))

/-- The boost leave of a cluster. -/
def State.boostLeave (s : State) (n : Nat) : Option Leave :=
  s.power.leaves.find? (fun l => match l.op with | .boost m _ => decide (m.val = n) | _ => false)

/-- A cluster's boost leave gone. -/
def State.endBoost (s : State) (n : Nat) : State :=
  match s.boostLeave n with
  | none => s
  | some l => s.giveLeave l.op

/-- A change of a cluster's decided point, logged (R438, KIND 1). -/
def State.logPoint (s : State) (n old new reason : Nat) : State :=
  if old = new then s
  else s.idxLog 1 reason n (s.cid n) (BitVec.ofNat 64 (pointMHz old)) (BitVec.ofNat 64 (pointMHz new))

/-- BOOST_LAPSE (R418). -/
def execBoostLapse (n : ClusterId) (s : State) : Outcome State Fault Refusal :=
  match s.boostLeave n.val with
  | none => .next s
  | some l =>
    if s.now < l.tb + max 1 (s.getF Reg.RMT_CTL Fld.RMT_CTL_BOOST_MS) * 1000000 then .next s else
    let old := s.wantedPoint n.val
    .next (((((s.endBoost n.val).setWanted n.val s.nominal).rampTo n.val s.nominal).logPoint n.val old s.nominal 11)).settle

/-! ### Shares (R415) -/

/-- The sum of every SHARE, each at least 4 per cluster, and PLAT. -/
def State.shareSum (s : State) : Nat :=
  (natsFrom 0 64).foldl (fun a c => a + s.share c) (s.getF Reg.RMT_LIM Fld.RMT_LIM_PLAT)

/-- A write of RMT_LIM (`none`) or of a pool's SHARE: a denial where the sum would exceed ILIM. -/
def State.wrShare (s : State) (pool : Option Nat) (v : Word) : State :=
  let k := match pool with | none => Reg.RMT_LIM | some c => Reg.RMT_POOL c
  let t := s.putFields k v
  if t.ilim < t.shareSum then s.denyAt k else t

/-! ### Index (R431, R432, R434) -/

/-- IDX_STAT.ALIVE of the service core that governs cluster `n`; an uncore island belongs to service core 0. -/
def State.alive (s : State) (k : Nat) : State :=
  s.setF Reg.IDX_STAT Fld.IDX_STAT_ALIVE (s.getF Reg.IDX_STAT Fld.IDX_STAT_ALIVE ||| 2 ^ k)

/-- Whether a core of a cluster is in deterministic mode. -/
def State.dtmCluster (s : State) (n : Nat) : Bool := (clusterCores n).any (fun c => bitN (s.core c).eff.coreCtl 0)

/-- The first part of R432: what a cluster wants, within its bounds. -/
def State.wantPoint (s : State) (n asked : Nat) : Nat :=
  let k := Reg.IDX_CLB n
  let w := min (max asked (s.getF k Fld.IDX_CLB_FMIN)) (min 23 (s.getF k Fld.IDX_CLB_FMAX))
  let cap := if s.dtmCluster n || decide (s.throttle ≠ 0) then s.nominal else 23
  min w cap

/-- The credits of leaves of a compartment other than boost, with crypto leave refused within the last 1 ms. -/
def State.otherLeaves (s : State) (c : Nat) : Nat :=
  let out := (s.power.leaves.filter (fun l => !leaveIsBoost l.op && decide (s.leavePool l.op = some c))).foldl (fun a l => a + l.credits) 0
  (s.clustersOf c).foldl (fun a n =>
    match (s.cluster n).cryptoRef with
    | some t => if s.now ≤ t + 1000000 then a + 6 else a
    | none => a) out

/-- The cluster with the highest want above the lowest point; among equals the highest index. -/
def highestWant : List (Nat × Nat) → Option (Nat × Nat)
  | [] => none
  | e :: t =>
    match highestWant t with
    | none => if e.2 = 0 then none else some e
    | some f => if e.2 > f.2 ∨ (e.2 = f.2 ∧ e.1 > f.1) then some e else some f

/-- The second part of R432: wants lowered one step at a time until they fit the share. -/
def fitShare : Nat → List (Nat × Nat) → Nat → List (Nat × Nat)
  | 0, l, _ => l
  | f + 1, l, room =>
    if l.foldl (fun a e => a + credits e.2) 0 ≤ room then l else
    match highestWant l with
    | none => l
    | some h => fitShare f (l.map (fun e => if e = h then (e.1, e.2 - 1) else e)) room

/-- A decided point for a cluster: boost leave held or renewed for its excess; a refusal leaves it at nominal (R432). -/
def State.decidePoint (s : State) (n want : Nat) : State :=
  let old := s.wantedPoint n
  let s := s.endBoost n
  let (s, p, refused) :=
    if want ≤ s.nominal then (s, want, false) else
    -- the boost leave covers the excess over nominal, so the cluster itself counts at nominal while it is asked
    match (s.rampTo n s.nominal).askLeave (.boost (Fin.ofNat 96 n) (Fin.ofNat 24 want)) with
    | (s, true) => (s, want, false)
    | (s, false) => (s, s.nominal, true)
  let s := (s.setWanted n p).rampTo n (if s.throttle = 2 then min p (s.opPoint n) else p)
  s.logPoint n old p (if refused then 3 else if old < p then 1 else 2)

/-- OPERATING_POINT_DECISION (R432): the points that the activity of the compartment's clusters asks for, in ascending
order of cluster. -/
def execOperatingPointDecision (c : CompId) (asked : List (Fin 24)) (s : State) : Outcome State Fault Refusal :=
  let cl := s.clustersOf c.val
  let wants := (cl.zip asked).map (fun (e : Nat × Fin 24) => (e.1, s.wantPoint e.1 e.2.val))
  let rest := (cl.drop asked.length).map (fun n => (n, s.wantPoint n 0))
  let all := wants ++ rest
  let fitted := fitShare (24 * all.length) all (s.share c.val - s.otherLeaves c.val)
  -- clusters that are lowered make room before boost leave is asked for any
  let s := fitted.foldl (fun s e => (s.endBoost e.1).rampTo e.1 (min e.2 s.nominal)) s
  let s := fitted.foldl (fun s e => (s.decidePoint e.1 e.2).alive (e.1 / 24)) s
  .next s.settle

/-- INDEX_DECISION (R431): each within its bound; a change is logged. -/
def execIndexDecision (ch : IndexChoice) (reason : Fin 13) (s : State) : Outcome State Fault Refusal :=
  match ch with
  | .margin i mv =>
    let old := smGet (fun _ => 0) s.power.margins i.val
    let s := s.alive (if i.val < 96 then i.val / 24 else 0)
    if old = mv.val then .next s else
    let s := { s with power := { s.power with margins := smPut (fun _ => 0) s.power.margins i.val mv.val } }
    .next (s.idxLog 2 reason.val i.val 0 (BitVec.ofNat 64 old) (BitVec.ofNat 64 mv.val)).settle
  | .prefetch n d =>
    let k := Reg.L2C_PF n.val
    let old := s.getF k Fld.L2C_PF_CUR
    let s := s.alive (n.val / 24)
    if s.getF k Fld.L2C_PF_MAX < d.val ∨ old = d.val then .next s else
    .next ((s.setF k Fld.L2C_PF_CUR d.val).idxLog 3 reason.val n.val 0 (BitVec.ofNat 64 old) (BitVec.ofNat 64 d.val)).settle
  | .pageColor c o =>
    let old := smGet (fun _ => true) s.dram.pages c.val
    let s := s.alive 0
    if s.orderB = false ∨ old = o then .next s else
    let s := { s with dram := { s.dram with pages := smPut (fun _ => true) s.dram.pages c.val o } }
    .next (s.idxLog 4 reason.val 0xFF 0 (BitVec.ofNat 64 (b2n old)) (BitVec.ofNat 64 (b2n o))).settle
  | .pageChannel n o =>
    let old := smGet (fun _ => true) s.dram.pages (64 + n.val)
    let s := s.alive 0
    if s.orderB ∨ old = o then .next s else
    let s := { s with dram := { s.dram with pages := smPut (fun _ => true) s.dram.pages (64 + n.val) o } }
    .next (s.idxLog 4 reason.val (islandDmc n.val) 0 (BitVec.ofNat 64 (b2n old)) (BitVec.ofNat 64 (b2n o))).settle
  | .linkWidth p w => .next ((s.alive 0).setWidth p.val w.val reason.val).settle

/-- INDEX_CORE_STALL (R434): ALIVE stays clear; its islands keep what they have, and boost leaves lapse in time. -/
def execIndexCoreStall (k : Fin 4) (s : State) : Outcome State Fault Refusal :=
  let a := s.getF Reg.IDX_STAT Fld.IDX_STAT_ALIVE
  .next (s.setF Reg.IDX_STAT Fld.IDX_STAT_ALIVE (a - (if a.testBit k.val then 2 ^ k.val else 0)))

/-- DROOP_EVENT (R431): the stretch of the clock is timing; the event counts towards the island's margin. -/
def execDroopEvent (i : Fin 136) (s : State) : Outcome State Fault Refusal :=
  .next { s with power := { s.power with droops := smPut (fun _ => 0) s.power.droops i.val (smGet (fun _ => 0) s.power.droops i.val + 1) } }

/-! ### The emergency throttle (R435) -/

/-- Every boost leave revoked, every cluster and mesh island capped at nominal. -/
def State.capAll (s : State) : State :=
  foldN (fun n s =>
    let s := s.endBoost n
    let s := if s.nominal < s.wantedPoint n then s.setWanted n s.nominal else s
    let s := if s.nominal < s.opPoint n then s.setPoint n s.nominal else s
    s.modCluster n (fun k => { k with ramp := match k.ramp with | some p => (if s.nominal < p then none else some p) | none => none }))
    (natsFrom 0 96) s

/-- The throttle raised to a level: announced at the start of the interval, each rise logged (R437, R438). -/
def State.raiseThrottle (s : State) (level reason : Nat) : State :=
  let old := s.throttle
  let s := s.noteTrigger
  if level ≤ old then s else
  let s := (s.setF Reg.IDX_THERM Fld.IDX_THERM_LEVEL level).capAll
  let s := if old = 0 then s.announceStart 1 level else s
  let s := s.modOpen (fun p => { p with throttle := true })
  let s := { s with power := { s.power with prochotOut := true } }
  s.idxLog 8 reason 0xFF 0 (BitVec.ofNat 64 old) (BitVec.ofNat 64 level)

/-- The hottest sensor's reading. -/
def State.setHot (s : State) (t : Nat) : State := (s.noteTrigger.setF Reg.IDX_THERM Fld.IDX_THERM_HOT t).noteTrigger

/-- EMERGENCY_THROTTLE_L1 (R435): the hottest sensor reads `t`; at EMERG the throttle is raised. -/
def execEmergencyThrottleL1 (t : BitVec 8) (s : State) : Outcome State Fault Refusal :=
  let s := s.setHot t.toNat
  if t.toNat < s.emerg then .next s else
  let s := { s with power := { s.power with level1 := true } }
  .next (s.raiseThrottle 1 5).settle

/-- Level 2 raised for a cause. -/
def State.raiseLevel2 (s : State) (r : ThrottleCause) : State :=
  match r with
  | .sensor t =>
    let s := s.setHot (min 255 t)
    if t < s.emerg + 2 then s
    else ({ s with power := { s.power with level1 := true } }).raiseThrottle 2 5
  | .prochot => if s.power.prochotIn ∧ s.power.prochotOut = false then s.raiseThrottle 2 8 else s
  | .current => if 20 ≤ s.power.overs then s.raiseThrottle 2 6 else s
  | .dram n => if s.getF (Reg.DMC_STAT n.val) Fld.DMC_STAT_RATE = 2 then s.raiseThrottle 2 9 else s

/-- EMERGENCY_THROTTLE_L2 (R435). -/
def execEmergencyThrottleL2 (r : ThrottleCause) (s : State) : Outcome State Fault Refusal := .next (s.raiseLevel2 r).settle

/-- THROTTLE_STEP_DOWN (R435): at level 2, until the trigger clears, every cluster and mesh island steps down one operating
point, never below 0.8 GHz. -/
def execThrottleStepDown (s : State) : Outcome State Fault Refusal :=
  if s.throttle ≠ 2 ∨ s.level2Trigger = false then .next s else
  let s := foldN (fun n s => (s.setPoint n (s.opPoint n - 1)).modCluster n (fun k => { k with ramp := none })) (natsFrom 0 96) s
  .next (foldN (fun d s => s.setMesh d (s.meshPoint d - 1)) (natsFrom 0 8) s)

/-- Islands sent back to the points of R432. -/
def State.returnClocks (s : State) : State :=
  foldN (fun d s => s.setMesh d s.nominal) (natsFrom 0 8) (foldN (fun n s => s.rampTo n (s.wantedPoint n)) (natsFrom 0 96) s)

/-- The start entry of the throttle interval announced as ended. -/
def State.announceThrottleEnd (s : State) : State :=
  match s.power.declared.find? (fun d => decide (d.kind = 1)) with
  | none => s
  | some d => s.announceEnd 1 d.detail

/-- PROCHOT_N released by the device: an assertion still present from outside raises level 2 again at once (R517). -/
def State.releaseProchot (s : State) (outside : Bool) : State :=
  let s := { s with power := { s.power with prochotOut := false, prochotIn := outside } }
  if outside then s.raiseLevel2 .prochot else s

/-- THROTTLE_END (R435): a level ends when its triggers have stayed clear for 1 ms and every sensor reads below EMERG - 5 °C. -/
def execThrottleEnd (s : State) : Outcome State Fault Refusal :=
  let old := s.throttle
  if old = 0 ∨ s.level2Trigger ∨ s.now < s.power.trigTb + 1000000 ∨ s.emerg ≤ s.getF Reg.IDX_THERM Fld.IDX_THERM_HOT + 5 then .next s else
  let new := if old = 2 ∧ s.power.level1 then 1 else 0
  let s := { s with power := { s.power with level1 := decide (new = 1) } }
  let s := (s.setF Reg.IDX_THERM Fld.IDX_THERM_LEVEL new).returnClocks
  let s := s.idxLog 9 5 0xFF 0 (BitVec.ofNat 64 old) (BitVec.ofNat 64 new)
  .next (if new = 0 then s.announceThrottleEnd else s).settle

/-- PROCHOT_ASSERTED (R514, R517): not sensed while the device drives the pin. -/
def execProchotAsserted (s : State) : Outcome State Fault Refusal :=
  if s.power.prochotOut then .next s
  else .next (({ s with power := { s.power with prochotIn := true } }).raiseLevel2 .prochot).settle

/-- PROCHOT_RELEASE (R517): the device stops driving the pin once no level is in force. While no level is in force and it
drives nothing, the pin follows the outside. -/
def execProchotRelease (outside : Bool) (s : State) : Outcome State Fault Refusal :=
  if s.throttle ≠ 0 then .next s else .next (s.releaseProchot outside).settle

/-- CURRENT_MEASUREMENT (R419): 20 measurements in a row above the limit raise level 2. -/
def execCurrentMeasurement (c : BitVec 12) (s : State) : Outcome State Fault Refusal :=
  let s := s.setF Reg.RMT_STAT Fld.RMT_STAT_VIN c.toNat
  let n := if s.ilim < c.toNat then min 20 (s.power.overs + 1) else 0
  let s := s.noteTrigger
  let s := { s with power := { s.power with overs := n } }
  .next (s.raiseLevel2 .current).settle

/-! ### IDLE (R421) -/

/-- CORE_IDLE_ENTRY (R421): a core that is parked or in WAIT. -/
def execCoreIdleEntry (c : CoreId) (s : State) : Outcome State Fault Refusal :=
  let k := s.core c.val
  if k.run = .parked ∨ k.run = .waiting then .next (s.setCore c.val { k with idle := true }) else .next s

end Sys2Proof.Machine
end

