-- ==== Sys2Proof/Machine/Handshake.lean ====
section
/-! DEFINITION. Power states of islands and of the device, and the entry handshake (R421 to R430). -/

namespace Sys2Proof.Machine

open Host

/-! ### Islands (R412, R421) -/

/-- The lead page of an island. -/
def leadPage (i : Nat) : Nat :=
  if i < 96 then 0x100 + i else if i < 104 then 0x38 + (i - 96) else if i < 120 then 0x40 + (i - 104)
  else if i < 124 then 0x24 + (i - 120) else if i < 130 then 0x30 + (i - 124) else if i < 132 then 0x20 + (i - 130)
  else if i = 132 then 0x14 else if i = 133 then 0x10 else if i = 134 then 0x11 else 0x1

/-- Every kind of block. -/
def allBlks : List Blk :=
  [.dsp, .l2c, .usq, .cii, .mesh, .l3s, .bwMesh, .bwL3s, .bwD2d, .dmc, .bwDram, .pcie, .iom, .pcoa, .fab, .hub, .dma, .dmaa,
   .bwHub, .irr, .dmg, .fabg, .fxc, .idx, .wdn, .lg, .upt, .rmt, .cmt, .l3bm, .cmp, .qm, .ist, .ann, .dev, .pwc, .rst, .tbc,
   .swd, .gpio, .atl]

/-- The pages of the blocks of an island. -/
def islandPages (i : Nat) : List Nat :=
  if i < 96 then [0x100 + i, 0x160 + i, 0x1C0 + i, 0x220 + i]
  else allBlks.flatMap (fun b => ((natsFrom 0 b.base.2).filter (fun j => decide (b.island j = i))).map (fun j => b.base.1 + j))

/-- The island of a page. -/
def pageIsland (page : Nat) : Nat := match Blk.ofPage page with | some (b, i) => b.island i | none => 255

/-- The state of an island: 0 RUN, 1 IDLE, 2 SLEEP, 3 DEEP. -/
def State.islandState (s : State) (i : Nat) : Nat := s.getF (Reg.PWC_ISL i) Fld.PWC_ISL_STATE

/-- Whether an island is marked failed. -/
def State.islandFailed (s : State) (i : Nat) : Bool := s.isF (Reg.PWC_ISL i) Fld.PWC_ISL_FAILED

/-- The state of the device. -/
def State.devState (s : State) : Nat := s.getF Reg.PWC_DEV_STAT Fld.PWC_DEV_STAT_STATE

/-- An island's state set, in PWC_ISL and in BLK_PWR of its blocks. -/
def State.setIsland (s : State) (i v : Nat) : State :=
  let old := s.islandState i
  let s := s.setF (Reg.PWC_ISL i) Fld.PWC_ISL_STATE v
  if old = v then s else foldN (fun p s => s.setF (Reg.BLK_PWR p) Fld.BLK_PWR_STATE v) (islandPages i) s

/-- A change of an island's state logged (R438, KIND 7). -/
def State.logIsland (s : State) (i old new reason : Nat) : State :=
  if old = new then s else s.idxLog 7 reason i 0 (BitVec.ofNat 64 old) (BitVec.ofNat 64 new)

/-- What a cluster's cores lose in DEEP, which keeps registers only: the predictors with their arrays, and the CII pending bits, which
SLEEP keeps (R421; DEDUCED, log 174). -/
def State.losePredictors (s : State) (n t : Nat) : State :=
  if t = 3 then
    foldN (fun c s => (s.modCore c (fun k => { k with btb := [], rstack := [] })).wr (Reg.CII_PEND (c / 16) (c % 16)) 0#64) (clusterCores n) s
  else s

/-- The entry of an island into SLEEP or DEEP: caches emptied and TLBs empty (R178, R220), queues of a channel served; in DEEP
a port's IOTLB lost and a fabric port down. -/
def State.enterIsland (s : State) (i t : Nat) : State :=
  let s :=
    if i < 96 then (((s.wbL2 i).dropTlbs i).updEmpty i).losePredictors i t
    else if i < 104 then s.evictWhere (fun l _ => decide (sliceDie (sliceOf (l * 64)) = i - 96))
    else if i < 120 then s.flushQueues (i - 104)
    else if 120 ≤ i ∧ i < 124 ∧ t = 3 then { s with io := { s.io with iotlb := s.io.iotlb.filter (fun e => decide (e.port ≠ i - 120)) } }
    else if 124 ≤ i ∧ i < 130 ∧ t = 3 then s.loseLink (i - 124) 0
    else s
  s.setIsland i t

/-- Whether a core is parked (DSP_STAT.STATE = 0). -/
def Core.parkedOff (k : Core) : Bool := decide (k.run = .parked) || decide (k.run = .off)

/-! ### Answers of the blocks (R425, R426) -/

/-- The handshake that now asks an island. -/
def State.hsOf (s : State) (i : Nat) : Option Handshake := s.power.hs.find? (fun h => decide (h.island = i))

/-- A handshake's record replaced. -/
def State.putHs (s : State) (h h' : Handshake) : State :=
  { s with power := { s.power with hs := s.power.hs.map (fun x => if x = h then h' else x) } }

/-- The reason for which a test in service makes its target refuse: leave, once it runs; busy while it drains (R425, R472). -/
def State.testReason (s : State) (p : IstRun → Bool) : Option Nat :=
  match s.ist.find? (fun e => p e.2) with
  | none => none
  | some e => some (if e.2.running then 3 else 1)

/-- The reason for which a block must refuse, as its state gives it (R425); none where it may acknowledge. -/
def State.hsReason (s : State) (h : Handshake) (page : Nat) : Option Nat :=
  let w := decide (s.owner page % 64 = 63)
  if s.islandFailed h.island then some 8
  else if w && !h.fromW && decide (smGet (fun _ => 0) s.power.agreed page < h.target) then some 2
  else if w && decide (s.getF Reg.WDN_STAT Fld.WDN_STAT_STATE = 2) then some 1
  else
    match Blk.ofPage page with
    | some (.dsp, n) =>
      (match s.testReason (fun r => decide (r.kind = 0 ∧ r.target = n)) with
       | some k => some k
       | none =>
         if (s.cluster n).drain.isSome ∨ (s.cluster n).resetKind.isSome then some 1
         else if (clusterCores n).all (fun c => (s.core c).parkedOff) then none else some 1)
    | some (.usq, n) => if s.holdsLeave (.crypto (Fin.ofNat 96 n)) then some 3 else none
    | some (.l3s, _) => s.testReason (fun r => decide (r.kind = 1))
    | some (.dmc, n) =>
      (match s.testReason (fun r => decide (2 ≤ r.kind ∧ r.target = n)) with
       | some k => some k
       | none =>
         if s.channelBusy n then some 5 else if s.holdsLeave (.dram (Fin.ofNat 16 n)) then some 3
         else if s.channelHeld n then some 1 else none)
    | some (.pcie, p) => if s.holdsLeave (.pcie (Fin.ofNat 4 p)) then some 3 else none
    | some (.fab, p) => if s.holdsLeave (.fabric (Fin.ofNat 6 p)) then some 3 else none
    | some (.dma, n) => if (s.dmaJob n).isSome then some 1 else none
    | some (.fxc, c) => if smGet (fun _ => []) s.fab.cmds c = [] then none else some 1
    | some (.wdn, _) => if s.warden.q = [] then none else some 1
    | some (.l3bm, _) => if s.comp.bandFlush.isSome then some 1 else none
    | some (.lg, _) => if s.ledger.exporting.isSome then some 1 else none
    | some (.upt, _) => if s.apply.isSome then some 1 else none
    | _ => none

/-- Whether a block can acknowledge now: a core delays until its store buffer is empty (R201). -/
def State.hsCanAck (s : State) (page : Nat) : Bool :=
  match Blk.ofPage page with
  | some (.dsp, n) => (clusterCores n).all (fun c => decide ((s.core c).sb = []) && decide ((s.core c).posted = []))
  | _ => true

/-- The time allowed to a handshake in µs (R424). -/
def State.hsAllow (s : State) (h : Handshake) : Nat :=
  if h.device then min 1000 (s.getF Reg.PWC_DEV_REQ Fld.PWC_DEV_REQ_DELAY_US) else 1000

/-- A refusal counted (R426, R297): with reason "owner" against the warden/security block, and as a denial of the page (R296). -/
def State.hsRefuse (s : State) (h : Handshake) (page k : Nat) : State :=
  let b := if k = 2 then 0x10 else page
  let s := (s.addF (Reg.BLK_PWR b) Fld.BLK_PWR_REFUSALS 1).setF (Reg.BLK_PWR b) Fld.BLK_PWR_LAST_REASON k
  let s := (s.setF (Reg.PWC_ISL h.island) Fld.PWC_ISL_LAST_BLK b).setF (Reg.PWC_ISL h.island) Fld.PWC_ISL_LAST_REASON k
  let s := s.addF Reg.PWC_REFUSALS Fld.PWC_REFUSALS_COUNT 1
  let s := if h.device then
      (s.setF Reg.PWC_DEV_STAT Fld.PWC_DEV_STAT_LAST_BLK b).setF Reg.PWC_DEV_STAT Fld.PWC_DEV_STAT_LAST_REASON k else s
  let s := if k = 2 then s.wardenRefuse page (Reg.BLK_PWR page) else s
  s.putHs h { h with refused := some (h.refused.getD k) }

/-- The handshake that waits for a block's answer. -/
def State.hsWaiting (s : State) (page : Nat) : Option Handshake :=
  match s.hsOf (pageIsland page) with
  | none => none
  | some h => if h.waiting.contains page ∧ h.refused.isNone then some h else none

/-- An acknowledgement; the L2 of a cluster is empty with it (R220). -/
def State.hsAck (s : State) (h : Handshake) (page : Nat) : State :=
  let s := match Blk.ofPage page with
    | some (.l2c, n) => (s.wbL2 n).updEmpty n
    | _ => s
  s.putHs h { h with waiting := h.waiting.filter (· ≠ page) }

/-- An answer of a block. What its state decides it cannot answer otherwise; reasons 1, 3, 4 and 5 may also rest on what
only the block sees. -/
def State.hsAnswer (s : State) (page : Nat) (r : HsAnswer) : State :=
  match s.hsWaiting page with
  | none => s
  | some h =>
    match s.hsReason h page with
    | some k => s.hsRefuse h page k
    | none =>
      match r with
      | .ack => if s.hsCanAck page then s.hsAck h page else s
      | .refuse k => if k.val = 1 ∨ k.val = 3 ∨ k.val = 4 ∨ k.val = 5 then s.hsRefuse h page k.val else s
      | .delay us =>
        if h.startTb + s.hsAllow h * 1000 < s.now + us * 1000 then s else
        match Blk.ofPage page with
        | some (.l2c, n) => if s.l2Empty n then s else s.setF (Reg.L2C_STAT n) Fld.L2C_STAT_FLUSHING 1
        | _ => s

/-- HANDSHAKE_ANSWER (R424, R425). -/
def execHandshakeAnswer (page : BitVec 12) (r : HsAnswer) (s : State) : Outcome State Fault Refusal :=
  .next (s.hsAnswer page.toNat r)

/-- HANDSHAKE_DELAY_END (R424): the delaying block answers again. -/
def execHandshakeDelayEnd (page : BitVec 12) (r : HsAnswer) (s : State) : Outcome State Fault Refusal :=
  .next (s.hsAnswer page.toNat r)

/-- HANDSHAKE_TIMEOUT (R424): the allowance has passed. -/
def execHandshakeTimeout (page : BitVec 12) (s : State) : Outcome State Fault Refusal :=
  match s.hsWaiting page.toNat with
  | none => .next s
  | some h => if s.now < h.startTb + s.hsAllow h * 1000 then .next s else .next (s.hsRefuse h page.toNat 6)

/-! ### Requests and ends (R422 to R424) -/

/-- A handshake begun for an island. -/
def State.startHs (s : State) (i t : Nat) (device fromW auto : Bool) : State :=
  let s := s.setF (Reg.BLK_PWR (leadPage i)) Fld.BLK_PWR_PENDING 1
  let h : Handshake := ⟨i, t, device, fromW, islandPages i, s.now, none, auto⟩
  { s with power := { s.power with hs := s.power.hs ++ [h] } }

/-- A request in effect: RUN wakes, a deeper state than the present one begins a handshake. -/
def State.reqState (s : State) (i q : Nat) (fromW : Bool) : State :=
  if q = 0 then
    (if 2 ≤ s.islandState i ∧ !s.power.wakeWait.contains i then
       { s with power := { s.power with wakeWait := s.power.wakeWait ++ [i] } } else s)
  else if q = s.islandState i then s
  else s.startHs i q false fromW false

/-- A handshake's record gone: a device request that waited for it now asks the island; else a REQ written meanwhile is
applied. -/
def State.endHs (s : State) (h : Handshake) : State :=
  let i := h.island
  let s := { s with power := { s.power with hs := s.power.hs.erase h } }
  match s.hsOf i with
  | some h' => s.putHs h' { h' with startTb := s.now }
  | none =>
    let s := s.setF (Reg.BLK_PWR (leadPage i)) Fld.BLK_PWR_PENDING 0
    let s := if i < 96 then s.setF (Reg.L2C_STAT i) Fld.L2C_STAT_FLUSHING 0 else s
    match s.power.newReq.find? (fun (e : Nat × (Nat × Bool)) => decide (e.1 = i)) with
    | none => s
    | some e =>
      let s := { s with power := { s.power with newReq := s.power.newReq.erase e } }
      s.reqState i e.2.1 e.2.2

/-- The records of a device request. -/
def State.devHs (s : State) : List Handshake := s.power.hs.filter (fun h => h.device)

/-- A handshake aborted (R424, R426): ABORTS of every island that was asked. -/
def State.abortHs (s : State) (h : Handshake) (reason : Nat) : State :=
  let all := if h.device then s.devHs else [h]
  let s := all.foldl (fun s (x : Handshake) => (s.addF (Reg.PWC_ISL x.island) Fld.PWC_ISL_ABORTS 1).endHs x) s
  if h.device then
    (s.setF Reg.PWC_DEV_STAT Fld.PWC_DEV_STAT_RESULT 4).setF Reg.PWC_DEV_STAT Fld.PWC_DEV_STAT_LAST_REASON reason
  else s

/-- A wake event, or a reset, before the commit of an island's handshake (R427, R453). -/
def State.abortWake (s : State) (i : Nat) : State :=
  match s.hsOf i with
  | none => s
  | some h => s.abortHs h 7

/-- HANDSHAKE_ABORT (R424). -/
def execHandshakeAbort (i : Fin 136) (s : State) : Outcome State Fault Refusal :=
  match s.hsOf i.val with
  | none => .next s
  | some h =>
    match h.refused with
    | none => .next s
    | some k => .next (s.abortHs h k)

/-- A write of BLK_PWR: AUTOWAKE on every page, REQ on lead pages only, where one by W agrees to the state of any block (R297); values of REQ other than RUN, SLEEP and DEEP are
ignored (R424). -/
def State.wrBlkPwr (s : State) (w : Who) (page : Nat) (v : Word) : State :=
  let k := Reg.BLK_PWR page
  let s := s.setF k Fld.BLK_PWR_AUTOWAKE (fieldN v 3 1)
  let i := pageIsland page
  let q := fieldN v 0 3
  let s := if w.wOrBoot then { s with power := { s.power with agreed := smPut (fun _ => 0) s.power.agreed page q } } else s
  if leadPage i ≠ page ∨ (q ≠ 0 ∧ q ≠ 2 ∧ q ≠ 3) then s else
  let s := s.setF k Fld.BLK_PWR_REQ q
  match s.hsOf i with
  | none => s.reqState i q w.sec
  | some _ =>
    { s with power := { s.power with newReq := s.power.newReq.filter (fun (e : Nat × (Nat × Bool)) => decide (e.1 ≠ i)) ++ [(i, (q, w.sec))] } }

/-- The islands that a device request asks, in its order (R424): the always-on island and, but for OFF, the ledger die stay
in RUN (R422). -/
def deviceIslands (t : Nat) : List Nat :=
  natsFrom 0 96 ++ natsFrom 120 10 ++ natsFrom 96 8 ++ natsFrom 130 (if t = 4 then 5 else 4) ++ natsFrom 104 16

/-- An island woken: it is in RUN, its cores parked (R422). -/
def State.wakeIsland (s : State) (i reason : Nat) : State :=
  let old := s.islandState i
  let s := { s with power := { s.power with wakeWait := s.power.wakeWait.filter (· ≠ i) } }
  (s.setIsland i 0).logIsland i old 0 reason

/-- The device back in RUN: the REQ of each island is applied again (R423). -/
def State.wakeDevice (s : State) : State :=
  let s := s.setF Reg.PWC_DEV_STAT Fld.PWC_DEV_STAT_STATE 0
  foldN (fun i s =>
    let q := s.getF (Reg.BLK_PWR (leadPage i)) Fld.BLK_PWR_REQ
    if s.islandFailed i then s else s.setIsland i q) (deviceIslands 3) s

/-- A write of PWC_DEV_REQ: GO is ignored while a request runs (R424). -/
def State.wrDevReq (s : State) (w : Who) (v : Word) : State :=
  let k := Reg.PWC_DEV_REQ
  let q := fieldN v 0 3
  let ok := q = 0 ∨ q = 2 ∨ q = 3 ∨ q = 4
  let s := s.putFields k (if ok then v else putN v 0 3 (s.getF k Fld.PWC_DEV_REQ_STATE))
  let r := Reg.PWC_DEV_STAT
  if bitN v 3 = false ∨ s.getF r Fld.PWC_DEV_STAT_RESULT = 1 then s else
  let t := s.getF k Fld.PWC_DEV_REQ_STATE
  if t = 0 then ((if s.devState = 0 then s else s.wakeDevice).setF r Fld.PWC_DEV_STAT_RESULT 2) else
  foldN (fun i s => s.startHs i t true w.sec false) (deviceIslands t) (s.setF r Fld.PWC_DEV_STAT_RESULT 1)

/-- Whether a wake event of a cluster is present (R422). -/
def State.clusterWake (s : State) (n : Nat) : Bool :=
  (clusterCores n).any (fun c => (s.core c).woken || (natsFrom 0 64).any (fun i => s.armed c i)) ||
    (decide (s.getF Reg.WDN_CTL Fld.WDN_CTL_WCL = n) && decide (s.cid n = 63) && s.warden.q.any (fun r => r.delivered.isNone))

/-- ISLAND_WAKE (R421, R422, R427): before commit the wake event aborts the handshake; after it the island is in RUN. In
device SLEEP or DEEP a cluster's wake event, or an access that waits for the island, brings the device back to RUN (log 25). -/
def execIslandWake (i : Fin 136) (s : State) : Outcome State Fault Refusal :=
  let n := i.val
  let ev := decide (n < 96) && s.clusterWake n
  if s.islandFailed n then .next s
  else if (s.hsOf n).isSome then
    (if ev ∨ s.power.wakeWait.contains n then
       .next ({ s with power := { s.power with wakeWait := s.power.wakeWait.filter (· ≠ n) } }.abortWake n) else .next s)
  else if s.islandState n = 1 then
    (if n < 96 ∧ !ev ∧ (clusterCores n).all (fun c => (s.core c).parkedOff || decide ((s.core c).run = .waiting)) then .next s
     else .next (s.wakeIsland n 1).settle)
  else if 2 ≤ s.islandState n then
    (if ev = false ∧ s.power.wakeWait.contains n = false then .next s
     else if s.devState = 0 then .next (s.wakeIsland n 12).settle
     else .next (s.wakeDevice.wakeIsland n 1).settle)
  else .next s

/-- ISLAND_IDLE_ENTRY (R421): a cluster whose every core is IDLE, another island by its own finding. -/
def execIslandIdleEntry (i : Fin 136) (s : State) : Outcome State Fault Refusal :=
  let n := i.val
  let ok := decide (96 ≤ n) || (clusterCores n).all (fun c => (s.core c).idle || decide ((s.core c).run = .off))
  if s.islandState n ≠ 0 ∨ s.islandFailed n ∨ ok = false then .next s
  else .next ((s.setIsland n 1).logIsland n 0 1 2).settle

/-- AUTO_SLEEP (R421, R431): Index puts a parked cluster into SLEEP by the same handshake. -/
def execAutoSleep (n : ClusterId) (s : State) : Outcome State Fault Refusal :=
  if s.isF (Reg.IDX_CLB n.val) Fld.IDX_CLB_AUTO = false ∨ 2 ≤ s.islandState n.val ∨ (s.hsOf n.val).isSome ∨
     (clusterCores n.val).any (fun c => !(s.core c).parkedOff) ∨ s.islandFailed n.val then .next s
  else .next ((s.startHs n.val 2 false true true).alive (n.val / 24))

/-! ### Blocks that are asleep (R429, R430) -/

/-- Whether a block gives the asleep response: its island, or the device, is in SLEEP or DEEP, or the island has failed. -/
def State.blockAsleep (s : State) (page : Nat) : Bool :=
  let i := pageIsland page
  if i = 255 then false
  else decide (2 ≤ s.islandState i) || s.islandFailed i || (decide (2 ≤ s.devState) && decide (i < 134))

/-- AUTOWAKE_ACCESS (R427, R430): the access waits while its block's island wakes; before commit it aborts the handshake. -/
def execAutowakeAccess (page : BitVec 12) (s : State) : Outcome State Fault Refusal :=
  let i := pageIsland page.toNat
  if s.isF (Reg.BLK_PWR page.toNat) Fld.BLK_PWR_AUTOWAKE = false ∨ i = 255 ∨ s.islandFailed i then .next s
  else if (s.hsOf i).isSome then .next (s.abortWake i)
  else if s.blockAsleep page.toNat ∧ !s.power.wakeWait.contains i then
    .next { s with power := { s.power with wakeWait := s.power.wakeWait ++ [i] } }
  else .next s

/-- A core whose store buffer's head is a device store to a page, and that store. -/
def State.storeWaiting (s : State) (page : Nat) : Option (Nat × SbEntry) :=
  s.cores.findSome? (fun e => match e.2.sb with
    | x :: _ => if x.kind = .store ∧ x.mt = .devStrict ∧ pageAddr page ≤ x.pa ∧ x.pa < pageAddr page + 4096 then some (e.1, x) else none
    | [] => none)

/-- AUTOWAKE_TIMEOUT (R200, R430): the access receives the asleep response and is logged in the atlas: a store that waits at the head of its
buffer for the page, performed with its write dropped; otherwise which access it was the row does not say, and its address and requester
are open values. -/
def execAutowakeTimeout (page : BitVec 12) (s : State) : Outcome State Fault Refusal :=
  let i := pageIsland page.toNat
  if s.blockAsleep page.toNat = false ∨ s.isF (Reg.BLK_PWR page.toNat) Fld.BLK_PWR_AUTOWAKE = false then .next s else
  let s := { s with power := { s.power with wakeWait := s.power.wakeWait.filter (· ≠ i) } }
  match s.storeWaiting page.toNat with
  | some (core, e) =>
    let w : Who := { s.whoCore core with lvl := e.lvl.toNat }
    .next ((s.modCore core (fun k => { k with sb := k.sb.drop 1 })).strayBy 0 true e.pa w)
  | none =>
  let (a, s) := s.openWord
  let (x, s) := s.openWord
  .next (s.stray 0 (bitN x 3) (pageAddr page.toNat + a.toNat % 4096) (fieldN x 4 6) (bitN x 10) (fieldN x 11 2) (fieldN x 13 7)
    (fieldN x 20 4) 0)

end Sys2Proof.Machine
end

