-- ==== Sys2Proof/Machine/Reset.lean ====
section
/-! DEFINITION. Resets, OFF and the loss of supplies (R436, R443, R444, R448 to R453, R514), and the microcode, warden and
boot images (R307, R445, R480). -/

namespace Sys2Proof.Machine

open Host

/-! ### What a reset keeps (R451) -/

/-- Registers that stand for what MRAM or the always-on wake-status record holds: kept through every loss of power but that
of VSTBY, which drops RST_WAKE. -/
def mramKey (key : Nat) : Bool :=
  decide (key = Reg.RST_ARB 0) || decide (key = Reg.RST_ARB 1) || decide (key = Reg.RST_ARB 2) || decide (key = Reg.RST_ARB 3) ||
    decide (key = Reg.LG_SEQ_NEW) || decide (key = Reg.LG_SEQ_EXP) || decide (key = Reg.LG_WIND) || decide (key = Reg.LG_LOSS)

/-- Registers that a cold reset keeps. -/
def coldKey (key : Nat) : Bool := mramKey key || decide (key = Reg.RST_WAKE)

/-- Registers that a warm device reset keeps: those of the always-on island but for the secure watchdog's stage, DMG_CFG,
which only a cold reset frees (R332), and counts since cold reset, whose other fields are cleared afterwards. -/
def warmKey (key : Nat) : Bool :=
  coldKey key || (decide (key / 4096 < 7) && decide (key ≠ Reg.SWD_CTL)) || decide (key = Reg.DMG_CFG) ||
    decide (key = Reg.WDN_STAT) || decide (key = Reg.LG_LIVE)

/-- Registers that a fabric-coordinated reset keeps beside these. -/
def fabricKey (key : Nat) : Bool :=
  warmKey key || decide (key = Reg.FABG_NODE) || decide (key = Reg.FABG_SYNC) ||
    (natsFrom 0 6).any (fun k => decide (key = Reg.FABG_SUB k))

/-- Everything but MRAM, the timebase, the pins, the flash and the registers that `keep` names, lost; `mem`: memory stays. -/
def State.powerDown (s : State) (keep : Nat → Bool) (mem : Bool) : State :=
  let s := s.ledgerStop
  { pending := s.pending, code := s.code, free := s.free, tb := s.tb, slewAcc := s.slewAcc,
    regs := s.regs.filter (fun e => keep e.1),
    mem := if mem then s.mem else [], poison := if mem then s.poison else [],
    dram := { geom := s.dram.geom, poisonTab := if mem then s.dram.poisonTab else [] },
    ledger := s.ledger,
    boot := { st := .off, manufacturing := s.boot.manufacturing, arbBad := s.boot.arbBad, flash := s.boot.flash, wimg := s.boot.wimg, ifw := s.boot.ifw, mgmtReply := s.boot.mgmtReply },
    jtag := s.jtag, pins := s.pins }

/-- FAULT_N asserted (R448, R516). -/
def State.fault (s : State) : State := { s with pins := { s.pins with faultN := true } }

/-- RST_WAKE.FAIL written. -/
def State.setFail (s : State) (c : Nat) : State := s.setF Reg.RST_WAKE Fld.RST_WAKE_FAIL c

/-- Where the Keeper stands. -/
def State.setBoot (s : State) (b : BootState) : State := { s with boot := { s.boot with st := b } }

/-- The device in OFF; `locked`: only RETRY or a cold reset starts it (R450). -/
def State.enterOff (s : State) (locked : Bool) : State :=
  (s.powerDown coldKey false).setBoot (if locked then .offLocked else .off)

/-- Every handshake aborted by a wider event (R453). -/
def State.abortAll (s : State) : State := foldN (fun i s => s.abortWake i) (natsFrom 0 136) s

/-- A device reset, up to the start of start-up: `cause` as RST_WAKE.CAUSE, 1 cold, 2 warm, 3 fabric-coordinated. DRAM keeps
its contents until step 7. -/
def State.deviceReset (s : State) (cause : Nat) : State :=
  let s := s.abortAll
  let t := if cause = 1 then s.powerDown coldKey false
    else s.powerDown (if cause = 3 then fabricKey else warmKey) (s.isF Reg.RST_CFG Fld.RST_CFG_KEEPDRAM)
  let t := if cause = 1 then t else
    let t := t.wr Reg.WDN_STAT 0#64
    let t := t.setF Reg.WDN_STAT Fld.WDN_STAT_RESTARTS (s.getF Reg.WDN_STAT Fld.WDN_STAT_RESTARTS)
    let t := (t.wr Reg.LG_LIVE 0#64).setF Reg.LG_LIVE Fld.LG_LIVE_PEAK (s.getF Reg.LG_LIVE Fld.LG_LIVE_PEAK)
    let t := (t.setF Reg.SWD_STAT Fld.SWD_STAT_STAGE 0).setF Reg.SWD_STAT Fld.SWD_STAT_COUNT 0
    let t := foldN (fun i s => s.setF (Reg.PWC_ISL i) Fld.PWC_ISL_STATE 0) (natsFrom 0 136) t
    let t := t.setF Reg.PWC_DEV_STAT Fld.PWC_DEV_STAT_STATE 0
    let t := if cause = 2 then
        ((t.setF Reg.SWD_STAT Fld.SWD_STAT_DEVRST 0).setF Reg.RST_STAT Fld.RST_STAT_LAST_KIND 1).setF Reg.RST_STAT Fld.RST_STAT_RESULT 2 else t
    if cause = 3 then
      -- the sync state is held in holdover until the first exchange
      let t := { t with fab := { lastSync := s.fab.lastSync, hops := s.fab.hops } }
      if s.getF Reg.FABG_SYNC Fld.FABG_SYNC_STATE = 1 ∧ s.isF Reg.FABG_SYNC Fld.FABG_SYNC_MASTER = false then
        t.setSync 2 (t.getF Reg.FABG_SYNC Fld.FABG_SYNC_ERR_NS) else t
    else t
  (t.setF Reg.RST_WAKE Fld.RST_WAKE_CAUSE cause).setBoot .starting

/-- Whether VSTBY is present and the device can be reset: it has started once and is not held off. -/
def State.canReset (s : State) : Bool := decide (s.boot.st ≠ .noPower) && decide (s.boot.st ≠ .offLocked)

/-! ### Resets by request (R451 to R453) -/

/-- A cluster reset, unless a wider one already runs. -/
def State.reqClusterReset (s : State) (n kind : Nat) : State :=
  if (s.cluster n).resetKind.isSome then s else
  let s := s.abortWake n
  let s := if 2 ≤ s.islandState n then s.wakeIsland n 12 else s
  s.beginClusterReset n kind

/-- A core reset, unless its cluster is already being reset. -/
def State.reqCoreReset (s : State) (core : Nat) : State :=
  let n := core / 16
  if (s.cluster n).resetKind.isSome ∨ (s.core core).resetting.isSome then s else
  let s := (s.abortWake n).drainBusy n
  let s := if 2 ≤ s.islandState n then s.wakeIsland n 12 else s
  let s := s.beginCoreReset core 0
  (s.setF (Reg.DSP_STAT n (core % 16)) Fld.DSP_STAT_STATE 0)

/-- A compartment reset (R451): every cluster as a cluster reset, and the engines bound to it stop. -/
def State.compReset (s : State) (c : Nat) : State :=
  ((s.clustersOf c).foldl (fun s n => s.reqClusterReset n 2) s).stopEngines c

/-- The bits of a register that a block reset keeps: secure attributes, BLK_OWNER, the state bits of BLK_PWR, the
bifurcation that takes effect at this reset (R355, log 26), and the address order, which only a cold reset frees (R332). -/
def blockKeep (b : Blk) (off : Nat) : Word :=
  if off = 0x020 then 0xFF#64
  else if off = 0x028 then 0xF0#64
  else match b with
    | .irr => if 0x800 ≤ off then maskN Fld.IRT_ATTR.lo 8 else 0#64
    | .gpio => if 0x100 ≤ off ∧ off < 0x180 then maskN Fld.GPIO_PIN_ATTR.lo 8 else 0#64
    | .dma => if off = Reg.DMA_ATTR 0 % 4096 then maskN Fld.DMA_ATTR_ATTR.lo 8 else 0#64
    | .iom => if 0x100 ≤ off ∧ off < 0x900 ∧ off % 32 = 0 then maskN Fld.IOM_RTE_ATTR.lo 8 else 0#64
    | .dmg => if off = Reg.DMG_CFG % 4096
        then maskN Fld.DMG_CFG_ORDER.lo Fld.DMG_CFG_ORDER.w ||| maskN Fld.DMG_CFG_LOCK.lo Fld.DMG_CFG_LOCK.w else 0#64
    | .pcie => if off = Reg.PCIE_CFG 0 % 4096 then maskN Fld.PCIE_CFG_BIF.lo Fld.PCIE_CFG_BIF.w else 0#64
    | .lg => if off = Reg.LG_SEQ_NEW % 4096 ∨ off = Reg.LG_SEQ_EXP % 4096 ∨ off = Reg.LG_WIND % 4096 ∨ off = Reg.LG_LOSS % 4096
        then ~~~0#64 else 0#64
    | _ => 0#64

/-- The registers of a page at their reset values, but for what a block reset keeps. -/
def State.resetBlockRegs (s : State) (page : Nat) : State :=
  match Blk.ofPage page with
  | none => s
  | some (b, _) =>
    s.regs.foldl (fun t (e : Nat × Word) =>
      if e.1 / 4096 = page then
        let k := blockKeep b (e.1 % 4096)
        t.wr e.1 ((e.2 &&& k) ||| (resetOf s.code e.1 &&& ~~~k))
      else t) s

/-- The maps in effect of the wheels of a page, and their rotation, as after reset; the column slots of a DRAM wheel follow (R276, R340). -/
def State.resetWheels (s : State) (page : Nat) : State :=
  let ws := (natsFrom 0 142).filter (fun w => decide (wheelPage w = page))
  let s := { s with comp := { s.comp with maps := s.comp.maps.filter (fun e => !ws.contains (e.1 / 64)),
                                          lastBorrow := s.comp.lastBorrow.filter (fun e => !ws.contains e.1) } }
  match Blk.ofPage page with
  | some (.bwDram, u) => { s with dram := { s.dram with recalc := u :: s.dram.recalc.filter (· ≠ u) } }
  | _ => s

/-- A band flush in progress given up: its leave returned (R225, R416). -/
def State.stopFlush (s : State) : State :=
  match s.comp.bandFlush with
  | none => s
  | some (b, _) =>
    let s := { s with comp := { s.comp with bandFlush := none } }
    s.giveLeave (.bandFlush (BitVec.ofNat 6 (s.getF (Reg.CMT_BAND b) Fld.CMT_BAND_CID)).toFin)

/-- The internal state of a block at a block reset. -/
def State.resetBlockState (s : State) (page : Nat) : State :=
  match Blk.ofPage page with
  | some (.l2c, n) => (s.wbL2 n).updEmpty n
  | some (.dma, n) => { s.setJob n none with io := { (s.setJob n none).io with dmaStop := s.io.dmaStop.filter (· ≠ n) } }
  | some (.iom, p) => { s with io := { s.io with iotlb := s.io.iotlb.filter (fun e => decide (e.port ≠ p)),
                                                 atsWait := s.io.atsWait.filter (fun (e : Nat × Nat) => decide (e.1 ≠ p)) } }
  | some (.pcie, p) =>
    let s := foldN (fun l s => s.setLink p l 0) (natsFrom 0 4) s
    let split := s.getF (Reg.PCIE_CFG p) Fld.PCIE_CFG_BIF
    { s with io := { s.io with bifNow := smPut (fun _ => 0) s.io.bifNow p split } }
  | some (.fab, p) => s.loseLink p 0
  | some (.dmc, n) => (s.flushQueues n).stopTests (fun r => decide (2 ≤ r.kind) && decide (r.target = n))
  | some (.l3s, sl) =>
    let s := s.evictWhere (fun l _ => decide (sliceOf (l * 64) = sl))
    let s := { s with comp := { s.comp with spare := smErase s.comp.spare sl } }
    s.stopTests (fun r => decide (r.kind = 1))
  | some (.fxc, c) => { s with fab := { s.fab with cmds := smErase s.fab.cmds c } }
  | some (.wdn, _) => s.endRequests 5
  | some (.dmaa, _) => { s with comp := { s.comp with arbs := smErase s.comp.arbs page } }
  | some (.pcoa, _) => { s with comp := { s.comp with arbs := smErase s.comp.arbs page } }
  | some (.usq, _) => { s with comp := { s.comp with arbs := smErase s.comp.arbs page } }
  | some (.bwMesh, _) | some (.bwL3s, _) | some (.bwD2d, _) | some (.bwDram, _) | some (.bwHub, _) => s.resetWheels page
  | some (.cmt, _) =>
    s.comp.sweeps.foldl (fun s e => { s with comp := { s.comp with sweeps := s.comp.sweeps.erase e } }.giveLeave
      (.colorSweep (BitVec.ofNat 6 (s.getF (Reg.CMT_COLOR e.1) Fld.CMT_COLOR_CID)).toFin)) s
  | some (.l3bm, _) => s.stopFlush
  | some (.cmp, c) => { s with comp := { s.comp with resteer := s.comp.resteer.filter (fun e => decide (e.1 / 64 ≠ c)) } }
  | some (.bar, c) => { s with comp := { s.comp with bars := smErase s.comp.bars c } }
  | some (.ist, c) => (match s.istRun c with | some r => s.endTest c r 9 | none => s)
  | some (.upt, _) =>
    let s := match s.apply with | some a => (s.setLoading a.kind a.target false).endApply a | none => s
    { s with boot := { s.boot with pending := none } }
  | some (.dsp, n) => s.modCluster n (fun k => { k with mask := 0#32, peer := [] })
  | some (.irr, _) => { s with io := { s.io with held := s.io.held.filter (fun h => decide (irtKey h.ev.vec / 4096 ≠ page)) } }
  | some (.fabg, _) => { s with fab := { s.fab with groups := [], snaps := [] } }
  | some (.pwc, _) => s.abortAll
  | some (.rmt, _) => { s with power := { s.power with leaves := [], overs := 0 } }
  | some (.idx, _) => { s with power := { s.power with margins := [], droops := [] } }
  | some (.tbc, _) => { s with tbSet := none, slewAcc := 0 }
  | some (.lg, _) => { s with ledger := { s.ledger with exporting := none } }
  | some (.hub, _) | some (.mesh, _) | some (.cii, _) | some (.qm, _) | some (.ann, _) | some (.dev, _) | some (.rst, _) | some (.swd, _)
  | some (.gpio, _) | some (.atl, _) | some (.dmg, _) | none => s

/-- A block reset (R451). -/
def State.blockReset (s : State) (page : Nat) : State :=
  let s := (s.resetBlockState page).resetBlockRegs page
  { s with latched := s.latched.filter (fun e => !decide (e.1 / 4096 = page)) }

/-- RST_STAT after a request that has been performed at once (2) or is running (1). -/
def State.rstStat (s : State) (kind result : Nat) : State :=
  (s.setF Reg.RST_STAT Fld.RST_STAT_RESULT result).setF Reg.RST_STAT Fld.RST_STAT_LAST_KIND kind

/-- A running request done once no core or cluster is held in reset. -/
def State.rstDone (s : State) : State :=
  if s.getF Reg.RST_STAT Fld.RST_STAT_RESULT = 1 ∧ s.cores.all (fun (e : Nat × Core) => e.2.resetting.isNone) ∧
     s.clusters.all (fun (e : Nat × Cluster) => e.2.resetKind.isNone) then s.setF Reg.RST_STAT Fld.RST_STAT_RESULT 2 else s

/-- A denied reset request (R452). -/
def State.rstDeny (s : State) : State := (s.denyAt Reg.RST_REQ).setF Reg.RST_STAT Fld.RST_STAT_RESULT 3

/-- A write of RST_REQ (R451 to R453); GO with an undefined KIND is ignored. -/
def State.wrRstReq (s : State) (w : Who) (v : Word) : State :=
  let kind := fieldN v 0 3
  let t := fieldN v 3 7
  let core := t * 16 + fieldN v 10 4
  let page := fieldN v 14 12
  let deny := s.rstDeny
  let refuse := (s.wardenRefuse page (Reg.BLK_CTRL page)).setF Reg.RST_STAT Fld.RST_STAT_RESULT 3
  let s := s.putFields Reg.RST_REQ v
  if bitN v 26 = false then s else
  match kind with
  | 1 => if w.wOrBoot then s.deviceReset 2 else deny
  | 6 => if w.wOrBoot then s.deviceReset 1 else deny
  | 2 => if (w.boot || w.isH s.platform) && decide (t ≤ 62) then ((s.compReset t).rstStat 2 1).rstDone else deny
  | 3 =>
    if t < 96 ∧ (w.wOrBoot ∨ w.isH (s.cid t)) then
      (if (s.cluster t).resetKind.isSome then s else (s.reqClusterReset t 1).rstStat 3 1) else deny
  | 4 =>
    if t < 96 ∧ (w.wOrBoot ∨ w.isH (s.cid t)) then
      (if (s.cluster t).resetKind.isSome then s else (s.reqCoreReset core).rstStat 4 1) else deny
  | 5 =>
    match Blk.ofPage page with
    | none => deny
    | some _ =>
      if w.boot = false ∧ s.wardenOwned w page then refuse
      else if w.boot ∨ s.isOwner w page then (s.blockReset page).rstStat 5 2 else deny
  | _ => s

/-- RESET_DRAIN_END (R201, R451). -/
def execResetDrainEnd (n : ClusterId) (s : State) : Outcome State Fault Refusal :=
  .next (s.endClusterReset n.val).rstDone.settle

/-! ### Pins and supplies -/

/-- RESET_N (R514), judged at its rising edge after `ns` nanoseconds low. -/
def execResetN (ns : BitVec 64) (s : State) : Outcome State Fault Refusal :=
  if s.boot.st = .noPower ∨ ns.toNat < 1000 then .next s
  else if ns.toNat < 100000000 then .next (if s.boot.st = .offLocked then s else s.deviceReset 2)
  else .next ({ s.deviceReset 1 with pins := { (s.deviceReset 1).pins with thermtripN := false } })

/-- A loss of VIN: every IVR off but that of the always-on island; the MRAM word in progress completed (R444). -/
def State.loseVin (s : State) : State :=
  let s := { s with pins := { s.pins with pwrgood := false } }
  match s.boot.st with
  | .noPower => s
  | .off => s
  | .offLocked => s
  | _ => s.enterOff false

/-- PWRGOOD_DEASSERT (R444). -/
def execPwrgoodDeassert (s : State) : Outcome State Fault Refusal := .next s.loseVin

/-- VIN_UNDERVOLTAGE (R511). -/
def execVinUndervoltage (s : State) : Outcome State Fault Refusal := if s.pins.pwrgood then .next s.loseVin else .next s

/-- VSTBY_LOSS (R451): the always-on island, the timebase and RST_WAKE are gone; MRAM stays. -/
def execVstbyLoss (s : State) : Outcome State Fault Refusal :=
  let t := s.powerDown mramKey false
  .next { t.setBoot .noPower with tb := 0#64, slewAcc := 0, tbSet := none, jtag := {}, pins := {},
                                  boot := { (t.setBoot .noPower).boot with mgmtReply := none } }

/-- WAKE_N (R450, R514): in OFF start-up begins; before the commit of an OFF handshake it aborts; elsewhere it is ignored. -/
def execWakeN (s : State) : Outcome State Fault Refusal :=
  if s.boot.st = .off then
    .next { (s.setF Reg.RST_WAKE Fld.RST_WAKE_CAUSE 4).setBoot .starting with pins := { s.pins with pwrgood := true } }
  else
    match s.power.hs.find? (fun h => h.device && decide (h.target = 4)) with
    | none => .next s
    | some h => .next (s.abortHs h 7)

/-- I3C_WAKE (R450). -/
def execI3cWake (s : State) : Outcome State Fault Refusal :=
  if s.boot.st = .off then
    .next { (s.setF Reg.RST_WAKE Fld.RST_WAKE_CAUSE 4).setBoot .starting with pins := { s.pins with pwrgood := true } }
  else .next s

/-- THERMAL_TRIP (R436): OFF without a handshake and without a checkpoint; THERMTRIP_N and FAULT_N asserted. -/
def execThermalTrip (s : State) : Outcome State Fault Refusal :=
  if s.boot.st = .noPower ∨ s.boot.st = .off ∨ s.boot.st = .offLocked then .next s else
  let s := (s.enterOff true).setFail 6
  .next { s with pins := { s.pins with thermtripN := true, faultN := true } }

/-- The metering points in an island outside the clusters. -/
def islandPoints (i : Nat) : List Nat :=
  if 104 ≤ i ∧ i < 120 then [ptDmc (i - 104)]
  else if 124 ≤ i ∧ i < 130 then [ptFab (i - 124)]
  else if i = 130 ∨ i = 131 then (natsFrom ((i - 130) * 32) 32).map ptDma
  else []

/-- IVR_PHASE_FAULT (R15, R412): the spare phase carries the load; a second fault in the island marks it failed. -/
def execIvrPhaseFault (i : Fin 136) (s : State) : Outcome State Fault Refusal :=
  let k := Reg.PWC_ISL i.val
  if s.isF k Fld.PWC_ISL_PHASE = false then .next (s.setF k Fld.PWC_ISL_PHASE 1)
  else if s.islandFailed i.val then .next s
  else if i.val < 96 then .next ((s.abortWake i.val).failCluster i.val).settle
  else
    let s := (islandPoints i.val).foldl State.losePoint ((s.abortWake i.val).setF k Fld.PWC_ISL_FAILED 1)
    .next (s.logErrOpen (leadPage i.val) 4 0).fault.settle

/-- UNSPARED_UNIT_FAULT (R462): severity 4 in the unit's log, FAULT_N asserted; the rest of the device runs on. -/
def execUnsparedUnitFault (i : Fin 136) (s : State) : Outcome State Fault Refusal :=
  .next (s.logErrOpen (leadPage i.val) 4 0).fault.settle

/-- The page of the mesh stop, or of the hub, at the receiving end of die-to-die link `l` of 18 (R501: two wheels a link). -/
def d2dPage (l : Nat) : Nat := leadPage (Blk.island .bwD2d (2 * l))

/-- D2D_REPLAY (R457, R462): a flit is replayed, or held while the link retrains; corrected either way. -/
def execD2dReplay (l : Fin 18) (_retrain : Bool) (s : State) : Outcome State Fault Refusal :=
  .next (s.logErrOpen (d2dPage l.val) 0 0).settle

/-! ### The device power handshake's end (R421 to R424) -/

/-- The commit of a handshake: one island, or the whole device. At entry to OFF the ledger engine writes its checkpoint last
(R422). -/
def State.commitHs (s : State) (h : Handshake) : State :=
  if h.device = false then
    let old := s.islandState h.island
    let s := (s.enterIsland h.island h.target).endHs h
    s.logIsland h.island old h.target (if h.auto then 2 else 12)
  else
    let all := s.devHs
    let old := s.devState
    let s := (s.setF Reg.PWC_DEV_STAT Fld.PWC_DEV_STAT_RESULT 2).setF Reg.PWC_DEV_STAT Fld.PWC_DEV_STAT_STATE h.target
    if h.target = 4 then s.settleAll.takeCheckpoint.enterOff false
    else
      let s := s.idxLog 7 12 0xFF 0 (BitVec.ofNat 64 old) (BitVec.ofNat 64 h.target)
      all.foldl (fun s (x : Handshake) =>
      (s.enterIsland x.island (max h.target (s.getF (Reg.BLK_PWR (leadPage x.island)) Fld.BLK_PWR_REQ))).endHs x) s

/-- HANDSHAKE_COMMIT (R424): every block that was asked has acknowledged. -/
def execHandshakeCommit (i : Fin 136) (s : State) : Outcome State Fault Refusal :=
  match s.hsOf i.val with
  | none => .next s
  | some h =>
    let all := if h.device then s.devHs else [h]
    if all.all (fun x => x.waiting.isEmpty && x.refused.isNone && decide (s.hsOf x.island = some x)) then .next (s.commitHs h).settle
    else .next s

/-! ### The timebase (R442, R443) -/

/-- A tick of the timebase while no command waits (R442, R443): 1 ns from XTAL25; in OFF and in the limp state 30,517.578125 ns
from XTAL32K or the RC oscillator, through the fractional accumulator; none without VSTBY. DESIGN CHOICE, log 1. -/
def State.idleTick (s : State) : State :=
  match s.boot.st with
  | .noPower => s
  | .off | .offLocked | .limp =>
    let a := s.slewAcc + 578125
    let whole := Int.fdiv a 1000000
    { s with tb := s.tb + BitVec.ofInt 64 (30517 + whole), slewAcc := a - whole * 1000000 }
  | _ => { s with tb := s.tb + 1#64 }

/-- The timebase written. -/
def State.setTime (s : State) (v : Word) : State :=
  ({ s with tb := v }.setF Reg.TBC_STAT Fld.TBC_STAT_STEPPED 1).ledgerStep s.tb v

/-- The slew in effect, in parts per billion. -/
def State.slew (s : State) : Int :=
  let v := (BitVec.ofNat 24 (s.getF Reg.TBC_SLEW Fld.TBC_SLEW_PPB)).toInt
  if v < -100000 then -100000 else if 100000 < v then 100000 else v

/-- TIMEBASE_CORRECTION (R442, R443): the master's correction of 1 µs, with a written value or the slew. -/
def execTimebaseCorrection (s : State) : Outcome State Fault Refusal :=
  match s.tbSet with
  | some v => .next { s.setTime v with tbSet := none }
  | none =>
    let a := s.slewAcc + s.slew
    let whole := Int.fdiv a 1000000
    .next { s with tb := BitVec.ofInt 64 ((s.tb.toNat : Int) + whole), slewAcc := a - whole * 1000000 }

/-- A write of TBC_SET (R443, R408). -/
def State.wrTbcSet (s : State) (v : Word) : State :=
  if s.getF Reg.FABG_SYNC Fld.FABG_SYNC_STATE = 1 ∧ s.isF Reg.FABG_SYNC Fld.FABG_SYNC_MASTER = false then s.denyAt Reg.TBC_SET
  else { s with tbSet := some v }

/-! ### The secure watchdog's expiries (R305) -/

/-- A second expiry: SWD_STAT.DEVRST, and a warm device reset. -/
def State.secondExpiry (s : State) : State :=
  ((s.deviceReset 2).setF Reg.SWD_STAT Fld.SWD_STAT_DEVRST 1).setFail 10

/-- SWD_STAGE1_EXPIRY (R305): during a partial reset any expiry is a second-stage one. -/
def execSwdStage1Expiry (s : State) : Outcome State Fault Refusal :=
  if s.getF Reg.SWD_STAT Fld.SWD_STAT_STAGE ≠ 1 ∨ s.swdLeft ≠ 0 then .next s
  else if s.getF Reg.WDN_STAT Fld.WDN_STAT_STATE = 2 then .next s.secondExpiry
  else .next ((s.partialReset 0).swdStage 2).settle

/-- SWD_STAGE2_EXPIRY (R305). -/
def execSwdStage2Expiry (s : State) : Outcome State Fault Refusal :=
  if s.getF Reg.SWD_STAT Fld.SWD_STAT_STAGE ≠ 2 ∨ s.swdLeft ≠ 0 then .next s else .next s.secondExpiry

/-! ### Fabric-coordinated reset (R405) -/

/-- The ports that carry a RESET onward. -/
def State.resetPorts (s : State) (src : Nat) (fromPort : Option Nat) : List Nat :=
  if s.ring then
    let d := s.dnPort
    let n := max 1 (s.getF Reg.FABG_NODE Fld.FABG_NODE_RINGN)
    if d < 6 ∧ s.isF (Reg.FABG_SUB d) Fld.FABG_SUB_RSTFWD ∧ (s.node + 1) % n ≠ src ∧ fromPort ≠ some d then [d] else []
  else (natsFrom 0 6).filter (fun k => s.isF (Reg.FABG_SUB k) Fld.FABG_SUB_EN && s.isF (Reg.FABG_SUB k) Fld.FABG_SUB_RSTFWD)

end Sys2Proof.Machine
end

