-- ==== Sys2Proof/Machine/Startup.lean ====
section
/-! DEFINITION. The start-up sequence, its failure branches, management, and hand-over (R445 to R449), and the loading of
the warden (R307). -/

namespace Sys2Proof.Machine

open Host

/-! ### The boot flash (R445, R449, R454) -/

/-- A byte of SPI NOR: an erased byte reads 0xFF. -/
def State.flashByte (s : State) (a : Nat) : Byte := smGet (fun _ => 0xFF#8) s.boot.flash a

/-- Bytes of SPI NOR. -/
def State.flashBytes (s : State) (a n : Nat) : List Byte := (natsFrom a n).map s.flashByte

/-- A container of a kind at an offset: its header, and its payload where the header's fields stand. -/
def State.flashCont (s : State) (a kind : Nat) : List Byte :=
  let h := s.flashBytes a 512
  if contFields h kind then h ++ s.flashBytes (a + 512) (contLen h) else h

/-- The microcode of the slot at offset `a`, where its pair of containers verifies (R445 step 4, R455, R479). -/
def State.slotPair (s : State) (a : Nat) : Option UImage :=
  let b := s.flashCont a 1
  match verifyCont b 1 (s.arbMin 1) with
  | .error _ => none
  | .ok _ =>
    let m := s.flashCont (a + (512 + contLen b + 4095) / 4096 * 4096) 2
    match verifyCont m 2 (s.arbMin 2) with
    | .error _ => none
    | .ok p => if payCheck p = 0 then some ⟨contVersion m, p⟩ else none

/-! ### The steps of start-up (R445, R448) -/

/-- RST_WAKE.STAGE written. -/
def State.setStage (s : State) (n : Nat) : State := s.setF Reg.RST_WAKE Fld.RST_WAKE_STAGE n

/-- Islands without which the device does not start. -/
def mainIsland (i : Nat) : Bool := (decide (96 ≤ i) && decide (i ≤ 103)) || (decide (130 ≤ i) && decide (i ≤ 134))

/-- An IVR that has used its retries. -/
def State.ivrLost (s : State) (i : Nat) : State :=
  let s := (s.setF Reg.RST_WAKE Fld.RST_WAKE_ISLAND i).setF Reg.RST_WAKE Fld.RST_WAKE_RETRY 3
  s.setF (Reg.PWC_ISL i) Fld.PWC_ISL_FAILED 1

/-- The main island failed branch (R448). -/
def State.mainFailed (s : State) (i : Nat) : State := (((s.ivrLost i).enterOff true).setFail 2).fault

/-- A cluster that does not come up (R448). -/
def State.clusterOff (s : State) (n : Nat) : State :=
  ((s.setF (Reg.CMT_CLUSTER n) Fld.CMT_CLUSTER_FAILED 1).setF (Reg.PWC_ISL n) Fld.PWC_ISL_FAILED 1).setFail 9

/-- Step 8 for one cluster: patch RAM loaded, a failed core replaced, the cores parked at 0.8 GHz (R132, R445, R480). -/
def State.clusterUp (s : State) (r : StartReport) (n : Nat) : State :=
  let bad := (r.coreBad.filter (fun c => decide (c.val / 16 = n))).length
  let s := s.setF (Reg.IDX_CLB n) Fld.IDX_CLB_CUR 0
  if r.ivrFailed.any (fun i => decide (i.val = n)) then (s.ivrLost n).clusterOff n
  else if r.clusterBad.any (fun c => decide (c.val = n)) ∨ 2 ≤ bad then s.clusterOff n
  else
    let s := match s.boot.inService with | some u => s.loadUnit 0 n u | none => s
    let s := s.modCluster n (fun k => { k with spareUsed := decide (bad = 1) })
    (foldN (fun c s => s.modCore c (fun k => { k with run := .parked })) (clusterCores n) s).updEmpty n

/-- An L3 way that failed its built-in test: the spare is brought in before the L3 is used (R222, R448); where the spare itself has
failed there is none to bring in (R224). -/
def State.wayFailed (s : State) (e : Fin 64 × Fin 17) : State :=
  if e.2.val = 16 then s.wr (Reg.L3S_WAYS e.1.val) (putN (s.rd (Reg.L3S_WAYS e.1.val)) 16 1 1)
  else (s.spareTrigger e.1.val e.2.val).spareEnd e.1.val e.2.val []

/-- The installed capacity of 16 channels of a geometry (R332). -/
def geomCapacity (g : DramGeom) : Nat :=
  2 ^ (6 + 1 + 4 + (if g.x8 then 6 else 7) + 5 + g.rankBits.val + g.cidBits.val + (if g.row17 then 17 else 16))

/-- The top of mapped DRAM (R331, R335): the installed capacity, 15/16 of it with sparing, and never above 4 TiB. -/
def State.mappedTop (s : State) : Nat :=
  let n := geomCapacity s.dram.geom
  min (if s.sparing then n / 16 * 15 else n) (2 ^ 42)

/-- Steps 7 and 8: DRAM zeroed unless a warm device reset keeps it (R446), and the clusters. -/
def State.startLate (s : State) (r : StartReport) : State :=
  let cause := s.getF Reg.RST_WAKE Fld.RST_WAKE_CAUSE
  let keep := s.isF Reg.RST_CFG Fld.RST_CFG_KEEPDRAM && (decide (cause = 2) || decide (cause = 3))
  let s := s.setStage 7
  let s := if keep then s else { s with mem := [], poison := [] }
  let s := s.setF Reg.DMG_TOP Fld.DMG_TOP_TOP s.mappedTop
  let s := { s with dram := { s.dram with zeroed := true } }
  let s := r.l3Bad.foldl (fun s e => s.wayFailed e) (s.setStage 8)
  let s := foldN (fun n s => s.clusterUp r n) (natsFrom 0 96) s
  let s := s.setF Reg.RST_CFG Fld.RST_CFG_KEEPDRAM 0
  ({ s with boot := { s.boot with st := .waitHandover, report := none } }).updPool none

/-- Channels that do not answer because their IVR failed. -/
def State.ivrChannels (r : StartReport) : List Nat :=
  (natsFrom 0 16).filter (fun n => r.ivrFailed.any (fun i => decide (i.val = 104 + n)))

/-- Leave asked for the training of each of a list of channels: the state, and the channels whose leave is refused (R345, R416). -/
def State.askAll (s : State) : List Nat → State × List Nat
  | [] => (s, [])
  | n :: t =>
    match s.askLeave (.dram (Fin.ofNat 16 n)) with
    | (s, ok) =>
      let (s, l) := State.askAll s t
      (s, if ok then l else n :: l)

/-- The leave of every channel returned. -/
def State.giveAll (s : State) : State := foldN (fun n s => s.giveLeave (.dram (Fin.ofNat 16 n))) (natsFrom 0 16) s

/-- The channels that stay untrained at start-up: those whose training fails, those whose geometry is not that of channel 0 (R331), and
every one where order B meets a single-rank population, which cannot use it (R334; DEDUCED, log 148). -/
def State.leftUntrained (s : State) (r : StartReport) : List Nat :=
  let odd := (r.geoms.filter (fun e => decide (e.2 ≠ r.geom))).map (fun e => e.1.val)
  if s.orderB ∧ r.geom.rankBits = 0 then natsFrom 0 16
  else (natsFrom 0 16).filter (fun n => odd.contains n || r.untrained.any (fun m => decide (m.val = n)))

/-- Step 6: boot firmware writes DMG_CFG, which only a cold start frees (R332); the channels come up, each asks for leave, and they train
in parallel; one that does not train is replaced by a free spare, or DRAM training has failed (R335, R345, R448). A channel whose leave
is refused waits in DRAM hold and asks again. -/
def State.startDram (s : State) (r : StartReport) : State :=
  let s := s.setStage 6
  let s := if s.isF Reg.DMG_CFG Fld.DMG_CFG_LOCK then s else
    ((s.setF Reg.DMG_CFG Fld.DMG_CFG_ORDER r.order.val).setF Reg.DMG_CFG Fld.DMG_CFG_SPARE (b2n r.spare)).setF Reg.DMG_CFG Fld.DMG_CFG_LOCK 1
  let s := s.setF Reg.DMG_SPARE_CTL Fld.DMG_SPARE_CTL_SPARE_CH r.spareCh.val
  let s := if s.sparing then
      foldN (fun i s => s.wr Reg.DMG_CHMAP (putN (s.rd Reg.DMG_CHMAP) (4 * i) 4 (if i < r.spareCh.val then i else i + 1))) (natsFrom 0 15) s
    else s
  let s := { s with dram := { s.dram with geom := r.geom } }
  let gone := State.ivrChannels r
  let s := s.setF Reg.DMG_SPARE_STAT Fld.DMG_SPARE_STAT_STATE (if s.sparing then 0 else 3)
  let (s, left) := s.askAll ((natsFrom 0 16).filter (fun n => !gone.contains n))
  let s := s.giveAll
  let bad := ((s.leftUntrained r) ++ left).filter (fun n => !gone.contains n)
  let s := gone.foldl (fun s n => (s.ivrLost (104 + n)).channelAbsent n) s
  let s : State := foldN (fun n s =>
    if gone.contains n ∨ bad.contains n then s else
    let s := s.setF (Reg.DMC_STAT n) Fld.DMC_STAT_PRESENT 1
    match s.boot.inService with | some u => s.loadUnit 1 n u | none => s) (natsFrom 0 16) s
  let free : Bool := s.sparing && decide (s.spareState = 0)
  let s := bad.foldl (fun s n => s.channelAbsent n) s
  if bad = [] ∨ (bad.length = 1 ∧ free) then s.startLate r
  else ({ (s.setFail 4) with boot := { s.boot with st := .dramHold, report := some r } }).fault

/-- The first main island whose IVR failed. -/
def State.mainBad (r : StartReport) (p : Nat → Bool) : Option Nat :=
  (natsFrom 96 39).find? (fun i => mainIsland i && p i && r.ivrFailed.any (fun x => decide (x.val = i)))

/-- Start-up from step 1 (R445). -/
def State.startUp (s : State) (r : StartReport) : State :=
  let s := { s with pins := { s.pins with faultN := false, pwrgood := true }, boot := { s.boot with hovLocked := false, handedOver := false } }
  let s := (s.addF Reg.RST_WAKE Fld.RST_WAKE_STARTS 1).setStage 1
  let s := s.setF Reg.TBC_STAT Fld.TBC_STAT_SRC (if r.xtal25 then 0 else if r.xtal32k then 1 else 2)
  let s := if r.xtal32k then s else s.setFail 7
  if r.xtal25 = false then ((s.setFail 1).setBoot .limp).fault else
  match State.mainBad r (fun i => decide (i = 133 ∨ i = 134)) with
  | some i => (s.setStage 2).mainFailed i
  | none =>
    match State.mainBad r (fun _ => true) with
    | some i => (s.setStage 3).mainFailed i
    | none =>
      let s := s.setStage 3
      let s := if r.refclk then s else s.setFail 8
      let s := s.ledgerRecover.updLedger
      let s := foldN (fun i s => if r.ivrFailed.any (fun x => decide (x.val = i)) ∨ r.refclk = false then
          s.setF (Reg.PWC_ISL i) Fld.PWC_ISL_FAILED 1 else s) (natsFrom 120 10) s
      let s := s.setStage 4
      let a := s.slotPair 0
      let b := if a.isSome then none else s.slotPair 0x1000000
      match a, b with
      | none, none => (((s.setF Reg.RST_WAKE Fld.RST_WAKE_SLOT 2).setFail 3).setBoot .recoveryHold).fault
      | some u, _ => ({ (s.setF Reg.RST_WAKE Fld.RST_WAKE_SLOT 0).setStage 5 with boot := { s.boot with inService := some u } }.updUptVer).startDram r
      | none, some u => ({ (s.setF Reg.RST_WAKE Fld.RST_WAKE_SLOT 1).setStage 5 with boot := { s.boot with inService := some u } }.updUptVer).startDram r

/-- START_UP (R445): at VSTBY power-on, or after a reset or a wake has begun it. -/
def execStartUp (r : StartReport) (s : State) : Outcome State Fault Refusal :=
  if s.boot.st = .noPower then .next ((s.setF Reg.RST_WAKE Fld.RST_WAKE_CAUSE 0).startUp r).settle
  else if s.boot.st = .starting then .next (s.startUp r).settle
  else .next s

/-- XTAL25_TIMEOUT (R448): the limp state. -/
def execXtal25Timeout (s : State) : Outcome State Fault Refusal :=
  if s.boot.st = .starting ∨ s.boot.st = .noPower then
    .next (((s.setF Reg.TBC_STAT Fld.TBC_STAT_SRC (max 1 (s.getF Reg.TBC_STAT Fld.TBC_STAT_SRC))).setFail 1).setBoot .limp).fault
  else .next s

/-- IVR_READY_TIMEOUT (R448): up to 3 retries, then the branch of the island. -/
def execIvrReadyTimeout (i : Fin 136) (s : State) : Outcome State Fault Refusal :=
  if s.boot.st ≠ .starting ∧ s.boot.st ≠ .waitHandover then .next s else
  let k := Reg.RST_WAKE
  let n := if s.getF k Fld.RST_WAKE_ISLAND = i.val then s.getF k Fld.RST_WAKE_RETRY else 0
  if n < 3 then .next ((s.setF k Fld.RST_WAKE_ISLAND i.val).setF k Fld.RST_WAKE_RETRY (n + 1))
  else if mainIsland i.val then .next (s.mainFailed i.val)
  else if i.val < 96 then .next (((s.ivrLost i.val).clusterOff i.val))
  else if 104 ≤ i.val ∧ i.val < 120 then .next ((s.ivrLost i.val).channelAbsent (i.val - 104))
  else .next (s.ivrLost i.val)

/-- Failed attempts of the training of a channel (R345). -/
def State.triesOf (s : State) (n : Nat) : Nat := smGet (fun _ => 0) s.dram.tries n

/-- Their count stored. -/
def State.setTries (s : State) (n v : Nat) : State := { s with dram := { s.dram with tries := smPut (fun _ => 0) s.dram.tries n v } }

/-- A spare that does not train: there is no spare any more, and no copy (R345, R352). -/
def State.spareLost (s : State) : State :=
  let s := s.setF Reg.DMG_SPARE_STAT Fld.DMG_SPARE_STAT_STATE 3
  { s with dram := { s.dram with copyWait := none } }

/-- The end of an attempt to train channel `n`: a spare that trains carries the copy that waits for it; the third failed attempt leaves
the channel absent (R345, R352). -/
def State.trained (s : State) (n : Nat) (ok : Bool) : State :=
  let waits := decide (n = s.spareCh) && s.dram.copyWait.isSome
  if ok then
    let s := (s.setTries n 0).setF (Reg.DMC_STAT n) Fld.DMC_STAT_PRESENT 1
    match (if waits then s.dram.copyWait else none) with
    | some m => s.beginCopy m
    | none => s
  else if s.triesOf n < 2 then s.setTries n (s.triesOf n + 1)
  else if waits then (s.setTries n 0).spareLost
  else (s.setTries n 0).channelAbsent n

/-- The channels that the address decode uses (R335). -/
def State.activeChannels (s : State) : List Nat :=
  if s.sparing then (natsFrom 0 15).map (fun i => fieldN (s.rd Reg.DMG_CHMAP) (4 * i) 4) else natsFrom 0 16

/-- CHANNEL_TRAINING (R345, R416, R448): one attempt of full training. A channel whose leave is refused waits and asks again. In DRAM hold
start-up goes on once every channel that the decode uses is there; the spare trains before a copy, and while it is free. -/
def execChannelTraining (n : Fin 16) (ok : Bool) (s : State) : Outcome State Fault Refusal :=
  let hold := decide (s.boot.st = .dramHold)
  let spare := decide (s.boot.st = .running) && s.sparing && decide (s.spareCh = n.val) &&
    (decide (s.spareState = 0) || s.dram.copyWait.isSome)
  if !hold && !spare then .next s else
  match s.askLeave (.dram n) with
  | (s, false) => .next s
  | (s, true) =>
    match s.boot.report with
    | none => .next ((s.trained n.val ok).giveLeave (.dram n)).settle
    | some r =>
      let never := (s.orderB && decide (r.geom.rankBits = 0)) || r.geoms.any (fun e => decide (e.1 = n) && decide (e.2 ≠ r.geom))
      let s := (s.trained n.val (ok && !never)).giveLeave (.dram n)
      let gone := State.ivrChannels r
      if hold ∧ (s.activeChannels.all (fun m => gone.contains m || s.isF (Reg.DMC_STAT m) Fld.DMC_STAT_PRESENT)) then
        .next (s.startLate r).settle
      else .next s.settle

/-! ### Management (R449, R518) -/

/-- Whether the Keeper waits for management. -/
def State.waiting (s : State) : Bool :=
  match s.boot.st with
  | .limp | .recoveryHold | .dramHold | .off | .offLocked => true
  | _ => false

/-- STATUS (R449). -/
def execStatus (s : State) : Outcome State Fault Refusal :=
  if s.waiting then .next { s with boot := { s.boot with mgmtReply := some (s.rd Reg.RST_WAKE, s.rd Reg.DEV_IDENT) } } else .next s

/-- RETRY (R449): start-up again from step 1, as a cold reset; THERMTRIP_N is released (R516). -/
def execRetry (s : State) : Outcome State Fault Refusal :=
  if s.waiting then
    let t := s.deviceReset 1
    .next { t with pins := { t.pins with thermtripN := false } }
  else .next s

/-- OFF (R449). -/
def execOff (s : State) : Outcome State Fault Refusal :=
  if s.waiting then .next (if s.boot.st = .offLocked then s else s.enterOff false) else .next s

/-- FLASH_WRITE (R449): bytes into slot B, in recovery hold and DRAM hold only; a write does not leave the slot. -/
def execFlashWrite (off : BitVec 24) (data : List Byte) (s : State) : Outcome State Fault Refusal :=
  if 256 < data.length then .fault .illFormed
  else if s.boot.st = .recoveryHold ∨ s.boot.st = .dramHold then
    let f := ((natsFrom off.toNat data.length).zip data).foldl (fun m (e : Nat × Byte) =>
      if e.1 < 0x1000000 then smPut (fun _ => 0xFF#8) m (0x1000000 + e.1) e.2 else m) s.boot.flash
    .next { s with boot := { s.boot with flash := f } }
  else .next s

/-- FLASH_ERASE (R449): one 64 KiB sector of slot B. -/
def execFlashErase (sector : BitVec 8) (s : State) : Outcome State Fault Refusal :=
  if s.boot.st = .recoveryHold ∨ s.boot.st = .dramHold then
    let lo := 0x1000000 + sector.toNat * 0x10000
    .next { s with boot := { s.boot with flash := s.boot.flash.filter (fun e => !(decide (lo ≤ e.1) && decide (e.1 < lo + 0x10000))) } }
  else .next s

/-! ### The warden's image (R307) -/

/-- The payload of a warden slot that verifies, with the entry offset. -/
def State.wardenImage (s : State) (slot : Nat) : Option (List Byte × Nat) :=
  match s.boot.wimg.find? (fun e => decide (e.1 = slot)) with
  | none => none
  | some e =>
    match verifyCont e.2 3 (s.arbMin 3) with
    | .error _ => none
    | .ok p => some (p, leN e.2 0x010 8)

/-- Steps 1 to 4 of R307: the image of the slot named, else of the other, is copied to WDN_LOAD.BASE and every core of
compartment 63 starts at its entry point. Answers whether the warden started. -/
def State.loadWarden (s : State) : State × Bool :=
  let a := s.getF Reg.WDN_CTL Fld.WDN_CTL_SLOT
  let pick := match s.wardenImage a with
    | some x => some (x, a)
    | none => (s.wardenImage (1 - a)).map (fun x => (x, 1 - a))
  match pick with
  | none => ({ s.setF Reg.WDN_STAT Fld.WDN_STAT_STATE 0 with warden := { s.warden with down := true } }.endRequests 6, false)
  | some ((p, e), slot) =>
    let b := s.getF Reg.WDN_LOAD Fld.WDN_LOAD_BASE * 2 ^ 18
    let (s, _) := s.writePacked 63 b 0 (p ++ zeros 64) ((p.length + 63) / 64)
    let pc := BitVec.ofNat 64 ((s.packed 63 b e).getD 0) &&& 0xFFFFFFFFFFFFFFFE#64
    let s := (s.clustersOf 63).foldl (fun s n =>
      if s.isF (Reg.CMT_CLUSTER n) Fld.CMT_CLUSTER_FAILED then s else
      let s := if 2 ≤ s.islandState n then s.wakeIsland n 12 else s
      foldN (fun c s => s.modCore c (fun k =>
        if k.retired then k else { coreAfterReset k with run := .running, lvl := 3#2, pc := pc })) (clusterCores n) s) s
    let s := (s.setF Reg.WDN_STAT Fld.WDN_STAT_STATE 1).setF Reg.WDN_STAT Fld.WDN_STAT_SLOT slot
    ({ s with warden := { s.warden with down := false } }, true)

/-- WARDEN_RELOAD_END (R306, R307): the partial reset's drains are over, the engines of compartment 63 may take jobs again,
and the warden starts. -/
def execWardenReloadEnd (s : State) : Outcome State Fault Refusal :=
  if s.getF Reg.WDN_STAT Fld.WDN_STAT_STATE ≠ 2 then .next s else
  let s := (s.clustersOf 63).foldl (fun s n => s.endClusterReset n) s
  let own := s.enginesOf 63
  let s := { s with io := { s.io with dmaStop := s.io.dmaStop.filter (fun n => !own.contains n) } }
  .next s.loadWarden.1.settle

/-! ### Hand-over (R447) -/

/-- Pages whose owner is the platform compartment from hand-over step 1 (R447, R500). -/
def platformPages : List Nat :=
  (allBlks.filter (fun b => !b.derivedOwner && decide (b ≠ .wdn) && decide (b ≠ .swd))).flatMap (fun b => natsFrom b.base.1 b.base.2)

/-- Hand-over, once GO is written. -/
def State.handOver (s : State) : State :=
  let k := Reg.RST_HOV_CTL
  let plat := s.getF k Fld.RST_HOV_CTL_PLAT
  let hcl := s.getF k Fld.RST_HOV_CTL_HCL
  let s := (s.setStage 9)
  let s := foldN (fun p s => s.wr (Reg.BLK_OWNER p) (BitVec.ofNat 64 plat)) platformPages s
  let s := foldN (fun p s => s.wr (Reg.BLK_OWNER p) 0xFF#64) [0x10, 4] s
  let s := { s with boot := { s.boot with st := .running, handedOver := true, hovLocked := true } }
  let s := s.setF Reg.WDN_LOAD Fld.WDN_LOAD_BASE (s.getF k Fld.RST_HOV_CTL_WLOAD)
  let s := match s.loadWarden with
    | (s, true) => if s.isF Reg.SWD_CTL Fld.SWD_CTL_EN then s else (s.setF Reg.SWD_CTL Fld.SWD_CTL_EN 1).swdStage 1
    | (s, false) => (s.setFail 5).fault
  let c := hcl * 16
  let s := if hcl < 96 then
      s.modCore c (fun k => { coreAfterReset k with run := .running, lvl := 2#2, pc := s.rd Reg.RST_HOV_PC &&& ~~~1#64 }) else s
  let s := ((s.setF Reg.IDX_STAT Fld.IDX_STAT_ALIVE 0xF).setStage 10).updPool none
  s.ledgerResume

/-- A write of RST_HOV_CTL by boot firmware; locked from hand-over to the next start-up. -/
def State.wrHov (s : State) (w : Who) (v : Word) : State :=
  let k := Reg.RST_HOV_CTL
  if !w.boot ∨ s.boot.hovLocked then s.denyAt k else
  let s := s.putFields k v
  if bitN v 52 ∧ s.boot.st = .waitHandover then s.handOver else s

/-- A write of RST_ARB_k (R456): only a larger value; one that MRAM has lost is written again (R461). -/
def State.wrArb (s : State) (i : Nat) (v : Word) : State :=
  let k := Reg.RST_ARB i
  if s.boot.arbBad.contains i then
    { s with boot := { s.boot with arbBad := s.boot.arbBad.filter (· ≠ i) } }.putFields k v
  else if fieldN v 0 32 ≤ s.getF k Fld.RST_ARB_MIN then s.denyAt k else s.putFields k v

/-! ### The fabric's RESET (R405) -/

/-- The device enters the fabric-coordinated reset, the RESET having left on `ports`. -/
def State.fabReset (s : State) (ports : List Nat) : State :=
  let t := s.deviceReset 3
  { t with fab := { t.fab with resetOut := ports } }

/-- RESET (R405, R409): accepted with the key and RSTIN, forwarded first; another key is a violation. -/
def execReset (p : Fin 6) (f : Frame) (s : State) : Outcome State Fault Refusal :=
  match s.receive p.val f 0x25 with
  | (s, false) => .next s.settle
  | (s, true) =>
    if f.opnd ≠ s.rd Reg.FABG_RSTKEY then .next (s.violate p.val f 8).settle
    else if s.isF Reg.FABG_CTL Fld.FABG_CTL_RSTIN = false then .next s.settle
    else .next (s.fabReset (s.resetPorts f.src.toNat (some p.val)))

/-- A write of FABG_CTL: RSTOUT sends RESET from this device and resets it. -/
def State.wrFabCtl (s : State) (v : Word) : State :=
  let s := s.putFields Reg.FABG_CTL v
  if bitN v 1 then s.fabReset (s.resetPorts s.node none) else s

end Sys2Proof.Machine
end

