-- ==== Sys2Proof/Machine/Access.lean ====
section
/-! DEFINITION. How an access to the atlas is answered (R490 to R499): the order of checks, the register's own rule on a read
and on a write, and the commands that are writes of one register. -/

namespace Sys2Proof.Machine

open Host

/-! ### Who a page's headings name (R495) -/

/-- Whether the requester is of the world and compartment of a GPIO pin's attribute (R295). -/
def State.ownsPin (s : State) (w : Who) (n : Nat) : Bool :=
  let a := s.getF (Reg.GPIO_PIN n) Fld.GPIO_PIN_ATTR
  w.boot || (decide (w.cid = a % 64) && decide (w.sec = (a / 64 % 2 = 1)))

/-- Whether a heading of the page names the requester. Every requester owns some page and may ask for its reset, so the
heading of RST_REQ names each of them (R451); DEV is readable by all (R503). -/
def State.named? (s : State) (w : Who) (page : Nat) (b : Blk) (i : Nat) : Bool :=
  (!b.derivedOwner && s.platHOrW w) ||
  match b with
  | .dev | .rst => true
  | .gpio => (natsFrom 0 16).any (s.ownsPin w)
  | .idx => decide (2 ≤ w.lvl) && (s.clustersOf w.cid ≠ [])
  | .l3bm => decide (2 ≤ w.lvl) && (natsFrom 0 64).any (s.ownsBand w.cid)
  | .iom => decide (2 ≤ w.lvl) && (natsFrom 0 64).any (fun e => decide (s.rteCid i e = w.cid))
  | .ist => s.platHOrW w
  | _ => b.rows.any (fun r => decide (r.writer ≠ .special) && s.mayWrite w page r.writer)

/-- Blocks of which W may write every field that the owner may (chapters 13, 17, 18, 20). -/
def Blk.wAsOwner : Blk → Bool
  | .pwc | .rst | .tbc | .rmt | .idx | .lg | .upt => true
  | _ => false

/-- Whether a register's heading lets the requester write it; where the register's own rule decides, it does so later. -/
def State.mayWriteReg (s : State) (w : Who) (page : Nat) (b : Blk) (off : Nat) (r : RegRow) : Bool :=
  match r.writer with
  | .special => if off = 0x028 then s.isOwner w page || (w.isW && b.wAsOwner) else true
  | .attrHOrW => decide (b = .iom) || w.hOrW (s.owner page % 64)
  | .owner => s.isOwner w page || (w.isW && b.wAsOwner)
  | x => s.mayWrite w page x

/-- Whether an offset holds a page's or a cluster's error log (R463). -/
def logOffset (b : Blk) (off : Nat) : Bool :=
  decide (0x080 ≤ off ∧ off < 0x0A8) || (decide (b = .usq) && (decide (off = 0x300) || decide (0x400 ≤ off ∧ off < 0x600)))

/-- Whether the requester may read a log (R463). -/
def State.mayReadLog (s : State) (w : Who) (page : Nat) (b : Blk) : Bool :=
  w.isW || (s.isOwner w page && (match b with
    | .dsp | .l2c | .usq | .cii => decide (2 ≤ w.lvl)
    | _ => true))

/-- Step 4 of R493: whether the requester is refused (R495). `key` is that of the whole register. W is held to the owner's
lock in its writes of registers other than BLK_OWNER alone. -/
def State.refused (s : State) (w : Who) (page : Nat) (b : Blk) (i key : Nat) (wr : Bool) : Bool :=
  let o := s.owner page
  let locked := decide (o / 128 % 2 = 1) && !decide (w.sec = (o / 64 % 2 = 1))
  let off := key % 4096
  if w.boot then false
  else if locked && (!w.isW || (wr && decide (off ≠ 0x020))) then true
  else if !(s.isOwner w page || w.isW || s.named? w page b i) then true
  else if wr then (match b.row off with | none => false | some (r, _) => !s.mayWriteReg w page b off r)
  else logOffset b off && !s.mayReadLog w page b

/-! ### The order of checks (R493) -/

/-- How the checks before the register's own rule end: an error response, a load of 0 or a dropped write, the asleep
response, or the register itself. -/
inductive Gate where
  | error | zero | ones | serve
  deriving DecidableEq, Repr

/-- Offsets that the shadow in the always-on island serves (R490). -/
def shadowOff (off : Nat) : Bool := decide (off = 0) || decide (off = 8) || decide (off = 0x20) || decide (off = 0x28)

/-- Step 6 of R493: an access to a block with AUTOWAKE wakes its island, and before the commit of a handshake counts as a
wake event (R427, R430); otherwise an asleep block gives the asleep response. -/
def State.gateAwake (s : State) (w : Who) (page pa : Nat) (wr : Bool) : State × Gate :=
  let i := pageIsland page
  let auto := s.isF (Reg.BLK_PWR page) Fld.BLK_PWR_AUTOWAKE && decide (i ≠ 255)
  let s := if auto && (s.hsOf i).isSome then s.abortWake i else s
  let s := if auto && s.blockAsleep page && !s.islandFailed i then
      (if 2 ≤ s.devState ∧ i < 134 then s.wakeDevice.wakeIsland i 12 else s.wakeIsland i 12) else s
  if s.blockAsleep page then (s.strayBy 0 wr pa w, .ones) else (s, .serve)

/-- Steps 1 and 3 to 7 of R493. `size` is the access's width in bytes. -/
def State.gate (s : State) (w : Who) (pa size : Nat) (wr : Bool) : State × Gate :=
  let off := pa - 0xFF00000000000
  let key := off - off % 8
  let page := key / 4096
  match Blk.ofPage page with
  | none => (s.strayBy 2 wr pa w, .error)
  | some (b, i) =>
    if size < 4 then
      let t := s.strayBy 3 wr pa w
      (if s.blockAsleep page then t else t.logDeny page pa, .error)
    else if s.refused w page b i key wr then
      if wr && decide (key % 4096 = 0x028) && s.wardenOwned w page then
        let t := if s.blockAsleep page then s.strayBy 5 wr pa w else s.logDeny page pa
        ((t.addF Reg.WDN_DENY Fld.WDN_DENY_COUNT 1).setF Reg.WDN_DENY Fld.WDN_DENY_LAST_BLK page, .zero)
      else (if s.blockAsleep page then s.strayBy 5 wr pa w else s.logDeny page pa, .zero)
    else if shadowOff (key % 4096) then (s, .serve)
    else
      match s.gateAwake w page pa wr with
      | (s, .serve) =>
        if (b.row (key % 4096)).isNone then ((s.strayBy 1 wr pa w).logDeny page pa, .zero) else (s, .serve)
      | r => r

/-! ### Reads -/

/-- A register with the bits of its write-only fields as 0. -/
def readMask (fs : List FieldRow) (v : Word) : Word :=
  fs.foldl (fun a f => match f.acc with | .wo => a &&& ~~~maskN f.lo f.w | _ => a) v

/-- The trace ring of a cluster while tracing is on: what its microsequencer has traced is open, since the manual does not give the
microwords of its ROM (R473). -/
def State.snapTrace (s : State) (n : Nat) : State :=
  if s.isF (Reg.USQ_TRC_CTL n) Fld.USQ_TRC_CTL_EN = false then s else
  let (h, s) := s.openWord
  foldN (fun k s => let (x, s) := s.openWord; s.wr (Reg.USQ_TRC n k) (x &&& 0xFFFFFFFF003FFFFF#64)) (natsFrom 0 16)
    (s.setF (Reg.USQ_TRC_CTL n) Fld.USQ_TRC_CTL_HEAD h.toNat)

/-- What a register reads, beside any denial: words computed from the state, and pins of other compartments (R295). -/
def State.readReg (s : State) (w : Who) (page : Nat) (b : Blk) (i key : Nat) : State × Word :=
  let off := key % 4096
  let v := readMask (match rowOf key with | some r => r.fields | none => []) (s.rd key)
  if off = 0x020 then (s, BitVec.ofNat 64 (s.owner page))
  else match b with
    | .bar => (s, if off = 0x028 then 0#64 else v)
    | .cii => (s, if 0x100 ≤ off ∧ off % 0x40 = 0 then s.pendOf (i * 16 + (off - 0x100) / 0x40) else v)
    | .swd => (s, if off = 0x120 then putN v 8 24 s.swdLeft else v)
    | .dsp =>
      (s, if off < 0x300 ∧ off % 0x20 = 8 then putN v 21 1 (b2n (s.preemptDue (i * 16 + (off - 0x100) / 0x20))) else v)
    | .l2c => (s, if off = 0x108 then putN v 1 1 (b2n (s.l2Empty i)) else v)
    | .usq =>
      if off = 0x108 ∨ (0x600 ≤ off ∧ off < 0x680) then let s := s.snapTrace i; (s, s.rd key) else (s, v)
    | .lg => (s, if off = 0x108 then putN v 7 2 (s.getF Reg.FABG_SYNC Fld.FABG_SYNC_STATE) else v)
    | .fabg => (s, if off = 0x140 then putN v 32 32 s.syncErr else v)
    | .gpio =>
      if 0x100 ≤ off ∧ s.ownsPin w ((off - 0x100) / 8) = false then (s.denyAt key, v &&& maskN 0 8) else (s, v)
    | _ => (s, v)

/-- A load from the atlas of `size` bytes at `pa`, aligned: its value, or none for an error response (R493, R496). -/
def State.atlasRead (s : State) (w : Who) (pa size : Nat) : State × Option Word :=
  match s.gate w pa size false with
  | (s, .error) => (s, none)
  | (s, .zero) => (s, some 0#64)
  | (s, .ones) => (s, some (maskN 0 (8 * size)))
  | (s, .serve) =>
    let off := pa - 0xFF00000000000
    let key := off - off % 8
    match Blk.ofPage (key / 4096) with
    | none => (s, none)
    | some (b, i) =>
      let (s, v) := s.readReg w (key / 4096) b i key
      (s, some (if size = 4 then (v >>> (8 * (off % 8))) &&& maskN 0 32 else v))

/-! ### Writes -/

/-- A write of ERR_INJECT (R467): CID 63, or a compartment other than the writer's where the writer is not H of the platform
compartment, needs W. -/
def State.wrInject (s : State) (w : Who) (page : Nat) (v : Word) : State :=
  let k := Reg.ERR_INJECT page
  let c := fieldN v 2 6
  if (c = 63 ∨ (c ≠ w.cid ∧ w.isH s.platform = false)) ∧ w.wOrBoot = false then s.denyAt k else s.putFields k v

/-- A write of IRQ_EN: an enabled bit already set raises its event (R492). -/
def State.wrIrqEn (s : State) (page : Nat) (v : Word) : State :=
  let old := s.rd (Reg.IRQ_STAT page) &&& s.rd (Reg.IRQ_EN page)
  (s.wr (Reg.IRQ_EN page) (v &&& irqDefined page)).irqFire page old

/-- A write of CII_SET: bits 2 to 6 and 8 to 63 set pending bits (R129). -/
def State.wrCiiSet (s : State) (n c : Nat) (v : Word) : State :=
  let k := Reg.CII_PEND n c
  s.wr k (s.rd k ||| (v &&& 0xFFFFFFFFFFFFFF7C#64))

/-- Whether the ranges of queue IDs [a, a + n) and [b, b + m) share an ID. -/
def rangesMeet (a n b m : Nat) : Bool := decide (0 < n ∧ 0 < m ∧ a < b + m ∧ b < a + n)

/-- A write of QM_RANGE: a range past the last queue, or one that overlaps another compartment's, is ignored and logged as a
denial (R229). -/
def State.wrRange (s : State) (c : Nat) (v : Word) : State :=
  let k := Reg.QM_RANGE c
  let b := fieldN v 0 18
  let n := fieldN v 20 19
  let meets := (natsFrom 0 64).any (fun d => decide (d ≠ c) &&
    rangesMeet b n (s.getF (Reg.QM_RANGE d) Fld.QM_RANGE_BASE) (s.getF (Reg.QM_RANGE d) Fld.QM_RANGE_COUNT))
  if 262144 < b + n ∨ meets then s.denyAt k else s.putFields k v

/-- A write of IDX_CLB_n: by H of the cluster's compartment or by W; for a cluster of compartment 63 the normal world is
refused (R296). -/
def State.wrBounds (s : State) (w : Who) (n : Nat) (v : Word) : State :=
  let k := Reg.IDX_CLB n
  if w.hOrW (s.cid n) then s.putFields k v
  else if s.cid n = 63 then s.wardenRefuse (0x100 + n) k
  else s.denyAt k

/-- A write of DMG_CFG by boot firmware, until its lock (R332). -/
def State.wrDramCfg (s : State) (v : Word) : State :=
  if s.isF Reg.DMG_CFG Fld.DMG_CFG_LOCK then s else s.putFields Reg.DMG_CFG v

/-- A write-only key whose value the block keeps: a write of half of it changes that half. -/
def State.wrKey (s : State) (k : Nat) (half : Option Nat) (v : Word) : State :=
  match half with
  | none => s.wr k v
  | some h => s.wr k (putN (s.rd k) (32 * h) 32 (v.toNat >>> (32 * h)))

/-- The wheel of a beat-wheel page. -/
def pageWheel (page : Nat) : Nat :=
  match (natsFrom 0 142).find? (fun w => decide (wheelPage w = page)) with
  | some w => w
  | none => 0

/-- A write of a DSP page: DSP_HOME_c takes effect at the core's next dispatch, DSP_PARK_c at its next park (R249, R250). -/
def State.wrDsp (s : State) (n key : Nat) (v : Word) : State :=
  let off := key % 4096
  let parked := decide ((s.core (n * 16 + (off - 0x100) / 0x20)).run = .parked)
  let waits := (decide (off % 0x20 = 0) && !parked) || (decide (off % 0x20 = 0x18) && parked)
  (if waits then s.latch key else s).putFields key v

/-- A block's own registers written: those with a rule beyond their map. -/
def State.wrOwn (s : State) (w : Who) (page : Nat) (b : Blk) (i key : Nat) (half : Option Nat) (v : Word) : State :=
  let off := key % 4096
  let j := (off - 0x100) / 8
  match b with
  | .pwc => if off = 0x100 then s.wrDevReq w v else s.putFields key v
  | .rst =>
    if off = 0x100 then s.wrRstReq w v
    else if off = 0x120 then s.wrHov w v
    else if off = 0x128 then (if s.boot.hovLocked then s.denyAt key else s.putFields key v)
    else if 0x208 ≤ off ∧ off < 0x228 then s.wrArb ((off - 0x208) / 8) v
    else s.putFields key v
  | .tbc => if off = 0x100 then s.wrTbcSet v else s.putFields key v
  | .swd => if off = 0x100 then s.wrSwdCtl v else if off = 0x118 then s.wrKick v else s.putFields key v
  | .gpio => s.wrPin w j v
  | .wdn =>
    if off = 0x100 then s.wrWardenCtl v
    else if 0x400 ≤ off then
      (if off % 16 = 8 then s.wrReply w ((off - 0x400) / 16) v else s.wrResult w ((off - 0x400) / 16) v)
    else s.putFields key v
  | .lg =>
    if off = 0x100 then s.wrFormat v else if off = 0x128 then s.wrWind v else if off = 0x148 then s.wrExport v
    else s.putFields key v
  | .upt => if off = 0x108 then s.wrUptCtl w v else if off = 0x110 then s.wrUptApply w v else s.putFields key v
  | .rmt => if off = 0x100 then s.wrShare none v else if 0x400 ≤ off then s.wrShare (some ((off - 0x400) / 8)) v else s.putFields key v
  | .idx => if 0x400 ≤ off then s.wrBounds w ((off - 0x400) / 8) v else (if off = 0x100 then s.noteTrigger else s).putFields key v
  | .cmt =>
    if off < 0x400 then s.wrCluster w j v
    else if off < 0x600 then s.wrBand w ((off - 0x400) / 8) v
    else s.wrColor w ((off - 0x600) / 8) v
  | .l3bm => s.wrBandFlush w v
  | .dmg =>
    if off = 0x100 then s.wrDramCfg v else if off = 0x120 then s.wrSpare v
    else if off = 0x110 then (s.latch key).putFields key v else s.putFields key v
  | .fabg =>
    if off = 0x100 then s.wrNode v
    else if 0x108 ≤ off ∧ off < 0x138 then s.wrSub w ((off - 0x108) / 8) v
    else if off = 0x140 then (s.putFields key v).updSync
    else if off = 0x148 then s.wrFabCtl v
    else if off = 0x150 then s.wrKey key half v
    else s.wrGroup w ((off - 0x400) / 8) v
  | .iom =>
    if off = 0x900 then s.wrIomInv w i v
    else if off = 0x910 then s.wrPrgr w i v
    else if off % 32 = 0 then s.wrRte w i ((off - 0x100) / 32) v
    else s.wrIomEntry w i ((off - 0x100) / 32) key v
  | .fab => s.wrPortCtl i v
  | .irr => s.wrIrt w key v
  | .dma => if off = 0x100 then s.wrDmaAttr w i v else if off = 0x110 then s.wrDmaXlat i v else s.putFields key v
  | .l3s => if off = 0x110 then s.wrSpareCtl i v else s.putFields key v
  | .l2c => if off = 0x100 then s.wrPrefetch i v else s.putFields key v
  | .cii => if off % 0x40 = 8 then s.wrCiiSet i ((off - 0x100) / 0x40) v else s.putFields key v
  | .cmp =>
    if off < 0x300 then s.wrSteer i j v
    else if off = 0x300 then s.wrCmpCtl i v
    else if off = 0x310 then s.wrDtm i v
    else s.wrBarCtl i v
  | .bar => s.barArrival i w.cluster
  | .usq => (if off = 0x108 then s.snapTrace i else s).putFields key v
  | .dsp => s.wrDsp i key v
  | .qm => if off = 0x100 then s.wrRange i v else s.putFields key v
  | .ist => s.wrIst w i v
  | .fxc =>
    if off = 0x100 then s.wrAcc w i v
    else if off = 0x108 ∨ off = 0x120 then s.wrRing i key v
    else if off = 0x110 then s.wrTail i v
    else if 0x200 ≤ off ∧ off % 32 = 16 then s.wrKey key half v
    else s.putFields key v
  | .bwMesh | .bwL3s | .bwD2d | .bwDram | .bwHub => s.wrBeatMap w (pageWheel page) j v
  | .dmc => if off = 0x100 ∨ off = 0x110 then (s.latch key).putFields key v else s.putFields key v
  | .dev | .atl | .hub | .pcie | .mesh | .ann | .dmaa | .pcoa => s.putFields key v

/-- Step 8 of R493 for a write of the whole register. -/
def State.wrReg (s : State) (w : Who) (page : Nat) (b : Blk) (i key : Nat) (half : Option Nat) (v : Word) : State :=
  let off := key % 4096
  if off = 0x020 then s.wrOwner w page v
  else if off = 0x028 then (if b = .bar then s else s.wrBlkPwr w page v)
  else if off = 0x048 then s.wrIrqEn page v
  else if off = 0x050 then s.irqRaise page v
  else if off = 0x0A0 then s.wrInject w page v
  else if off < 0x100 ∧ off ≠ 0x030 then s.putFields key v
  else if b.arb ∧ off = 0x030 then s.wrFreeze page v
  else if b.arb ∧ (off = 0x880 ∨ off = 0x888) then s.wrPrio page ((off - 0x880) / 8) v
  else s.wrOwn w page b i key half v

/-- A write of L3BM_FLUSH.GO that the page's gate has refused, by software that is neither the band owner's H nor W, while no flush runs:
RESULT reads 5 (R225). -/
def State.flushRefused (s : State) (w : Who) (key : Nat) (v : Word) : State :=
  let b := fieldN v 0 6
  let may := w.wOrBoot || (s.isF (Reg.CMT_BAND b) Fld.CMT_BAND_EN && w.isH (s.getF (Reg.CMT_BAND b) Fld.CMT_BAND_CID))
  if key = Reg.L3BM_FLUSH ∧ bitN v 6 ∧ may = false ∧ s.getF Reg.L3BM_FLUSH_STAT Fld.L3BM_FLUSH_STAT_RESULT ≠ 1 ∧
      s.blockAsleep (key / 4096) = false then
    s.setF Reg.L3BM_FLUSH_STAT Fld.L3BM_FLUSH_STAT_RESULT 5
  else s

/-- A store to the atlas of `size` bytes at `pa`, aligned: false for an error response (R493, R496). -/
def State.atlasWrite (s : State) (w : Who) (pa size : Nat) (v : Word) : State × Bool :=
  match s.gate w pa size true with
  | (s, .error) => (s, false)
  | (s, .zero) => (s.flushRefused w (pa - 0xFF00000000000) v, true)
  | (s, .ones) => (s, true)
  | (s, .serve) =>
    let off := pa - 0xFF00000000000
    let key := off - off % 8
    match Blk.ofPage (key / 4096) with
    | none => (s, false)
    | some (b, i) =>
      if size = 4 then
        let h := off % 8 / 4
        (s.wrReg w (key / 4096) b i key (some h) (s.halfWord key h v), true)
      else (s.wrReg w (key / 4096) b i key none v, true)

/-! ### Commands that are the write of one register -/

/-- A 64-bit write of a register by an agent; nothing where the agent does not run. -/
def State.cmdWrite (s : State) (a : Agent) (key : Nat) (v : Word) : State :=
  match s.who a with
  | none => s
  | some w => (s.atlasWrite w (regAddr key) 8 v).1.settle

/-- REGISTER_WRITE (R490 to R498). -/
def execRegisterWrite (a : Agent) (pa : BitVec 52) (w32 : Bool) (v : Word) (s : State) : Outcome State Fault Refusal :=
  let p := pa.toNat
  let n := if w32 then 4 else 8
  if p < 0xFF00000000000 ∨ 0xFF00010000000 ≤ p ∨ p % n ≠ 0 then .next s else
  match s.who a with
  | none => .next s
  | some w => .next (s.atlasWrite w p n v).1.settle

/-- BLK_OWNER_WRITE (R491, R503). -/
def execBlkOwnerWrite (a : Agent) (page : BitVec 12) (v : Word) (s : State) : Outcome State Fault Refusal :=
  .next (s.cmdWrite a (Reg.BLK_OWNER page.toNat) v)

/-- CII_SET (R129). -/
def execCiiSet (a : Agent) (c : CoreId) (v : Word) (s : State) : Outcome State Fault Refusal :=
  .next (s.cmdWrite a (Reg.CII_SET (c.val / 16) (c.val % 16)) v)

/-- L3S_SPARE_GO (R222). -/
def execL3sSpareGo (a : Agent) (sl : Fin 64) (v : Word) (s : State) : Outcome State Fault Refusal :=
  .next (s.cmdWrite a (Reg.L3S_SPARE_CTL sl.val) v)

/-- L3BM_FLUSH_GO (R225). -/
def execL3bmFlushGo (a : Agent) (v : Word) (s : State) : Outcome State Fault Refusal :=
  .next (s.cmdWrite a Reg.L3BM_FLUSH v)

/-- L2C_PF_WRITE (R228). -/
def execL2cPfWrite (a : Agent) (n : ClusterId) (v : Word) (s : State) : Outcome State Fault Refusal :=
  .next (s.cmdWrite a (Reg.L2C_PF n.val) v)

/-- CMT_CLUSTER_DRAIN (R264). -/
def execCmtClusterDrain (a : Agent) (n : ClusterId) (v : Word) (s : State) : Outcome State Fault Refusal :=
  .next (s.cmdWrite a (Reg.CMT_CLUSTER n.val) v)

/-- CMT_CLUSTER_ASSIGN (R264). -/
def execCmtClusterAssign (a : Agent) (n : ClusterId) (v : Word) (s : State) : Outcome State Fault Refusal :=
  .next (s.cmdWrite a (Reg.CMT_CLUSTER n.val) v)

/-- CMT_BAND_WRITE (R265). -/
def execCmtBandWrite (a : Agent) (k : Fin 64) (v : Word) (s : State) : Outcome State Fault Refusal :=
  .next (s.cmdWrite a (Reg.CMT_BAND k.val) v)

/-- COLOR_SWEEP (R266). -/
def execColorSweep (a : Agent) (k : Fin 64) (v : Word) (s : State) : Outcome State Fault Refusal :=
  .next (s.cmdWrite a (Reg.CMT_COLOR k.val) v)

/-- CMP_STEER_WRITE (R270, R271). -/
def execCmpSteerWrite (a : Agent) (comp : CompId) (j : Fin 64) (v : Word) (s : State) : Outcome State Fault Refusal :=
  .next (s.cmdWrite a (Reg.CMP_STEER comp.val j.val) v)

/-- BEAT_MAP_WRITE (R276). -/
def execBeatMapWrite (a : Agent) (w : Fin 142) (i : Fin 64) (v : Word) (s : State) : Outcome State Fault Refusal :=
  .next (s.cmdWrite a (Reg.BEAT_MAP (wheelPage w.val) i.val) v)

/-- CMP_CTL_WRITE (R278). -/
def execCmpCtlWrite (a : Agent) (comp : CompId) (v : Word) (s : State) : Outcome State Fault Refusal :=
  .next (s.cmdWrite a (Reg.CMP_CTL comp.val) v)

/-- CMP_DTM_WRITE (R277). -/
def execCmpDtmWrite (a : Agent) (comp : CompId) (v : Word) (s : State) : Outcome State Fault Refusal :=
  .next (s.cmdWrite a (Reg.CMP_DTM comp.val) v)

/-- CMP_BAR_CTL_WRITE (R281). -/
def execCmpBarCtlWrite (a : Agent) (comp : CompId) (v : Word) (s : State) : Outcome State Fault Refusal :=
  .next (s.cmdWrite a (Reg.CMP_BAR_CTL comp.val) v)

/-- BAR_ARRIVE (R281, R502): a store by a core; the value stored is not used. -/
def execBarArrive (c : CoreId) (comp : CompId) (s : State) : Outcome State Fault Refusal :=
  .next (s.cmdWrite (.core c) (Reg.BAR_ARRIVE comp.val) 0#64)

/-- ARB_PRIO_WRITE (R284). -/
def execArbPrioWrite (a : Agent) (b : ArbId) (hi : Bool) (v : Word) (s : State) : Outcome State Fault Refusal :=
  .next (s.cmdWrite a (Reg.ARB_PRIO (arbPage b) (b2n hi)) v)

/-- BLK_FREEZE_WRITE (R290). -/
def execBlkFreezeWrite (a : Agent) (b : ArbId) (v : Word) (s : State) : Outcome State Fault Refusal :=
  .next (s.cmdWrite a (Reg.BLK_FREEZE (arbPage b)) v)

/-- The register that holds a unit's attribute, and the place of the attribute in it. -/
def attrReg : AttrUnit → Nat × Nat
  | .vector d v => (irtKey (d.val * 4096 + v.val), 0)
  | .pin n => (Reg.GPIO_PIN n.val, 0)
  | .dma n => (Reg.DMA_ATTR n.val, 0)
  | .rte p i => (Reg.IOM_RTE p.val i.val, 32)

/-- SECURE_ATTRIBUTE_WRITE (R293, R294): the attribute of a unit written, the other fields of its register as they stand. -/
def execSecureAttributeWrite (a : Agent) (u : AttrUnit) (v : BitVec 8) (s : State) : Outcome State Fault Refusal :=
  let (k, lo) := attrReg u
  .next (s.cmdWrite a k (putN (s.rd k) lo 8 v.toNat))

/-- WCALL_REPLY (R303): core `c` writes its own WDN_WRPL. -/
def execWcallReply (c : CoreId) (v : Word) (s : State) : Outcome State Fault Refusal :=
  .next (s.cmdWrite (.core c) (Reg.WDN_WRPL (c.val % 16)) v)

/-- WDN_RESTART (R306). -/
def execWdnRestart (a : Agent) (v : Word) (s : State) : Outcome State Fault Refusal := .next (s.cmdWrite a Reg.WDN_CTL v)

/-- SWD_CTL_EN (R305). -/
def execSwdCtlEn (a : Agent) (v : Word) (s : State) : Outcome State Fault Refusal := .next (s.cmdWrite a Reg.SWD_CTL v)

/-- SWD_KICK (R305). -/
def execSwdKick (a : Agent) (v : Word) (s : State) : Outcome State Fault Refusal := .next (s.cmdWrite a Reg.SWD_KICK v)

/-- LG_EXPORT (R323). -/
def execLgExport (a : Agent) (v : Word) (s : State) : Outcome State Fault Refusal := .next (s.cmdWrite a Reg.LG_EXP_CTL v)

/-- LG_WIND (R324). -/
def execLgWind (a : Agent) (v : Word) (s : State) : Outcome State Fault Refusal := .next (s.cmdWrite a Reg.LG_WIND v)

/-- LG_FORMAT (R327). -/
def execLgFormat (a : Agent) (v : Word) (s : State) : Outcome State Fault Refusal := .next (s.cmdWrite a Reg.LG_CTL v)

/-- DMG_SPARE_GO (R352). -/
def execDmgSpareGo (a : Agent) (v : Word) (s : State) : Outcome State Fault Refusal := .next (s.cmdWrite a Reg.DMG_SPARE_CTL v)

/-- IOM_PRGR (R365). -/
def execIomPrgr (a : Agent) (p : Fin 4) (v : Word) (s : State) : Outcome State Fault Refusal :=
  .next (s.cmdWrite a (Reg.IOM_PRGR p.val) v)

/-- IOM_INV (R366). -/
def execIomInv (a : Agent) (p : Fin 4) (v : Word) (s : State) : Outcome State Fault Refusal :=
  .next (s.cmdWrite a (Reg.IOM_INV p.val) v)

/-- IOM_RTE_WRITE (R360). -/
def execIomRteWrite (a : Agent) (p : Fin 4) (i : Fin 64) (v : Word) (s : State) : Outcome State Fault Refusal :=
  .next (s.cmdWrite a (Reg.IOM_RTE p.val i.val) v)

/-- DMA_ATTR_WRITE (R294, R295). -/
def execDmaAttrWrite (a : Agent) (n : Fin 64) (v : Word) (s : State) : Outcome State Fault Refusal :=
  .next (s.cmdWrite a (Reg.DMA_ATTR n.val) v)

/-- IRQ_SET (R492). -/
def execIrqSet (a : Agent) (page : BitVec 12) (v : Word) (s : State) : Outcome State Fault Refusal :=
  .next (s.cmdWrite a (Reg.IRQ_SET page.toNat) v)

/-- IRQ_EN_WRITE (R492). -/
def execIrqEnWrite (a : Agent) (page : BitVec 12) (v : Word) (s : State) : Outcome State Fault Refusal :=
  .next (s.cmdWrite a (Reg.IRQ_EN page.toNat) v)

/-- FAB_RETRAIN (R383). -/
def execFabRetrain (a : Agent) (p : Fin 6) (v : Word) (s : State) : Outcome State Fault Refusal :=
  .next (s.cmdWrite a (Reg.FAB_PORT_CTL p.val) v)

/-- FAB_UNQ (R410). -/
def execFabUnq (a : Agent) (p : Fin 6) (v : Word) (s : State) : Outcome State Fault Refusal :=
  .next (s.cmdWrite a (Reg.FAB_PORT_CTL p.val) v)

/-- FXC_TAIL (R397). -/
def execFxcTail (a : Agent) (comp : CompId) (v : Word) (s : State) : Outcome State Fault Refusal :=
  .next (s.cmdWrite a (Reg.FXC_TAIL comp.val) v)

/-- FXC_ACC_WRITE (R395). -/
def execFxcAccWrite (a : Agent) (comp : CompId) (v : Word) (s : State) : Outcome State Fault Refusal :=
  .next (s.cmdWrite a (Reg.FXC_ACC comp.val) v)

/-- FABG_RSTOUT (R405). -/
def execFabgRstout (a : Agent) (v : Word) (s : State) : Outcome State Fault Refusal := .next (s.cmdWrite a Reg.FABG_CTL v)

/-- RMT_SHARE_WRITE (R415): RMT_LIM, or the SHARE of a pool. -/
def execRmtShareWrite (a : Agent) (pool : Option CompId) (v : Word) (s : State) : Outcome State Fault Refusal :=
  .next (s.cmdWrite a (match pool with | none => Reg.RMT_LIM | some c => Reg.RMT_POOL c.val) v)

/-- BLK_PWR_REQ (R424). -/
def execBlkPwrReq (a : Agent) (page : BitVec 12) (v : Word) (s : State) : Outcome State Fault Refusal :=
  .next (s.cmdWrite a (Reg.BLK_PWR page.toNat) v)

/-- PWC_DEV_REQ (R424). -/
def execPwcDevReq (a : Agent) (v : Word) (s : State) : Outcome State Fault Refusal := .next (s.cmdWrite a Reg.PWC_DEV_REQ v)

/-- TBC_SET (R443). -/
def execTbcSet (a : Agent) (v : Word) (s : State) : Outcome State Fault Refusal := .next (s.cmdWrite a Reg.TBC_SET v)

/-- TBC_SLEW (R443). -/
def execTbcSlew (a : Agent) (v : Word) (s : State) : Outcome State Fault Refusal := .next (s.cmdWrite a Reg.TBC_SLEW v)

/-- RST_HOV_GO (R447). -/
def execRstHovGo (a : Agent) (v : Word) (s : State) : Outcome State Fault Refusal := .next (s.cmdWrite a Reg.RST_HOV_CTL v)

/-- RST_ARB_WRITE (R456): RST_ARB_1 to RST_ARB_4. -/
def execRstArbWrite (a : Agent) (k : Fin 4) (v : Word) (s : State) : Outcome State Fault Refusal :=
  .next (s.cmdWrite a (Reg.RST_ARB k.val) v)

/-- The word of RST_REQ that asks for a reset: KIND, the cluster or compartment, the core, the block, and GO. -/
def rstWord (kind unit core page : Nat) : Word := BitVec.ofNat 64 (kind + unit * 8 + core * 2 ^ 10 + page * 2 ^ 14 + 2 ^ 26)

/-- COLD_RESET (R451). -/
def execColdReset (a : Agent) (s : State) : Outcome State Fault Refusal := .next (s.cmdWrite a Reg.RST_REQ (rstWord 6 0 0 0))

/-- WARM_DEVICE_RESET (R451). -/
def execWarmDeviceReset (a : Agent) (s : State) : Outcome State Fault Refusal :=
  .next (s.cmdWrite a Reg.RST_REQ (rstWord 1 0 0 0))

/-- COMPARTMENT_RESET (R451, R452). -/
def execCompartmentReset (a : Agent) (comp : CompId) (s : State) : Outcome State Fault Refusal :=
  .next (s.cmdWrite a Reg.RST_REQ (rstWord 2 comp.val 0 0))

/-- CLUSTER_RESET (R451, R452). -/
def execClusterReset (a : Agent) (n : ClusterId) (s : State) : Outcome State Fault Refusal :=
  .next (s.cmdWrite a Reg.RST_REQ (rstWord 3 n.val 0 0))

/-- CORE_RESET (R451, R452). -/
def execCoreReset (a : Agent) (c : CoreId) (s : State) : Outcome State Fault Refusal :=
  .next (s.cmdWrite a Reg.RST_REQ (rstWord 4 (c.val / 16) (c.val % 16) 0))

/-- BLOCK_RESET (R451). -/
def execBlockReset (a : Agent) (page : BitVec 12) (s : State) : Outcome State Fault Refusal :=
  .next (s.cmdWrite a Reg.RST_REQ (rstWord 5 0 0 page.toNat))

/-- ERR_INJECT (R467). -/
def execErrInject (a : Agent) (page : BitVec 12) (v : Word) (s : State) : Outcome State Fault Refusal :=
  .next (s.cmdWrite a (Reg.ERR_INJECT page.toNat) v)

/-- IST_REQ_GO (R468, R469). -/
def execIstReqGo (a : Agent) (comp : CompId) (v : Word) (s : State) : Outcome State Fault Refusal :=
  .next (s.cmdWrite a (Reg.IST_REQ comp.val) v)

/-- UPT_STAGE (R482). -/
def execUptStage (a : Agent) (v : Word) (s : State) : Outcome State Fault Refusal := .next (s.cmdWrite a Reg.UPT_CTL v)

/-- UPT_COMMIT (R484). -/
def execUptCommit (a : Agent) (v : Word) (s : State) : Outcome State Fault Refusal := .next (s.cmdWrite a Reg.UPT_CTL v)

/-- UPT_APPLY (R483). -/
def execUptApply (a : Agent) (v : Word) (s : State) : Outcome State Fault Refusal := .next (s.cmdWrite a Reg.UPT_APPLY v)

end Sys2Proof.Machine
end

