-- ==== Sys2Proof/Machine/Flags.lean ====
section
/-! DEFINITION. What the operations of chapter 4 compute: the result of each, and whether it sets the sticky overflow bit
or the sticky division bit (R82 to R89, R96 to R101). -/

namespace Sys2Proof.Machine

/-- A result, and which sticky bits the operation sets. -/
structure Alu where
  r : Word
  v : Bool := false
  dz : Bool := false
  deriving DecidableEq, Repr

/-- Whether an exact integer lies outside [MIN, MAX] (R82). -/
def outside (x : Int) : Bool := decide (x < -(2 ^ 63)) || decide (2 ^ 63 ≤ x)

/-! ### Arithmetic (R82, R86) -/

def aluAdd (a b : Word) : Alu := { r := a + b, v := outside (a.toInt + b.toInt) }
def aluSub (a b : Word) : Alu := { r := a - b, v := outside (a.toInt - b.toInt) }
def aluNeg (a : Word) : Alu := { r := 0#64 - a, v := decide (a = minWord) }
def aluMul (a b : Word) : Alu := { r := a * b, v := outside (a.toInt * b.toInt) }

/-- Bits [127:64] of the signed product. -/
def mulHS (a b : Word) : Word := BitVec.ofInt 64 ((a.toInt * b.toInt) / 2 ^ 64)

/-- Bits [127:64] of the unsigned product. -/
def mulHU (a b : Word) : Word := BitVec.ofNat 64 ((a.toNat * b.toNat) / 2 ^ 64)

def aluDiv (a b : Word) : Alu :=
  if b = 0#64 then { r := allOnes, dz := true }
  else if a = minWord ∧ b = allOnes then { r := minWord, v := true }
  else { r := BitVec.ofInt 64 (a.toInt.tdiv b.toInt) }

def aluRem (a b : Word) : Alu :=
  if b = 0#64 then { r := a, dz := true }
  else if a = minWord ∧ b = allOnes then { r := 0#64 }
  else { r := BitVec.ofInt 64 (a.toInt - b.toInt * a.toInt.tdiv b.toInt) }

def aluDivu (a b : Word) : Alu :=
  if b = 0#64 then { r := allOnes, dz := true } else { r := BitVec.ofNat 64 (a.toNat / b.toNat) }

def aluRemu (a b : Word) : Alu :=
  if b = 0#64 then { r := a, dz := true } else { r := BitVec.ofNat 64 (a.toNat % b.toNat) }

/-! ### Shifts and rotates (R84) -/

def shl (a n : Word) : Word := if 64 ≤ n.toNat then 0#64 else a <<< n.toNat
def shr (a n : Word) : Word := if 64 ≤ n.toNat then 0#64 else a >>> n.toNat
def sar (a n : Word) : Word := if 64 ≤ n.toNat then (if a.msb then allOnes else 0#64) else a.sshiftRight n.toNat
def rol (a n : Word) : Word := a.rotateLeft (n.toNat % 64)
def ror (a n : Word) : Word := a.rotateRight (n.toNat % 64)

/-! ### SEAL (R96) -/

/-- CRC-32C of the low `n` bytes of `x` accumulated into the low 32 bits of `crc`, zero-extended. -/
def sealN (n : Nat) (crc x : Word) : Word :=
  BitVec.ofNat 64 (crcBytes (crc.toNat % 2 ^ 32) (natToBytes n x.toNat))

/-! ### AES (R97, FIPS 197) -/

/-- Multiplication by x in the field of AES. -/
def xtime (b : Nat) : Nat := if b < 128 then 2 * b else (2 * b) % 256 ^^^ 0x1B

/-- Multiplication in the field of AES, with `n` bits of `b` left. -/
def gmulN : Nat → Nat → Nat → Nat
  | 0, _, _ => 0
  | n + 1, a, b => (if b % 2 = 1 then a else 0) ^^^ gmulN n (xtime a) (b / 2)

def gmul (a b : Nat) : Nat := gmulN 8 a b

/-- The inverse in the field of AES, a^254; 0 for 0. -/
def ginv (a : Nat) : Nat :=
  let a2 := gmul a a
  let a4 := gmul a2 a2
  let a8 := gmul a4 a4
  let a16 := gmul a8 a8
  let a32 := gmul a16 a16
  let a64 := gmul a32 a32
  let a128 := gmul a64 a64
  gmul a128 (gmul a64 (gmul a32 (gmul a16 (gmul a8 (gmul a4 a2)))))

/-- A byte rotated left. -/
def rotl8 (b k : Nat) : Nat := (b * 2 ^ k) % 256 ||| b / 2 ^ (8 - k)

/-- SubBytes of a byte. -/
def sbox (b : Nat) : Nat :=
  let i := ginv b
  i ^^^ rotl8 i 1 ^^^ rotl8 i 2 ^^^ rotl8 i 3 ^^^ rotl8 i 4 ^^^ 0x63

/-- InvSubBytes of a byte. -/
def invSbox (b : Nat) : Nat := ginv (rotl8 b 1 ^^^ rotl8 b 3 ^^^ rotl8 b 6 ^^^ 0x05)

/-- The bytes in0 to in15 of a state held in two entries, the deeper one first. -/
def aesBytes (s0 s1 : Word) : List Nat := (natToBytes 8 s0.toNat ++ natToBytes 8 s1.toNat).map (·.toNat)

/-- Byte `i` of a state. -/
def aesAt (l : List Nat) (i : Nat) : Nat := l.getD i 0

/-- ShiftRows: row r of column c comes from column c + r. -/
def shiftRows (l : List Nat) : List Nat := (natsFrom 0 16).map (fun i => aesAt l ((i / 4 + i % 4) % 4 * 4 + i % 4))

/-- InvShiftRows: row r of column c comes from column c - r. -/
def invShiftRows (l : List Nat) : List Nat := (natsFrom 0 16).map (fun i => aesAt l ((i / 4 + 4 - i % 4) % 4 * 4 + i % 4))

/-- Each column multiplied by the circulant matrix whose first row is m0 m1 m2 m3. -/
def mixWith (m0 m1 m2 m3 : Nat) (l : List Nat) : List Nat :=
  (natsFrom 0 16).map (fun i =>
    let c := i / 4 * 4
    let r := i % 4
    let b := fun k => aesAt l (c + (r + k) % 4)
    gmul (b 0) m0 ^^^ gmul (b 1) m1 ^^^ gmul (b 2) m2 ^^^ gmul (b 3) m3)

def mixColumns (l : List Nat) : List Nat := mixWith 2 3 1 1 l
def invMixColumns (l : List Nat) : List Nat := mixWith 14 11 13 9 l

/-- The two entries of a state, the deeper one first, xored with a key's. -/
def aesOut (l : List Nat) (k0 k1 : Word) : Word × Word :=
  let b := l.map (fun x => BitVec.ofNat 8 x)
  (bytesToWord (b.take 8) ^^^ k0, bytesToWord (b.drop 8) ^^^ k1)

def aesEnc (s0 s1 k0 k1 : Word) : Word × Word := aesOut (mixColumns (shiftRows ((aesBytes s0 s1).map sbox))) k0 k1
def aesEncLast (s0 s1 k0 k1 : Word) : Word × Word := aesOut (shiftRows ((aesBytes s0 s1).map sbox)) k0 k1
def aesDec (s0 s1 k0 k1 : Word) : Word × Word := aesOut (invMixColumns (invShiftRows ((aesBytes s0 s1).map invSbox))) k0 k1
def aesDecLast (s0 s1 k0 k1 : Word) : Word × Word := aesOut (invShiftRows ((aesBytes s0 s1).map invSbox)) k0 k1
def aesImc (s0 s1 : Word) : Word × Word := aesOut (invMixColumns (aesBytes s0 s1)) 0#64 0#64

/-- AESKG: SubWord(RotWord(w)) xor rc on 32 bits, RotWord being a rotation right by 8. -/
def aesKeyStep (w rc : Word) : Word :=
  let x : BitVec 32 := (w.setWidth 32).rotateRight 8
  let b := (natToBytes 4 x.toNat).map (fun y => BitVec.ofNat 8 (sbox y.toNat))
  BitVec.ofNat 64 (bytesToNat b) ^^^ (rc &&& 0xFFFFFFFF#64)

/-! ### SHA-2 (R98) -/

/-- Two rotations and a third rotation or shift on 32 bits. -/
def sha256Rot (a b c : Nat) (x : Word) : Word :=
  let y : BitVec 32 := x.setWidth 32
  (y.rotateRight a ^^^ y.rotateRight b ^^^ y.rotateRight c).setWidth 64

def sha256Shr (a b c : Nat) (x : Word) : Word :=
  let y : BitVec 32 := x.setWidth 32
  (y.rotateRight a ^^^ y.rotateRight b ^^^ (y >>> c)).setWidth 64

def sha512Rot (a b c : Nat) (x : Word) : Word := x.rotateRight a ^^^ x.rotateRight b ^^^ x.rotateRight c
def sha512Shr (a b c : Nat) (x : Word) : Word := x.rotateRight a ^^^ x.rotateRight b ^^^ (x >>> c)

/-! ### Carry-less multiply (R99) -/

/-- The carry-less product of `a` and the low `n` bits of `b`. -/
def clmulN : Nat → Nat → Nat → Nat
  | 0, _, _ => 0
  | n + 1, a, b => (if b % 2 = 1 then a else 0) ^^^ clmulN n (2 * a) (b / 2)

def clmulLo (a b : Word) : Word := BitVec.ofNat 64 (clmulN 64 a.toNat b.toNat)
def clmulHi (a b : Word) : Word := BitVec.ofNat 64 (clmulN 64 a.toNat b.toNat / 2 ^ 64)

/-! ### Bit manipulation (R100, R101) -/

/-- Leading zero bits among the low `n` bits. -/
def clzN : Nat → Nat → Nat
  | 0, _ => 0
  | n + 1, a => if a.testBit n then 0 else 1 + clzN n a

/-- Trailing zero bits, at most `n`. -/
def ctzN : Nat → Nat → Nat
  | 0, _ => 0
  | n + 1, a => if a % 2 = 1 then 0 else 1 + ctzN n (a / 2)

/-- One bits among the low `n`. -/
def popN : Nat → Nat → Nat
  | 0, _ => 0
  | n + 1, a => a % 2 + popN n (a / 2)

/-- The low `n` bits in reverse order. -/
def brevN : Nat → Nat → Nat
  | 0, _ => 0
  | n + 1, a => (a % 2) * 2 ^ n + brevN n (a / 2)

def clz (a : Word) : Word := BitVec.ofNat 64 (clzN 64 a.toNat)
def ctz (a : Word) : Word := BitVec.ofNat 64 (ctzN 64 a.toNat)
def popc (a : Word) : Word := BitVec.ofNat 64 (popN 64 a.toNat)
def bswap (a : Word) : Word := bytesToWord (natToBytes 8 a.toNat).reverse
def brev (a : Word) : Word := BitVec.ofNat 64 (brevN 64 a.toNat)
def mins (a b : Word) : Word := if a.toInt ≤ b.toInt then a else b
def maxs (a b : Word) : Word := if a.toInt ≤ b.toInt then b else a
def minu (a b : Word) : Word := if a.toNat ≤ b.toNat then a else b
def maxu (a b : Word) : Word := if a.toNat ≤ b.toNat then b else a
def bch (e f g : Word) : Word := (e &&& f) ^^^ (~~~e &&& g)
def bmaj (a b c : Word) : Word := (a &&& b) ^^^ (a &&& c) ^^^ (b &&& c)

/-- BFX (R101). -/
def bfx (a ctl : Word) : Word :=
  let len := min (fieldN ctl 0 7) 64
  let pos := fieldN ctl 8 6
  if len = 0 then 0#64
  else if len = 64 then a >>> pos
  else if bitN ctl 7 then sextN len (a.toNat >>> pos)
  else BitVec.ofNat 64 ((a.toNat >>> pos) % 2 ^ len)

/-! ### Atomics (R93) -/

/-- The value an atomic writes; none for a failed ACAS. `w` is the width in bits, `old`, `v` and `exp` are below 2^w. -/
def atomNew (op : AtomOp) (w old v exp : Nat) : Option Nat :=
  let sg := fun (x : Nat) => (if x < 2 ^ (w - 1) then (x : Int) else (x : Int) - 2 ^ w)
  match op with
  | .axchg => some v
  | .acas => if old = exp then some v else none
  | .aadd => some ((old + v) % 2 ^ w)
  | .aand => some (old &&& v)
  | .aor => some (old ||| v)
  | .axor => some (old ^^^ v)
  | .amin => some (if sg old ≤ sg v then old else v)
  | .amax => some (if sg old ≤ sg v then v else old)
  | .aminu => some (min old v)
  | .amaxu => some (max old v)

end Sys2Proof.Machine
end

