-- ==== Sys2Proof/Machine/StoreBuf.lean ====
section
/-! DEFINITION. The store buffer of a core (chapter 8): commit, drain, what an entry does when it is performed, forwarding, and
the loads that look at it; the performance counters' events. -/

namespace Sys2Proof.Machine

/-! ### What an instruction runs with (R45, R46) -/

/-- A core at one instruction: its number, its level, and the values of the CSYNC registers that the instruction uses. -/
structure Ctx where
  core : Nat
  lvl : Nat
  regs : SyncRegs
  deriving DecidableEq, Repr

/-- The CSYNC registers as one instruction uses them: for each, wholly the value in effect or wholly the one written since
(R45; log 2). Deterministic mode changes at a synchronising point only (R152). -/
def Core.pickSync (k : Core) (n : Nat) : SyncRegs :=
  if k.sync = k.eff then k.eff else
  let f := fun (r : Nat) (old new : Word) => if Config.csyncNew n r then new else old
  { evbK := f 0x33 k.eff.evbK k.sync.evbK, evbHW := f 0x3B k.eff.evbHW k.sync.evbHW, ttag := f 0x4A k.eff.ttag k.sync.ttag,
    asid := f 0x50 k.eff.asid k.sync.asid, ptbS1 := f 0x51 k.eff.ptbS1 k.sync.ptbS1, tctlS1 := f 0x52 k.eff.tctlS1 k.sync.tctlS1,
    vmid := f 0x54 k.eff.vmid k.sync.vmid, ptbS2 := f 0x55 k.eff.ptbS2 k.sync.ptbS2, tctlS2 := f 0x56 k.eff.tctlS2 k.sync.tctlS2,
    coreCtl := k.eff.coreCtl, fmask := f 0xF8 k.eff.fmask k.sync.fmask }

/-- The context of a core's next instruction. -/
def State.ctx (s : State) (core : Nat) : Ctx := ⟨core, (s.core core).lvl.toNat, (s.core core).pickSync s.free⟩

/-- Whether deterministic mode is in effect (R152). -/
def Ctx.dtm (c : Ctx) : Bool := bitN c.regs.coreCtl 0

/-- A context whose memory traffic is charged to a tag: an entry that drains is its own instruction's traffic (R46). -/
def Ctx.charging (c : Ctx) (tag : BitVec 16) : Ctx := { c with regs := { c.regs with ttag := tag.setWidth 64 } }

/-- The key that memory traffic of a core's instruction is charged to (R46, R258). -/
def State.useKey (s : State) (c : Ctx) : Option (Nat × Nat) :=
  match (s.core c.core).task with
  | none => none
  | some _ => some (s.cid (c.core / 16), fieldN c.regs.ttag 0 16)

/-- A core's request to memory, with its SOURCE code (R269). -/
def State.coreReq (s : State) (c : Ctx) (src : Nat) : Req :=
  { cid := s.cid (c.core / 16), die := c.core / 16 / 12, key := s.useKey c, core := some c.core, src := src, dtm := c.dtm }

/-- A core as a requester of the atlas, at the level at which an access was made. -/
def State.whoAt (s : State) (core lvl : Nat) : Who := { s.whoCore core with lvl := lvl }

/-! ### Performance counters (R156 to R158) -/

/-- The largest value of a counter. -/
def pmcTop : Nat := 2 ^ 48 - 1

/-- Whether counter `i` counts at a level (PMSEL, PMCTL.FREEZE). -/
def Perf.counts (p : Perf) (i lvl : Nat) : Bool :=
  !bitN p.pmctl 9 && bitN (p.pmsel.getD i 0#64) (8 + min lvl 2)

/-- Counter `i` raised by `n`: at its largest value it stays, its PMOVF bit is set, and an overflow interrupt is owed where
PMSEL asks for one (R156). -/
def Perf.add (p : Perf) (i n : Nat) : Perf :=
  let old := (p.pmc.getD i 0#64).toNat
  let v := stick pmcTop (old + n)
  let p := { p with pmc := listSet p.pmc i (BitVec.ofNat 64 v) }
  if v = pmcTop ∧ old ≠ pmcTop then
    { p with pmovf := p.pmovf ||| BitVec.ofNat 64 (2 ^ i),
             irq := if bitN (p.pmsel.getD i 0#64) 11 then p.irq ||| BitVec.ofNat 8 (2 ^ i) else p.irq }
  else p

/-- Whether PMCTL reserves counter `i` for HW at this level. -/
def Perf.reserved (p : Perf) (lvl i : Nat) : Bool := decide (lvl < 2) && bitN p.pmctl i

/-- The bits of PMOVF that a level sees. -/
def Perf.ovfMask (p : Perf) (lvl : Nat) : Word := if lvl < 2 then ~~~p.pmctl &&& 0xFF#64 else 0xFF#64

/-- A write of PMSEL_n (R157): an event code from 0x80 and the HW bit only at HW. -/
def pmselWord (lvl : Nat) (old v : Word) : Word :=
  let ev := if lvl < 2 ∧ 0x80 ≤ fieldN v 0 8 then fieldN old 0 8 else fieldN v 0 8
  let hw := if lvl < 2 then bitN old 10 else bitN v 10
  BitVec.ofNat 64 (ev + b2n (bitN v 8) * 2 ^ 8 + b2n (bitN v 9) * 2 ^ 9 + b2n hw * 2 ^ 10 + b2n (bitN v 11) * 2 ^ 11)

/-- A performance counter register written at a level (R156 to R158). A write of the largest value to PMC_n sets no PMOVF bit and owes
no interrupt: the counter has not counted up to it. DESIGN CHOICE, log 154. -/
def Perf.put (p : Perf) (lvl n : Nat) (v : Word) : Perf :=
  if n ≤ 0x107 then
    (if p.reserved lvl (n - 0x100) then p else { p with pmc := listSet p.pmc (n - 0x100) (v &&& 0xFFFFFFFFFFFF#64) })
  else if n ≤ 0x10F then
    let i := n - 0x108
    if p.reserved lvl i then p else { p with pmsel := listSet p.pmsel i (pmselWord lvl (p.pmsel.getD i 0#64) v) }
  else if n = 0x110 then { p with pmovf := p.pmovf &&& ~~~(v &&& p.ovfMask lvl) }
  else if n = 0x111 then { p with pmctl := v &&& 0x3FF#64 }
  else { p with pmdtm := p.pmdtm &&& ~~~(v &&& 1#64) }

/-- Whether an event code stands for cycles, folded pairs or speculation, whose numbers of occurrences are open (log 50). -/
def timedEvent (e : Nat) : Bool :=
  decide (e = 0x01) || decide (e = 0x03) || decide (e = 0x04) || decide (e = 0x0A) || decide (e = 0x0F) || (decide (0x80 ≤ e) && decide (e ≤ 0x83))

/-- The counters that count open events in the span counted `m`: cycles and folded pairs for an instruction, the speculative events for a
wrong path; event 0x0F counts in deterministic mode only (R157). -/
def Perf.timed (p : Perf) (spec dtm : Bool) (lvl m : Nat) : Perf :=
  foldN (fun i (p : Perf) =>
    let ev := fieldN (p.pmsel.getD i 0#64) 0 8
    if timedEvent ev ∧ decide (0x80 ≤ ev) = spec ∧ (ev ≠ 0x0F ∨ dtm = true) ∧ p.counts i lvl then p.add i (Config.eventCount m ev) else p) (natsFrom 0 8) p

/-- `n` occurrences of an event counted at a level. -/
def Perf.event (p : Perf) (ev lvl n : Nat) : Perf :=
  foldN (fun i (p : Perf) => if fieldN (p.pmsel.getD i 0#64) 0 8 = ev ∧ p.counts i lvl then p.add i n else p) (natsFrom 0 8) p

/-- `n` occurrences of an event counted on a core. -/
def State.count (s : State) (core ev n : Nat) : State :=
  if n = 0 then s else s.modCore core (fun k => { k with perf := k.perf.event ev k.lvl.toNat n })

/-! ### Performing an entry (R183, R185, R199, R215 to R218) -/

/-- What makes every deterministic-mode access of a core late (R153): its compartment has no reserved deterministic slot, or a throttle,
a declared event of R11, slows the way. -/
def State.dtmSlow (s : State) (core : Nat) : Bool :=
  s.isF (Reg.CMP_DTM (s.cid (core / 16))) Fld.CMP_DTM_EN = false || decide (s.getF Reg.IDX_THERM Fld.IDX_THERM_LEVEL ≠ 0)

/-- PMDTM.LATE set for a late deterministic-mode access (R153). -/
def State.noteLate (s : State) (core : Nat) (late : Bool) : State :=
  if late || s.dtmSlow core then (s.modCore core (fun k => { k with perf := { k.perf with pmdtm := k.perf.pmdtm ||| 1#64 } })).count core 0x10 1 else s

/-- An error of a drained entry kept for its report (R122). -/
def State.defer (s : State) (core cause : Nat) (e : SbEntry) : State :=
  s.modCore core (fun k => { k with deferred := k.deferred ++ [⟨cause, e.va, decide (e.kind = .store), e.ipa⟩] })

/-- The report that a failed memory access of a drained entry leaves. -/
def State.deferErr (s : State) (core : Nat) (e : SbEntry) (x : Option MErr) : State :=
  match x with
  | none => s
  | some .color => s.defer core 0x1E e
  | some .resp => (s.defer core 0x20 e).errSummary core

/-- The port whose window holds an address (R356). -/
def pciePort (pa : Nat) : Option Nat :=
  if 0x8000000000000 ≤ pa ∧ pa < 0x8400000000000 then some ((pa - 0x8000000000000) / 0x100000000000) else none

/-- Whether an address lies in the atlas (R162). -/
def inAtlas (pa : Nat) : Bool := decide (0xFF00000000000 ≤ pa) && decide (pa < 0xFF00010000000)

/-- The die of an island (R1, R412): 0 to 7 compute, 8 and 9 I/O, 10 ledger; a page that every cluster serves has none. -/
def islandDie (i : Nat) : Option Nat :=
  if i < 96 then some (i / 12) else if i < 104 then some (i - 96) else if i < 120 then some ((i - 104) / 2)
  else if i < 124 then some (8 + (i - 120) / 2) else if i < 130 then some (8 + (i - 124) / 3) else if i < 132 then some (8 + (i - 130))
  else if i < 136 then some 10 else none

/-- The wheels on the way of a core's device access (R274). -/
def deviceWheels (r : Req) (pa : Nat) : List Nat :=
  match pciePort pa with
  | some p => pathWheels r.die (8 + p / 2) ++ [wheelHub (p / 2)]
  | none =>
    match islandDie (pageIsland ((pa - 0xFF00000000000) / 4096)) with
    | some d => pathWheels r.die d
    | none => []

/-- Whether a core's device access meets a slot on every wheel of its way; the wheel without one logs it (R275). -/
def State.deviceWay (s : State) (r : Req) (pa : Nat) : State × Bool :=
  match s.firstNoSlot (deviceWheels r pa) r.cid r.dtm with
  | some w => (s.logNoSlot w pa, false)
  | none => (s, true)

/-- The target of a device-posted access (R523): a port, or a 4 KiB page. -/
def postTarget (pa : Nat) : Nat := match pciePort pa with | some p => p | none => 4 + pa / 4096

/-- The bytes of an entry in its line, and their mask. -/
def SbEntry.bits (e : SbEntry) : BitVec 512 × BitVec 64 :=
  (BitVec.ofNat 512 ((e.data.toNat % 2 ^ (8 * e.size)) <<< (8 * (e.pa % 64))), maskBytes (e.pa % 64) e.size)

/-- A store performed where its address leads (R183, R191, R356): a write to a device behind a port changes nothing in
the block, and is an Unsupported Request where the port has no link. -/
def State.performStore (s : State) (c : Ctx) (e : SbEntry) : State :=
  let core := c.core
  let (d, m) := e.bits
  let r := s.coreReq c 1
  match s.fixedType e.pa with
  | none => s.deferErr core e (some .resp)
  | some .devStrict =>
    let (s, way) := s.deviceWay r e.pa
    if way = false then s.deferErr core e (some .resp) else
    let (s, ok) := s.atlasWrite (s.whoAt core e.lvl.toNat) e.pa e.size (BitVec.ofNat 64 (e.data.toNat % 2 ^ (8 * e.size)))
    if ok then s else s.deferErr core e (some .resp)
  | some .devPosted =>
    match pciePort e.pa with
    | none => s
    | some p =>
      let (s, way) := s.deviceWay r e.pa
      if way = false then s.deferErr core e (some .resp) else if s.portUp p then s else s.unsupported p
  | some _ =>
    if e.mt = .wb then
      if c.dtm then
        let (s, x, late) := s.sliceWrite r (e.pa / 64) d m
        (s.deferErr core e x).noteLate core late
      else
        let (s, x) := s.cohWrite r core (e.pa / 64) d m
        s.deferErr core e x
    else
      let (s, x) := s.ncWrite r (e.pa / 64) d m
      s.deferErr core e x

/-- A line operation performed on one line (R215, R217, R218); its report names the lowest address of the operation in the line. -/
def State.performLine (s : State) (c : Ctx) (e : SbEntry) (x : MaintLine) : State :=
  if x.act = false then s else
  let r := s.coreReq c 3
  let l := x.line
  let e := { e with va := x.va, ipa := x.ipa }
  match s.toSlice r (l * 64) with
  | (s, some x) => s.deferErr c.core e (some x)
  | (s, none) =>
    match e.kind with
    | .store => s
    | .clean => s.lineClean r.key l
    | .flush => s.lineFlush r.key l
    | .inv => if s.orderB ∧ s.colorOwner (colorOf (l * 64)) = some 0 ∧ e.lvl ≠ 3#2 then s.lineFlush r.key l else s.lineInv l
    | .iclean => s.lineIclean r.cid l

/-- An error in the store buffer's parity found on an access of the core's compartment (R457, R460, R467). -/
def State.sbParity (s : State) (core : Nat) : State × Bool :=
  let page := pageL2C (core / 16)
  if s.getF (Reg.ERR_INJECT page) Fld.ERR_INJECT_TYPE = 3 then
    let (i, s) := s.takeInject page (s.cid (core / 16))
    (s, i.isSome)
  else (s, false)

/-- The head entry that fails its parity check: discarded, logged with KIND 4, reported as deferred (R460). -/
def State.dropParity (s : State) (core : Nat) (e : SbEntry) : State :=
  let n := core / 16
  let way := (Config.errWay s.free).toNat
  let s := s.tick
  let info := 3 + 4 + way * 8
  ((s.logCluster n 4 2 (BitVec.ofNat 64 e.firstPA) (BitVec.ofNat 64 info) (s.cid n) (core % 16) true).defer core 0x20 e).errSummary core

/-- An entry that has left the head performed. -/
def State.perform (s : State) (c : Ctx) (e : SbEntry) : State :=
  match e.kind with
  | .store =>
    let (s, bad) := if e.parityBad then (s, true) else s.sbParity c.core
    if bad then s.dropParity c.core e else s.performStore c e
  | _ => e.lines.foldl (fun s x => s.performLine c e x) s

/-! ### Draining (R185, R192, R194) -/

/-- Whether an entry is a device-posted store with a target. -/
def State.postedStore (s : State) (e : SbEntry) : Bool :=
  decide (e.kind = .store) && decide (e.mt = .devPosted) && (s.fixedType e.pa).isSome

/-- Device-posted stores that have left the buffer performed at their targets, in order: those that `p` names (R192). -/
def State.acceptIf (s : State) (c : Ctx) (p : SbEntry → Bool) : State :=
  let l := (s.core c.core).posted
  let s := s.modCore c.core (fun k => { k with posted := k.posted.filter (fun e => !p e) })
  (l.filter p).foldl (fun s e => s.performStore (c.charging e.tag) e) s

/-- Every device-posted store accepted by its target. -/
def State.acceptAll (s : State) (c : Ctx) : State := s.acceptIf c (fun _ => true)

/-- The head entry performed and gone. Before an entry that an SBAR precedes, and before a device-strict store, every device-posted
store is accepted (R191, R194). A device-posted store leaves the buffer when the hub takes it, and its target performs it later
(R192). -/
def State.drainHead (s : State) (c : Ctx) : State :=
  match (s.core c.core).sb with
  | [] => s
  | e :: t =>
    let c := c.charging e.tag
    let s := if e.bar || (decide (e.kind = .store) && decide (e.mt = .devStrict)) then s.acceptAll c else s
    let s := s.modCore c.core (fun k => { k with sb := t })
    if s.postedStore e then
      let (s, bad) := if e.parityBad then (s, true) else s.sbParity c.core
      if bad then s.dropParity c.core e else s.modCore c.core (fun k => { k with posted := k.posted ++ [e] })
    else s.perform c e

/-- The first `n` entries drained. -/
def State.drainN (c : Ctx) : Nat → State → State
  | 0, s => s
  | n + 1, s => State.drainN c n (s.drainHead c)

/-- The whole buffer drained, without waiting for acceptances (R196, R201). -/
def State.drainAll (s : State) (c : Ctx) : State := State.drainN c (s.core c.core).sb.length s

/-- Every earlier load performed: its line has returned (R194). -/
def State.loadsDone (s : State) (core : Nat) : State :=
  if (s.core core).misses.any (fun m => m.demand) then s.modCore core (fun k => { k with misses := k.misses.filter (fun m => !m.demand) }) else s

/-- The buffer empty, every device-posted store accepted and every earlier load performed: what MBAR and an atomic wait for (R194,
R195). -/
def State.fullBarrier (s : State) (c : Ctx) : State := ((s.drainAll c).acceptAll c).loadsDone c.core

/-- A later access behind a device-strict store waits as behind MBAR (R191). -/
def State.strictFirst (s : State) (c : Ctx) : State :=
  if (s.core c.core).sb.any (fun e => decide (e.kind = .store) && decide (e.mt = .devStrict)) then s.fullBarrier c else s

/-- Entries of the store buffer. -/
def sbSize : Nat := 16

/-- An entry committed: a full buffer first frees its head (R184). In deterministic mode the entry is performed at once
(R152). -/
def State.commit1 (s : State) (c : Ctx) (e : SbEntry) : State :=
  let s := if sbSize ≤ (s.core c.core).sb.length then s.drainHead c else s
  let s := s.modCore c.core (fun k =>
    { k with sb := k.sb ++ [{ e with bar := k.sbar, tag := c.regs.ttag.setWidth 16 }], sbar := false })
  if c.dtm then s.fullBarrier c else s

/-! ### Loads against the buffer (R186, R187, R190) -/

/-- Whether two ranges of bytes overlap. -/
def overlaps (a n b m : Nat) : Bool := decide (a < b + m) && decide (b < a + n)

/-- Whether an entry overlaps the bytes of a load. -/
def SbEntry.overlaps (e : SbEntry) (pa size : Nat) : Bool :=
  match e.kind with
  | .store => Machine.overlaps e.pa e.size pa size
  | _ => e.lines.any (fun x => Machine.overlaps (x.line * 64) 64 pa size)

/-- The number of entries up to and including the youngest that satisfies `p`; 0 for none. -/
def youngest (p : SbEntry → Bool) (l : List SbEntry) : Nat :=
  (l.zip (natsFrom 1 l.length)).foldl (fun n e => if p e.1 then e.2 else n) 0

/-- What the buffer does for a load of normal memory: nothing, the bytes themselves, or a wait for a prefix of it. -/
inductive SbLook where
  | none
  | data (v : Nat)
  | wait (n : Nat)
  deriving DecidableEq, Repr

/-- The outcome of R186 for the bytes of a load within one line. -/
def Core.look (k : Core) (pa size : Nat) : SbLook :=
  let n := youngest (fun e => e.overlaps pa size) k.sb
  if n = 0 then .none else
  match k.sb[n - 1]? with
  | none => .none
  | some e =>
    if e.kind = .store ∧ e.mt.device = false ∧ e.parityBad = false ∧ e.pa ≤ pa ∧ pa + size ≤ e.pa + e.size then
      .data (e.data.toNat / 2 ^ (8 * (pa - e.pa)) % 2 ^ (8 * size))
    else .wait n

/-- How a load ends without data: a color refusal, an error response, or poison. -/
inductive LdErr where
  | color | resp | poison
  deriving DecidableEq, Repr

def ldErr (e : MErr) : LdErr := match e with | .color => .color | .resp => .resp

/-- Bytes of a line. -/
def lineBytes (d : BitVec 512) (pa size : Nat) : Nat := d.toNat / 2 ^ (8 * (pa % 64)) % 2 ^ (8 * size)

/-- Bytes of normal memory within one line read from the caches or memory. -/
def State.readSeg (s : State) (c : Ctx) (src : Nat) (fetch : Bool) (mt : MemType) (pa size : Nat) : State × Except LdErr Nat :=
  let r := s.coreReq c src
  let l := pa / 64
  if mt = .wb then
    if c.dtm then
      match s.sliceRead r l with
      | (s, .error e) => (s, .error (ldErr e))
      | (s, .ok (d, p, late)) => (s.noteLate c.core late, if p then .error .poison else .ok (lineBytes d pa size))
    else
      match s.cohRead r c.core fetch l with
      | (s, .error e) => (s, .error (ldErr e))
      | (s, .ok (d, p)) => (s, if p then .error .poison else .ok (lineBytes d pa size))
  else
    match s.ncRead r l with
    | (s, .error e) => (s, .error (ldErr e))
    | (s, .ok (d, p)) => (s, if p then .error .poison else .ok (lineBytes d pa size))

/-- Bytes of normal memory within one line as a load of the core returns them (R186). An entry found with a parity error
gives no data: the load waits for it (R460). -/
def State.loadSeg (s : State) (c : Ctx) (src : Nat) (mt : MemType) (pa size : Nat) : State × Except LdErr Nat :=
  match (s.core c.core).look pa size with
  | .none => s.readSeg c src false mt pa size
  | .data v =>
    let (s, bad) := s.sbParity c.core
    if bad then
      let n := youngest (fun e => e.overlaps pa size) (s.core c.core).sb
      let s := s.modCore c.core (fun k => { k with sb := match k.sb[n - 1]? with
        | some e => listSet k.sb (n - 1) { e with parityBad := true }
        | none => k.sb })
      (State.drainN c n s).readSeg c src false mt pa size
    else (s, .ok v)
  | .wait n => (State.drainN c n s).readSeg c src false mt pa size

/-- The segments of an access, one for each line: address and size. -/
def segments (pa size : Nat) : List (Nat × Nat) :=
  let n := 64 - pa % 64
  if size ≤ n then [(pa, size)] else [(pa, n), (pa + n, size - n)]

/-- The answer of a load to a device (R356, R357): data, or an error response. `ans` is what a device behind a port
answers; without one, the answer is the open value of log 4. -/
def State.loadDevice (s : State) (c : Ctx) (mt : MemType) (pa size : Nat) (ans : Option Word) : State × Except LdErr Nat :=
  -- older stores to the same target first; a device-strict load waits for everything (R190, R191)
  let s := if mt = .devStrict ∨ s.fixedType pa = some .devStrict then s.fullBarrier c
    else
      let mine := fun (e : SbEntry) => decide (postTarget e.pa = postTarget pa)
      let s := State.drainN c (youngest (fun e => if e.kind = .store then e.mt.device && mine e else e.overlaps pa size) (s.core c.core).sb) s
      (s.acceptIf c mine).loadsDone c.core
  match s.fixedType pa with
  | none => (s, .error .resp)
  | some .devStrict =>
    let (s, way) := s.deviceWay (s.coreReq c 0) pa
    if way = false then (s, .error .resp) else
    match s.atlasRead (s.whoAt c.core c.lvl) pa size with
    | (s, none) => (s, .error .resp)
    | (s, some v) => (s, .ok (v.toNat % 2 ^ (8 * size)))
  | some .devPosted =>
    match pciePort pa with
    | none => (s, .error .resp)
    | some p =>
      let (s, way) := s.deviceWay (s.coreReq c 0) pa
      if way = false then (s, .error .resp) else
      if s.portUp p then
        match ans with
        | some v => (s, .ok (v.toNat % 2 ^ (8 * size)))
        | none => (s.tick, .ok ((Config.deviceRead s.free pa).toNat % 2 ^ (8 * size)))
      else
        let s := s.unsupported p
        if s.isF (Reg.PCIE_CFG p) Fld.PCIE_CFG_RDERR then (s, .error .resp) else (s, .ok (2 ^ (8 * size) - 1))
  | some _ =>
    let s := State.drainN c (youngest (fun e => e.overlaps pa size) (s.core c.core).sb) s
    s.readSeg c 0 false .nc pa size

end Sys2Proof.Machine
end

