-- ==== Sys2Proof/Machine/Translate.lean ====
section
/-! DEFINITION. Translation of a core's address (chapter 7): which stages apply, the TLBs of the cluster and their tags, the
checks in the order of R169, and the faults with their syndrome. -/

namespace Sys2Proof.Machine

/-! ### Which translation applies (R159, R161) -/

def Ctx.en1 (c : Ctx) : Bool := decide (c.lvl < 2) && bitN c.regs.tctlS1 0
def Ctx.en2 (c : Ctx) : Bool := decide (c.lvl < 2) && bitN c.regs.tctlS2 0
def Ctx.kua (c : Ctx) : Bool := bitN c.regs.tctlS1 1
def Ctx.vmid (c : Ctx) : Nat := fieldN c.regs.vmid 0 16
def Ctx.asid (c : Ctx) : Nat := fieldN c.regs.asid 0 16
def Ctx.root1 (c : Ctx) : Nat := fieldN c.regs.ptbS1 12 40 * 2 ^ 12
def Ctx.root2 (c : Ctx) : Nat := fieldN c.regs.ptbS2 7 45 * 2 ^ 7

/-- Whether an address is canonical (R159). -/
def canonical (va : Nat) : Bool := decide (va < 2 ^ 56) || decide (2 ^ 64 - 2 ^ 56 ≤ va)

/-- Whether an access writes, for the D check and FSYN.WNR (R169). -/
def accWrites : AccKind → Bool
  | .store | .atomic => true
  | _ => false

/-- The permissions that a stage-1 leaf must give (R169). -/
def Ctx.perm1 (c : Ctx) (k : AccKind) (e : Word) : Bool :=
  let u := if c.lvl = 0 then eU e else (!eU e || c.kua)
  match k with
  | .fetch => eX e && decide (eU e = decide (c.lvl = 0))
  | .load | .prefetch => eR e && u
  | .store => eW e && u
  | .atomic => eR e && eW e && u
  | .iclean => (eR e || eX e) && u

/-- The permissions that a stage-2 leaf must give (R169). -/
def perm2 (k : AccKind) (e : Word) : Bool :=
  match k with
  | .fetch => eX e
  | .load | .prefetch => eR e
  | .store => eW e
  | .atomic => eR e && eW e
  | .iclean => eR e || eX e

/-! ### Faults and their syndrome (R111, R175, R177) -/

/-- A fault of an access at an address. -/
def accFault (k : AccKind) (cause typ lvl : Nat) (va : Nat) : FaultInfo :=
  { cause := cause, lvl := lvl, wnr := accWrites k, fetch := decide (k = .fetch), atom := decide (k = .atomic), typ := typ,
    addr := BitVec.ofNat 64 va }

/-- The cause of a failure found at a stage. -/
def WKind.cause (k : WKind) (stg2 : Bool) : Nat :=
  let b := if stg2 then 0x18 else 0x10
  match k with
  | .trans _ => b
  | .perm => b + 1
  | .aClear => b + 2
  | .dClear => b + 3
  | .device => 0x1C
  | .data => 0x1D
  | .color => 0x1E

/-- The fault of a failed walk or check. FIPA holds the IPA of the stage-1 entry being read, or of the access. -/
def walkFault (k : AccKind) (va : Nat) (w : WErr) : FaultInfo :=
  { accFault k (w.kind.cause w.stg2) w.kind.typ w.lvl va with
    stg := w.stg2, s1ptw := w.s1ptw, ipav := w.stg2, ipa := w.ipa, hw := w.stg2 }

/-! ### The TLBs (R178) -/

/-- Sizes of an ITLB, a DTLB and the cluster TLB. -/
def tlbCap : TlbLoc → Nat
  | .cluster => 2048
  | .itlb _ => 32
  | .dtlb _ => 48

/-- An entry put into its TLB, in place of an equal one; a full TLB loses its oldest entry. -/
def tlbPut (l : List TlbEntry) (e : TlbEntry) : List TlbEntry :=
  let l := l.filter (fun x => decide (x ≠ e))
  let own := l.filter (fun x => decide (x.loc = e.loc))
  let l := if own.length < tlbCap e.loc then l else match own.getLast? with | some x => l.erase x | none => l
  e :: l

/-- An entry put into a cluster's TLBs. -/
def State.tlbFill (s : State) (n : Nat) (e : TlbEntry) : State := s.modCluster n (fun k => { k with tlb := tlbPut k.tlb e })

/-- Whether an entry was made under the VMID and with the same stages on. -/
def TlbEntry.mine (e : TlbEntry) (c : Ctx) : Bool :=
  decide (e.vmid = c.vmid) && decide (e.s2.isSome = c.en2)

/-- Whether a combined entry gives the translation of an address (R178). -/
def TlbEntry.hits (e : TlbEntry) (c : Ctx) (va : Nat) : Bool :=
  decide (e.kind = .combined) && e.mine c && decide (e.s1.isSome = c.en1) && (e.glob || decide (e.asid = c.asid)) &&
    decide (e.inp = va / 2 ^ e.size * 2 ^ e.size) && decide (e.out + va % 2 ^ e.size < 2 ^ 52)

/-- The TLBs that a core looks up, the nearest first. -/
def tlbLocs (core : Nat) (fetch : Bool) : List TlbLoc := [if fetch then .itlb (core % 16) else .dtlb (core % 16), .cluster]

/-- A parity error armed for the TLBs of a cluster, at the page of its microsequencer, met by an access of the cluster's compartment: the
entry is discarded and the cluster's log gets KIND 3 (R178, R467; log 155). -/
def State.tlbParity (s : State) (core : Nat) (e : TlbEntry) (va : Nat) : State × Bool :=
  let n := core / 16
  let page := 0x1C0 + n
  if s.getF (Reg.ERR_INJECT page) Fld.ERR_INJECT_TYPE ≠ 3 then (s, false) else
  match s.takeInject page (s.cid n) with
  | (none, s) => (s, false)
  | (some _, s) =>
    let code := match e.loc with | .itlb _ => 0 | .dtlb _ => 1 | .cluster => 2
    let s := s.modCluster n (fun k => { k with tlb := k.tlb.filter (fun y => decide (y ≠ e)) })
    (s.logCluster n 3 0 (BitVec.ofNat 64 va) (BitVec.ofNat 64 code) (s.cid n) (core % 16) true, true)

/-- The entry that serves an access, unless it has been evicted (R178, log 3) or fails its parity check. -/
def State.tlbLook (s : State) (c : Ctx) (fetch : Bool) (va : Nat) : State × Option TlbEntry :=
  match (s.cluster (c.core / 16)).tlb.find? (fun e => (tlbLocs c.core fetch).contains e.loc && e.hits c va) with
  | none => (s, none)
  | some e =>
    match s.tlbParity c.core e va with
    | (s, true) => (s, none)
    | (s, false) => (s.tick, if Config.tlbUse s.free va then some e else none)

/-- A leaf as a TLB entry keeps it: its low bits, its level. -/
def keptLeaf (bits : Option Nat) (lvl out : Nat) : Option Leaf := bits.map (fun b => ⟨BitVec.ofNat 64 b, lvl, out⟩)

/-- A table entry that the cluster TLB holds. -/
def cachedEntry (c : Ctx) (s : State) (stage ea : Nat) : State × Option Word :=
  match (s.cluster (c.core / 16)).tlb.find? (fun e =>
    (match e.kind with | .table st _ => decide (st = stage) | _ => false) && e.mine c && decide (e.inp = ea)) with
  | none => (s, none)
  | some e => (s.tick, if Config.tlbUse s.free ea then some (BitVec.ofNat 64 e.out) else none)

/-- The stage-2 translation of a table page that the cluster TLB holds. -/
def cachedPage (c : Ctx) (s : State) (ipa : Nat) : State × Option Leaf :=
  match (s.cluster (c.core / 16)).tlb.find? (fun e =>
    decide (e.kind = .s2page) && e.mine c && decide (e.inp = ipa / 2 ^ e.size * 2 ^ e.size)) with
  | none => (s, none)
  | some e => (s.tick, if Config.tlbUse s.free ipa then keptLeaf e.s2 e.s2Lvl (e.out + ipa % 2 ^ e.size) else none)

/-- A table entry read in the order of the core's own loads (R172). -/
def coreWalkRead (c : Ctx) (s : State) (pa : Nat) (mt : MemType) : State × Except RdFail Word :=
  let through : State × Except LdErr Nat :=
    match (s.core c.core).look pa 8 with
    | .data _ => s.loadSeg c 2 mt pa 8
    | .wait _ => s.loadSeg c 2 mt pa 8
    | .none =>
      -- the microsequencer reads coherently and allocates nothing (R212)
      if mt = .wb then
        match s.agentRead64 (s.coreReq c 2) pa with
        | (s, .error e) => (s, .error (ldErr e))
        | (s, .ok (v, p)) => (s, if p then .error .poison else .ok v.toNat)
      else s.readSeg c 2 false .nc pa 8
  match through with
  | (s, .error .color) => (s, .error .color)
  | (s, .error .resp) => (s, .error .resp)
  | (s, .error .poison) => (s, .error .poison)
  | (s, .ok v) => (s, .ok (BitVec.ofNat 64 v))

/-- The environment of a core's walks. -/
def Ctx.walker (c : Ctx) : Walker :=
  { cached := cachedEntry c, page := cachedPage c, read := coreWalkRead c, s2 := c.en2, root1 := c.root1, root2 := c.root2 }

/-! ### One translation -/

/-- The result of a translation: the PA, the type of the access (none: a PA of no type), the IPA, the log2 of its page's size, and
whether a leaf gives a device type. -/
structure Xlat where
  pa : Nat
  mt : Option MemType
  ipa : Nat
  sz : Nat := 64
  dev : Bool := false
  deriving DecidableEq, Repr

/-- The two leaves that a translation goes through, where the stages are on, with the IPA and the PA. -/
structure Path where
  l1 : Option Leaf
  ipa : Nat
  l2 : Option Leaf
  pa : Nat
  seen : List Seen
  hit : Option TlbEntry

/-- The device type of an access, checked with the permissions of the last enabled stage (R95, R169, R214): the fault where
an atomic or a fetch meets it. A fetch refused by the fixed map alone is refused later. -/
def deviceFault (c : Ctx) (k : AccKind) (va : Nat) (p : Path) (fixed : Option MemType) : Option FaultInfo :=
  let d1 : Bool := match p.l1 with | some l => (eMT l.e).device | none => false
  let d2 : Bool := match p.l2 with | some l => (eMT l.e).device | none => false
  let df : Bool := match fixed with | some m => m.device | none => false
  let lv := if d1 then (match p.l1 with | some l => l.lvl | none => 0) else if d2 then (match p.l2 with | some l => l.lvl | none => 0) else 0
  let two := c.en2 && !d1
  let f : FaultInfo := { accFault k (if two then 0x19 else 0x11) 4 lv va with stg := two, hw := two, ipav := two, ipa := p.ipa }
  match k with
  | .atomic => if d1 ∨ d2 ∨ df then some f else none
  | .fetch => if d1 ∨ d2 then some f else none
  | _ => none

/-- The first that is something. -/
def firstOf {α : Type} : List (Option α) → Option α
  | [] => none
  | some a :: _ => some a
  | none :: t => firstOf t

/-- The checks of a path's leaves (R169): stage 1 whole, then stage 2; the device type, whichever stage gives it, with the last enabled
stage's permission check. R169's closing sentence would put a stage-1 device type before the A and D of stage 1 also where stage 2 is on;
its list puts it after them, which is what is done here, on a walk and on a TLB hit alike. DESIGN CHOICE, log 153. -/
def pathFault (c : Ctx) (k : AccKind) (va : Nat) (p : Path) (fixed : Option MemType) : Option FaultInfo :=
  let dev := deviceFault c k va p fixed
  let at1 := fun (b : Bool) (w : WKind) (l : Leaf) => if b then some (walkFault k va ⟨w, false, false, l.lvl, 0⟩) else none
  let at2 := fun (b : Bool) (w : WKind) (l : Leaf) => if b then some (walkFault k va ⟨w, true, false, l.lvl, p.ipa⟩) else none
  let one : List (Option FaultInfo) := match p.l1 with
    | none => []
    | some l => [at1 (!c.perm1 k l.e) .perm l, if c.en2 then none else dev, at1 (!eA l.e) .aClear l,
                 at1 (accWrites k && !eD l.e) .dClear l]
  let two : List (Option FaultInfo) := match p.l2 with
    | none => []
    | some l => [at2 (!perm2 k l.e) .perm l, dev, at2 (!eA l.e) .aClear l, at2 (accWrites k && !eD l.e) .dClear l]
  firstOf (one ++ two ++ [dev])

/-- The checks that stage 1 must pass before stage 2 of the final IPA is begun (R169): its device type is not among them, for it is
checked with the permissions of stage 2 (log 153). -/
def stage1Fault (c : Ctx) (k : AccKind) (va : Nat) (l : Leaf) : Option FaultInfo :=
  let bad := fun (b : Bool) (w : WKind) => if b then some (walkFault k va ⟨w, false, false, l.lvl, 0⟩) else none
  firstOf [bad (!c.perm1 k l.e) .perm, bad (!eA l.e) .aClear, bad (accWrites k && !eD l.e) .dClear]

/-- The stage-2 walk of the final IPA, where the stage is on. -/
def State.finalStage (s : State) (c : Ctx) (k : AccKind) (va : Nat) (l1 : Option Leaf) (ipa : Nat) (seen : List Seen) :
    State × Except FaultInfo Path :=
  if c.en2 = false then (s, .ok ⟨l1, ipa, none, ipa, seen, none⟩) else
  match s.walk2 c.walker ipa 5 0 c.root2 seen with
  | (s, .error e) => (s, .error (walkFault k va e))
  | (s, .ok (l, seen)) => (s, .ok ⟨l1, ipa, some l, l.out, seen, none⟩)

/-- A whole walk (R173). -/
def State.walkPath (s : State) (c : Ctx) (k : AccKind) (va : Nat) : State × Except FaultInfo Path :=
  if c.en1 = false then s.finalStage c k va none va [] else
  match s.walk1 c.walker va 5 0 c.root1 [] with
  | (s, .error e) => (s, .error (walkFault k va e))
  | (s, .ok (l, seen)) =>
    match (if c.en2 then stage1Fault c k va l else none) with
    | some f => (s, .error f)
    | none => s.finalStage c k va (some l) l.out seen

/-- A TLB entry's path for an address. -/
def TlbEntry.path (e : TlbEntry) (va : Nat) : Path :=
  let o := va % 2 ^ e.size
  ⟨keptLeaf e.s1 e.s1Lvl (e.ipa + o), e.ipa + o, keptLeaf e.s2 e.s2Lvl (e.out + o), e.out + o, [], some e⟩

/-- The low bits of a leaf that a TLB keeps. -/
def leafBits (l : Option Leaf) : Option Nat := l.map (fun l => fieldN l.e 0 11)

/-- The log2 of a leaf's page size, a disabled stage bounding nothing. -/
def leafSize (l : Option Leaf) : Nat := match l with | some l => eSZ l.e | none => 64

/-- The log2 of the page that a path translates: the smaller of its stages' (R178). -/
def Path.size (p : Path) : Nat :=
  match p.hit with
  | some e => e.size
  | none => min (leafSize p.l1) (leafSize p.l2)

/-- Whether a leaf of a path gives a device type. -/
def Path.leafDevice (p : Path) : Bool :=
  (match p.l1 with | some l => (eMT l.e).device | none => false) || (match p.l2 with | some l => (eMT l.e).device | none => false)

/-- What a successful walk fills: the combined translation in the core's TLB and the cluster's, the stage-2 translations of
table pages, and the table entries (R178). -/
def State.fillPath (s : State) (c : Ctx) (fetch : Bool) (va : Nat) (p : Path) : State :=
  let n := c.core / 16
  let tag : Option Nat := if c.en2 then some 0 else none
  let glob := match p.l1 with | some l => eG l.e | none => true
  let sz := p.size
  let lv := fun (l : Option Leaf) => match l with | some l => l.lvl | none => 0
  let base := fun (x : Nat) => x / 2 ^ sz * 2 ^ sz
  let e : TlbEntry := ⟨.cluster, .combined, c.vmid, c.asid, glob, sz, base va, base p.pa, base p.ipa, leafBits p.l1, leafBits p.l2,
    lv p.l1, lv p.l2⟩
  let s := if sz < 64 then
      (tlbLocs c.core fetch).foldl (fun s loc => s.tlbFill n { e with loc := loc }) s
    else s
  p.seen.foldl (fun s x =>
    match x with
    | .entry st lvl ea v => s.tlbFill n ⟨.cluster, .table st lvl, c.vmid, c.asid, true, 3, ea, v.toNat, 0, none, tag, 0, 0⟩
    | .page ipa l =>
      let z := eSZ l.e
      s.tlbFill n ⟨.cluster, .s2page, c.vmid, c.asid, true, z, ipa / 2 ^ z * 2 ^ z, l.out / 2 ^ z * 2 ^ z, 0, none,
        some (fieldN l.e 0 11), 0, l.lvl⟩) s

/-- The type of an access: the strongest of the stages' and the fixed type (R168); none for a PA of no type. -/
def State.pathType (s : State) (p : Path) : Option MemType :=
  match s.fixedType p.pa with
  | none => none
  | some m =>
    let m := match p.l1 with | some l => m.strongest (eMT l.e) | none => m
    some (match p.l2 with | some l => m.strongest (eMT l.e) | none => m)

/-- A path checked, and its TLB entries filled where it came from a walk. -/
def State.endPath (s : State) (c : Ctx) (k : AccKind) (va : Nat) (p : Path) : State × Except FaultInfo Xlat :=
  match pathFault c k va p (s.fixedType p.pa) with
  | some f => (s, .error f)
  | none =>
    let s := if p.hit.isNone then s.fillPath c (decide (k = .fetch)) va p else s
    (s, .ok ⟨p.pa, s.pathType p, p.ipa, p.size, p.leafDevice⟩)

/-- A walk and its checks. -/
def State.walkAll (s : State) (c : Ctx) (k : AccKind) (va : Nat) : State × Except FaultInfo Xlat :=
  match s.walkPath c k va with
  | (s, .error f) => (s, .error f)
  | (s, .ok p) => s.endPath c k va p

/-- The translation of an address of a core's access (R159 to R176). A write that hits an entry with D = 0 discards it and
walks again (R171). -/
def State.translate (s : State) (c : Ctx) (k : AccKind) (va : Nat) : State × Except FaultInfo Xlat :=
  if 2 ≤ c.lvl then
    if 2 ^ 52 ≤ va then (s, .error { accFault k 0x10 3 0 va with hw := true })
    else s.endPath c k va ⟨none, va, none, va, [], none⟩
  else if canonical va = false then (s, .error (accFault k 0x10 3 0 va))
  else if c.en1 = false ∧ 2 ^ 52 ≤ va then (s, .error (accFault k 0x10 3 0 va))
  else if c.en1 = false ∧ c.en2 = false then s.endPath c k va ⟨none, va, none, va, [], none⟩
  else
    match s.tlbLook c (decide (k = .fetch)) va with
    | (s, none) => s.walkAll c k va
    | (s, some e) =>
      let p := e.path va
      let d := fun (l : Option Leaf) => match l with | some l => eD l.e | none => true
      if accWrites k ∧ (d p.l1 = false ∨ d p.l2 = false) then
        (s.modCluster (c.core / 16) (fun x => { x with tlb := x.tlb.filter (fun y => decide (¬ y.hits c va)) })).walkAll c k va
      else s.endPath c k va p

end Sys2Proof.Machine
end

