-- ==== Sys2Proof/Machine/LoadStore.lean ====
section
/-! DEFINITION. Accesses of a core to virtual addresses (chapters 4, 7, 8): loads, stores, atomics, fetches, maintenance by line
and range, and prefetches, with their checks in the order of R91 and R95. -/

namespace Sys2Proof.Machine

/-! ### The pages of an access -/

/-- A part of an access within 4 KiB, translated; `fva` and `fipa` are the lowest address of the access in the part's page, which may be
larger, and its IPA (R91). -/
structure Part where
  va : Nat
  size : Nat
  x : Xlat
  fva : Nat := va
  fipa : Nat := x.ipa
  deriving DecidableEq, Repr

/-- Whether a part lies in device memory: a leaf's device type counts where the PA has no type of its own. -/
def Part.device (p : Part) : Bool := p.x.dev || (match p.x.mt with | some m => m.device | none => false)

/-- The lines of a part in normal memory: address and size. -/
def Part.segs (p : Part) : List (Nat × Nat) :=
  match p.x.mt with
  | some m => if m.device then [] else segments p.x.pa p.size
  | none => []

/-- The parts of an access by page: address and size; addresses wrap at 64 bits. -/
def pageParts (va size : Nat) : List (Nat × Nat) :=
  let n := 4096 - va % 4096
  if size ≤ n then [(va, size)] else [(va, n), ((va + n) % 2 ^ 64, size - n)]

/-- A part behind another one of the same access: within one page the fault address is the first part's. -/
def Part.behind (p q : Part) : Part :=
  if p.x.sz = q.x.sz ∧ p.va / 2 ^ p.x.sz = q.va / 2 ^ q.x.sz then { q with fva := p.fva, fipa := p.fipa } else q

/-- Parts translated in order; the first fault ends it (R91 step 1). -/
def State.xlatParts (c : Ctx) (k : AccKind) : State → List (Nat × Nat) → State × Except FaultInfo (List Part)
  | s, [] => (s, .ok [])
  | s, (va, n) :: t =>
    match s.translate c k va with
    | (s, .error f) => (s, .error f)
    | (s, .ok x) =>
      match State.xlatParts c k s t with
      | (s, .error f) => (s, .error f)
      | (s, .ok l) => let p : Part := { va := va, size := n, x := x }; (s, .ok (p :: l.map p.behind))

/-- The misalignment of R91 step 2: the first part that lies in device memory. -/
def misaligned (k : AccKind) (va size : Nat) (l : List Part) : Option FaultInfo :=
  if va % size = 0 then none else
  if k = .atomic then some (accFault k 0x05 11 0 va) else
  (l.find? Part.device).map (fun p => accFault k 0x05 11 0 p.fva)

/-- Steps 1 and 2 of R91, behind any device-strict store (R191). -/
def State.checkAccess (s : State) (c : Ctx) (k : AccKind) (va size : Nat) : State × Except FaultInfo (List Part) :=
  match State.xlatParts c k (s.strictFirst c) (pageParts va size) with
  | (s, .error f) => (s, .error f)
  | (s, .ok l) =>
    match misaligned k va size l with
    | some f => (s, .error f)
    | none => (s, .ok l)

/-- The fault of a refusal by the memory system (R91 step 3): a color violation, or a data error. -/
def memFault (c : Ctx) (k : AccKind) (p : Part) (e : LdErr) : FaultInfo :=
  let low := decide (c.lvl < 2)
  match e with
  | .color => { accFault k 0x1E 9 0 p.fva with ipav := low, ipa := p.fipa, hw := true }
  | _ => { accFault k (if k = .fetch then 0x21 else 0x20) 10 0 p.fva with ipav := low, ipa := p.fipa }

/-- A data error tells the core's error summary (R462). -/
def State.told (s : State) (c : Ctx) (e : LdErr) : State := match e with | .color => s | _ => s.errSummary c.core

/-! ### Loads -/

/-- Lines of a part loaded, the lowest first. -/
def State.loadLines (c : Ctx) (mt : MemType) : State → List (Nat × Nat) → State × Except LdErr Nat
  | s, [] => (s, .ok 0)
  | s, (pa, n) :: t =>
    match s.loadSeg c 0 mt pa n with
    | (s, .error e) => (s, .error e)
    | (s, .ok v) =>
      match State.loadLines c mt s t with
      | (s, .error e) => (s, .error e)
      | (s, .ok w) => (s, .ok (v + w * 2 ^ (8 * n)))

/-- Parts loaded, the lowest first. -/
def State.loadParts (c : Ctx) (k : AccKind) (ans : Option Word) : State → List Part → State × Except FaultInfo Nat
  | s, [] => (s, .ok 0)
  | s, p :: t =>
    let (s, r) : State × Except LdErr Nat := match p.x.mt with
      | none => (s, .error .resp)
      | some m => if m.device then s.loadDevice c m p.x.pa p.size ans else State.loadLines c m s (segments p.x.pa p.size)
    match r with
    | .error e => (s.told c e, .error (memFault c k p e))
    | .ok v =>
      match State.loadParts c k ans s t with
      | (s, .error f) => (s, .error f)
      | (s, .ok w) => (s, .ok (v + w * 2 ^ (8 * p.size)))

/-- The entries that a load waits for (R186): it waits unless no entry overlaps it, or the youngest that does holds all its bytes, which
needs them to lie in one line. -/
def Core.loadWaits (k : Core) (l : List Part) : Nat :=
  match l.flatMap Part.segs with
  | [] => 0
  | [(pa, n)] => (match k.look pa n with | .wait m => m | _ => 0)
  | q => youngest (fun e => q.any (fun x => e.overlaps x.1 x.2)) k.sb

/-- The lines of normal write-back memory that an access of translated parts misses in L1D; a load forwarded from the buffer reads none. -/
def State.missedLines (s : State) (c : Ctx) (load : Bool) (l : List Part) : List Nat :=
  if c.dtm then [] else
  let q := (l.filter (fun p => decide (p.x.mt = some .wb))).flatMap Part.segs
  let q := if load then q.filter (fun x => match (s.core c.core).look x.1 x.2 with | .data _ => false | _ => true) else q
  (q.map (fun x => x.1 / 64)).filter (fun n => !s.inL1d c.core n)

/-- The stream prefetcher of a cluster follows a load's miss: an open number of the next lines, up to the depth of L2C_PF.CUR, is brought
into the L2; a line that cannot be brought is left (R228; log 159). -/
def State.streamFill (s : State) (r : Req) (n l : Nat) : State :=
  let depth := match s.getF (Reg.L2C_PF n) Fld.L2C_PF_CUR with | 0 => 0 | 1 => 1 | 2 => 4 | _ => 8
  if depth = 0 then s else
  let (v, s) := s.openWord
  foldN (fun i s => s.fillL2 r n (l + i)) (natsFrom 1 (v.toNat % (depth + 1))) s

/-- The oldest outstanding miss returns: a prefetched line is in L1D then, and a failed prefetch is dropped; a load has its data already.
In deterministic mode no cache is filled (R152). -/
def State.missReturn (s : State) (core : Nat) : State :=
  match (s.core core).misses with
  | [] => s
  | m :: t =>
    let s := s.modCore core (fun k => { k with misses := t })
    let c := s.ctx core
    let r := s.coreReq c 0
    if c.dtm then s
    else if m.demand then s.streamFill r (core / 16) (m.pa / 64)
    else if m.excl then
      match s.cohOwn r core (m.pa / 64) with
      | (s, .ok _) => s
      | (_, .error _) => s
    else
      match s.cohRead r core false (m.pa / 64) with
      | (s, .ok _) => s
      | (_, .error _) => s

/-- A load's miss: a ninth one waits for the oldest to return (R142). -/
def State.noteMiss (s : State) (core line : Nat) : State :=
  let s := if 8 ≤ (s.core core).misses.length then s.missReturn core else s
  s.modCore core (fun k => { k with misses := k.misses ++ [⟨line * 64, false, true⟩] })

/-- A load of `size` bytes at a virtual address (R90, R91): its value, whether it waited for stores, and whether it missed L1D. -/
def State.loadRaw (s : State) (c : Ctx) (va size : Nat) (ans : Option Word) : State × Except FaultInfo (Nat × Bool × Bool) :=
  match s.checkAccess c .load va size with
  | (s, .error f) => (s, .error f)
  | (s, .ok l) =>
    let n := (s.core c.core).loadWaits l
    let s := State.drainN c n s
    let missed := s.missedLines c true l
    match State.loadParts c .load ans s l with
    | (s, .error f) => (s, .error f)
    | (s, .ok v) => (missed.foldl (fun s x => s.noteMiss c.core x) s, .ok (v, decide (n ≠ 0), !missed.isEmpty))

/-- A load of an instruction (R90, R91): it counts events 0x06 and 0x11 once it has its data (R156, R157). -/
def State.loadVA (s : State) (c : Ctx) (va size : Nat) (ans : Option Word) : State × Except FaultInfo Nat :=
  match s.loadRaw c va size ans with
  | (s, .error f) => (s, .error f)
  | (s, .ok (v, waited, missed)) => ((s.count c.core 0x06 (b2n missed)).count c.core 0x11 (b2n waited), .ok v)

/-- The load of a fill (R33): events 0x06 and 0x11 count instructions' own loads, event 0x0C counts fills (log 50). -/
def State.fillVA (s : State) (c : Ctx) (va size : Nat) : State × Except FaultInfo Nat :=
  match s.loadRaw c va size none with
  | (s, .error f) => (s, .error f)
  | (s, .ok (v, _)) => (s, .ok v)

/-! ### Stores -/

/-- The entries that a store of translated parts commits, the lowest first: one for each line (R184). -/
def storeEntries (c : Ctx) (spill : Bool) : Nat → List Part → List SbEntry
  | _, [] => []
  | v, p :: t =>
    let segs := segments p.x.pa p.size
    let one := fun (q : Nat × Nat) =>
      ({ kind := .store, pa := q.1, size := q.2, data := BitVec.ofNat 64 (v / 2 ^ (8 * (q.1 - p.x.pa)) % 2 ^ (8 * q.2)),
         mt := p.x.mt.getD .wb, va := BitVec.ofNat 64 p.fva, ipa := if c.lvl < 2 then some p.fipa else none, lvl := BitVec.ofNat 2 c.lvl, spill := spill } : SbEntry)
    segs.map one ++ storeEntries c spill (v / 2 ^ (8 * p.size)) t

/-- Entries committed in order. -/
def State.commitAll (s : State) (c : Ctx) (l : List SbEntry) : State := l.foldl (fun s e => s.commit1 c e) s

/-- A store committed for translated parts; event 0x06 counts an instruction's own store where a line of it misses L1D (log 50). -/
def State.storeParts (s : State) (c : Ctx) (spill : Bool) (v : Nat) (l : List Part) : State :=
  let s := if spill then s else s.count c.core 0x06 (b2n (!(s.missedLines c false l).isEmpty))
  s.commitAll c (storeEntries c spill v l)

/-- A store of the low `size` bytes of `v` at a virtual address (R90, R91). -/
def State.storeVA (s : State) (c : Ctx) (va size : Nat) (v : Word) : State × Option FaultInfo :=
  match s.checkAccess c .store va size with
  | (s, .error f) => (s, some f)
  | (s, .ok l) => (s.storeParts c false (v.toNat % 2 ^ (8 * size)) l, none)

/-! ### Atomics (R93 to R95, R195) -/

/-- The location of an atomic read at the place where it is performed, with what holds it: the near form takes the line
exclusive into L1D, the far form recalls every copy to the home slice, whose L3 a miss fills as any core's request does: it
is no memory controller's far access (DESIGN CHOICE, log 168). -/
def State.atomRead (s : State) (c : Ctx) (mt : MemType) (far : Bool) (pa n : Nat) : State × Except LdErr Nat :=
  let r := s.coreReq c 0
  let l := pa / 64
  let give := fun (s : State) (d : BitVec 512) (p : Bool) =>
    ((s, if p then .error .poison else .ok (lineBytes d pa n)) : State × Except LdErr Nat)
  if mt ≠ .wb then
    match s.ncRead r l with
    | (s, .error e) => (s, .error (ldErr e))
    | (s, .ok (d, p)) => give s d p
  else if far || c.dtm then
    match s.sliceRead r l with
    | (s, .error e) => (s, .error (ldErr e))
    | (s, .ok (d, p, late)) =>
      let s := if c.dtm then s.noteLate c.core late else s
      let s := s.recallLine l
      give s d p
  else
    match s.cohOwn r c.core l with
    | (s, .error e) => (s, .error (ldErr e))
    | (s, .ok held) =>
      match (if held then s.line l else none) with
      | some x => give s x.data x.poison
      | none =>
        let (s, d, p) := s.dmcRead r.cid r.key l
        give s d p

/-- The new value of an atomic written where its old one was read. -/
def State.atomWrite (s : State) (c : Ctx) (mt : MemType) (far : Bool) (pa n v : Nat) : State :=
  let r := s.coreReq c 0
  let l := pa / 64
  let d := BitVec.ofNat 512 (v <<< (8 * (pa % 64)))
  let m := maskBytes (pa % 64) n
  if mt ≠ .wb then s.dmcWrite r.key l d m false
  else match s.line l with
    | none => s.dmcWrite r.key l d m false
    | some x =>
      if far || c.dtm then s.setLine l (some { x with data := mergeLine x.data d m, dirty := true })
      else s.setLine l (some (x.store (c.core / 16) d m))

/-- An atomic at a physical address: the old value (R93). -/
def State.atomAt (s : State) (c : Ctx) (mt : MemType) (far : Bool) (op : AtomOp) (pa n v exp : Nat) : State × Except LdErr Nat :=
  match s.atomRead c mt far pa n with
  | (s, .error e) => (s, .error e)
  | (s, .ok old) =>
    match atomNew op (8 * n) old v exp with
    | none => (s, .ok old)
    | some x => (s.atomWrite c mt far pa n x, .ok old)

/-- An atomic at a virtual address: the store buffer empties first (R195). -/
def State.atomVA (s : State) (c : Ctx) (far : Bool) (op : AtomOp) (va n v exp : Nat) : State × Except FaultInfo Nat :=
  match s.checkAccess c .atomic va n with
  | (s, .error f) => (s, .error f)
  | (s, .ok l) =>
    match l with
    | [] => (s, .ok 0)
    | p :: _ =>
      let s := s.fullBarrier c
      let (s, r) : State × Except LdErr Nat := match p.x.mt with
        | none => (s, .error .resp)
        | some m => s.atomAt c m far op p.x.pa n v exp
      match r with
      | .error e => (s.told c e, .error (memFault c .atomic p e))
      | .ok old => (s, .ok old)

/-! ### Fetch (R53, R143, R213, R214) -/

/-- The line of a parcel fetched into L1I and the line buffer: the parcel and whether it missed L1I, or the fault. -/
def State.fetchRaw (s : State) (c : Ctx) (va : Nat) : State × Except FaultInfo (Parcel × Bool) :=
  match s.translate c .fetch va with
  | (s, .error f) => (s, .error f)
  | (s, .ok x) =>
    let p : Part := { va := va, size := 2, x := x }
    match x.mt with
    | none => (s.told c .resp, .error (memFault c .fetch p .resp))
    | some m =>
      if m.device then (s, .error { accFault .fetch 0x21 10 0 va with ipav := decide (c.lvl < 2), ipa := x.ipa }) else
      let miss : Bool := decide (m = .wb) && !c.dtm && (match s.line (x.pa / 64) with
        | some y => !y.copies.any (fun d => d.i.contains c.core)
        | none => true)
      match s.readSeg c 0 true m x.pa 2 with
      | (s, .error e) => (s.told c e, .error (memFault c .fetch p e))
      | (s, .ok v) =>
        (if c.dtm then s else s.modCore c.core (fun k => { k with lineBuf := some (x.pa / 64) }), .ok (BitVec.ofNat 16 v, miss))

/-- A fetch on the committed path: event 0x05 counts its miss (R157). -/
def State.fetchVA (s : State) (c : Ctx) (va : Nat) : State × Except FaultInfo Parcel :=
  match s.fetchRaw c va with
  | (s, .error f) => (s, .error f)
  | (s, .ok (p, miss)) => (s.count c.core 0x05 (b2n miss), .ok p)

/-! ### Maintenance by address (R215 to R218) -/

/-- The translation check of a maintenance operation. -/
def maintKind (k : SbKind) : AccKind := match k with | .iclean => .iclean | _ => .load

/-- A maintenance entry for lines of one operation. -/
def maintEntry (c : Ctx) (k : SbKind) (va : Nat) (lines : List MaintLine) : SbEntry :=
  { kind := k, lines := lines, va := BitVec.ofNat 64 va, ipa := (match lines with | x :: _ => x.ipa | [] => none),
    lvl := BitVec.ofNat 2 c.lvl }

/-- The line of a byte at `va`, translated to `pa` and `ipa`. -/
def maintLine (c : Ctx) (va pa ipa : Nat) (act : Bool) : MaintLine :=
  ⟨pa / 64, BitVec.ofNat 64 va, if c.lvl < 2 then some ipa else none, act⟩

/-- A line operation at a virtual address: device memory has no line in a cache. -/
def State.lineVA (s : State) (c : Ctx) (k : SbKind) (va : Nat) : State × Option FaultInfo :=
  match (s.strictFirst c).translate c (maintKind k) va with
  | (s, .error f) => (s, some f)
  | (s, .ok x) =>
    let dev : Bool := match x.mt with | some m => m.device | none => false
    (s.commit1 c (maintEntry c k va [maintLine c va x.pa x.ipa (!dev)]), none)

/-- The lines of `m` bytes at `va` in one page, translated to `pa` and `ipa`, with the lowest byte of each. -/
def linesOf (c : Ctx) (va pa ipa m : Nat) (act : Bool) : List MaintLine :=
  (natsFrom (pa / 64) ((pa + m - 1) / 64 - pa / 64 + 1)).map (fun l =>
    let o := max pa (l * 64) - pa
    maintLine c ((va + o) % 2 ^ 64) (l * 64) (ipa + o) act)

/-- The lines of the pages of a range from `va` on, `n` bytes left, every page translated and checked in ascending order; the lines of
pages of another type than normal write-back are not acted on. `fuel` bounds the pages. -/
def State.rangeLines (c : Ctx) (k : SbKind) : Nat → State → Nat → Nat → List MaintLine → State × Except FaultInfo (List MaintLine)
  | 0, s, _, _, acc => (s, .ok acc)
  | f + 1, s, va, n, acc =>
    if n = 0 then (s, .ok acc) else
    match s.translate c (maintKind k) va with
    | (s, .error e) => (s, .error e)
    | (s, .ok x) =>
      let m := min n (4096 - va % 4096)
      State.rangeLines c k f s ((va + m) % 2 ^ 64) (n - m) (acc ++ linesOf c va x.pa x.ipa m (decide (x.mt = some .wb)))

/-- A range operation at a virtual address (R216): a length of 0 does nothing. -/
def State.rangeVA (s : State) (c : Ctx) (k : SbKind) (va len : Nat) : State × Option FaultInfo :=
  if len = 0 then (s, none) else
  match State.rangeLines c k (len / 4096 + 2) (s.strictFirst c) va len [] with
  | (s, .error f) => (s, some f)
  | (s, .ok l) => (s.commit1 c (maintEntry c k va l), none)

/-! ### Prefetches (R142, R176, R219) -/

/-- Whether a core's L1D holds a line in a state that serves a read, or a write. -/
def State.l1dServes (s : State) (core l : Nat) (excl : Bool) : Bool :=
  match s.line l with
  | some x => x.copies.any (fun c => c.d.any (fun p => decide (p.1 = core) && (!excl || decide (p.2 ≠ .s))))
  | none => false

/-- A prefetch: dropped without trace where it cannot be made, otherwise an outstanding miss. -/
def State.prefetchVA (s : State) (c : Ctx) (excl : Bool) (va : Nat) : State :=
  if c.dtm then s else
  match (s.strictFirst c).translate c .prefetch va with
  | (_, .error _) => s.strictFirst c
  | (t, .ok x) =>
    if x.mt ≠ some .wb ∨ 8 ≤ (t.core c.core).misses.length then t
    else if t.l1dServes c.core (x.pa / 64) excl then t
    else t.modCore c.core (fun k => { k with misses := k.misses ++ [⟨x.pa, excl, false⟩] })

end Sys2Proof.Machine
end

