-- ==== Sys2Proof/Machine/Entry.lean ====
section
/-! DEFINITION. Taking an exception and returning from one (chapter 5): the synchronising point, the handler level and
escalation, spills at entry, the commit, the vector fetch, the top-level stack fault, the take-over of an entry, and ERET. -/

namespace Sys2Proof.Machine

/-! ### The status register and the banks -/

/-- SR, with SEC from the cluster's world (R42). -/
def Core.srWord (k : Core) (sec : Bool) : Word :=
  BitVec.ofNat 64 (b2n k.v + b2n k.dz * 2 + b2n k.ovtrap * 4 + b2n k.dztrap * 8 + k.lvl.toNat * 2 ^ 8 + b2n sec * 2 ^ 10 +
    b2n k.ie * 2 ^ 11 + k.stack.length * 2 ^ 16)

/-- Whether a core's cluster is in the secure world (R42). -/
def State.secure (s : State) (core : Nat) : Bool := decide (s.cid (core / 16) = 63)

/-- SR of a core. -/
def State.srOf (s : State) (core : Nat) : Word := (s.core core).srWord (s.secure core)

/-- The stack bank of a level (R42). -/
def Core.bank (k : Core) (lvl : Nat) : Bank := if lvl = 0 then k.bankU else if lvl = 1 then k.bankK else k.bankHW

/-- The stack bank of a level replaced. -/
def Core.setBank (k : Core) (lvl : Nat) (b : Bank) : Core :=
  if lvl = 0 then { k with bankU := b } else if lvl = 1 then { k with bankK := b } else { k with bankHW := b }

/-- The exception registers of a handler level. -/
def Core.exc (k : Core) (lvl : Nat) : ExcRegs := if lvl = 1 then k.excK else k.excHW

/-- The exception registers of a handler level replaced. -/
def Core.setExc (k : Core) (lvl : Nat) (x : ExcRegs) : Core := if lvl = 1 then { k with excK := x } else { k with excHW := x }

/-! ### The synchronising point (R45, R117, R135, R152) -/

/-- Every earlier MTS applied. Deterministic mode newly set drains the store buffer and empties the core's L1. -/
def State.syncPoint (s : State) (core : Nat) : State :=
  let k := s.core core
  if k.sync = k.eff then s else
  let s := s.setUseTag core (k.sync.ttag.setWidth 16)
  let s := if bitN k.sync.coreCtl 0 && !bitN k.eff.coreCtl 0 then
      (((s.drainAll (s.ctx core)).wbL1d core).invL1i core).modCore core (fun k => { k with lineBuf := none })
    else s
  s.modCore core (fun k => { k with eff := k.sync })

/-! ### Spills (R31, R33, R34, R37) -/

/-- The bottom cached entry spilled to the memory part: its place translated, the store committed, OSP advanced. -/
def State.spillOne (s : State) (c : Ctx) : State × Option FaultInfo :=
  let k := s.core c.core
  match k.stack.getLast? with
  | none => (s, none)
  | some v =>
    let b := k.bank c.lvl
    match s.checkAccess c .store b.osp.toNat 8 with
    | (s, .error f) => (s, some f)
    | (s, .ok l) =>
      let s := s.storeParts c true v.toNat l
      let s := s.modCore c.core (fun k => { k.setBank c.lvl { k.bank c.lvl with osp := (k.bank c.lvl).osp + 8#64 } with stack := k.stack.dropLast })
      (s.count c.core 0x0B 1, none)

/-- `n` entries spilled, the deepest first; the first fault ends it. -/
def State.spillN (c : Ctx) : Nat → State → State × Option FaultInfo
  | 0, s => (s, none)
  | n + 1, s =>
    match s.spillOne c with
    | (s, some f) => (s, some f)
    | (s, none) => State.spillN c n s

/-- Every cached entry spilled. -/
def State.spillAll (s : State) (c : Ctx) : State × Option FaultInfo := State.spillN c (s.core c.core).stack.length s

/-! ### Exceptions (R111, R112, R116) -/

/-- An exception as it is recognised: its cause and syndrome, the ECAUSE bits that go with it, the report or the interrupt that it
is, EPC, and the address of the opcode parcel. `vec`: raised by the fetch of a vector. -/
structure Exc where
  f : FaultInfo
  stk : Bool := false
  ds : Bool := false
  vec : Bool := false
  tko : Bool := false
  dfr : Option Deferred := none
  irq : Option (Nat × Bool) := none
  epc : Word
  opAddr : Word
  deriving DecidableEq, Repr

/-- The kinds of cause that R112 escalates. -/
def Exc.stackKind (e : Exc) : Bool := decide (e.f.cause = 0x03) || decide (e.f.cause = 0x04) || e.stk || e.vec

/-- The level that takes an exception, and whether it is escalated (R111, R112). -/
def State.handlerLevel (s : State) (core : Nat) (e : Exc) : Nat × Bool :=
  let lvl := (s.core core).lvl.toNat
  let top := s.topLvl core
  match e.irq with
  | some (_, hw) => (if hw then top else 1, false)
  | none =>
    let c := e.f.cause
    if c = 0x32 ∨ 2 ≤ lvl then (top, false)
    else if lvl = 1 ∧ e.stackKind then (top, true)
    else if e.f.hw ∨ (0x18 ≤ c ∧ c ≤ 0x1B) ∨ c = 0x1E ∨ c = 0x31 then (top, false)
    else (1, false)

/-- Whether entry writes the syndrome registers (R177). -/
def Exc.syndrome (e : Exc) : Bool :=
  let c := e.f.cause
  decide (c = 0x05) || (decide (0x10 ≤ c) && decide (c ≤ 0x1E)) || decide (c = 0x20) || decide (c = 0x21) || e.dfr.isSome

/-- FSYN (R177); IPAV is 0 in FSYN_K. -/
def FaultInfo.fsyn (f : FaultInfo) (hw : Bool) : Word :=
  BitVec.ofNat 64 (f.lvl % 8 + b2n f.stg * 2 ^ 3 + b2n f.s1ptw * 2 ^ 4 + b2n f.wnr * 2 ^ 5 + b2n f.fetch * 2 ^ 6 + b2n f.atom * 2 ^ 7 +
    f.typ % 16 * 2 ^ 8 + b2n (hw && f.ipav) * 2 ^ 12)

/-- ECAUSE (R121). -/
def Exc.ecause (e : Exc) (lvl : Nat) (esc : Bool) : Word :=
  let irq := match e.irq with | some (i, _) => i | none => 0
  BitVec.ofNat 64 (e.f.cause + lvl * 2 ^ 8 + b2n e.ds * 2 ^ 10 + b2n e.stk * 2 ^ 11 + b2n e.tko * 2 ^ 12 + b2n esc * 2 ^ 13 +
    b2n e.dfr.isSome * 2 ^ 14 + irq * 2 ^ 16)

/-- FIPA_HW as entry writes it: the IPA of the fault; an open value where the fault has none. -/
def State.fipaWord (s : State) (f : FaultInfo) : Word × State :=
  if f.ipav ∨ f.s1ptw then (BitVec.ofNat 64 (f.ipa % 2 ^ 52), s) else
  let (w, s) := s.openWord
  (BitVec.ofNat 64 (w.toNat % 2 ^ 52), s)

/-- The exception registers that step 4 of R116 writes. -/
def Exc.regs (e : Exc) (x : ExcRegs) (level lvl : Nat) (esc : Bool) (sr fipa : Word) : ExcRegs :=
  let x := { x with epc := e.epc, esr := sr, ecause := e.ecause lvl esc }
  if e.syndrome then
    { x with fsyn := e.f.fsyn (decide (level ≠ 1)), faddr := e.f.addr, fipa := if level = 1 then x.fipa else fipa }
  else x

/-- The vector address (R114). -/
def vectorOf (evb : Word) (same : Bool) (cause : Nat) : Word := evb + BitVec.ofNat 64 ((if same then 0x800 else 0) + cause * 16)

/-- Step 4 of R116: the exception registers written, SR changed, the interrupt taken up (R129), the PC at the vector. -/
def State.commitEntry (s : State) (core : Nat) (e : Exc) (level : Nat) (esc : Bool) : State :=
  let k := s.core core
  let lvl := k.lvl.toNat
  let sr := s.srOf core
  let (fipa, s) := if e.syndrome && decide (level ≠ 1) then s.fipaWord e.f else ((k.exc level).fipa, s)
  let (irq, edge) : Nat × Bool := match e.irq with | some (i, _) => (i, decide (2 ≤ i)) | none => (0, false)
  let rec' : EntryRec := { cause := e.f.cause, irq := irq, edge := edge, deferred := e.dfr, opAddr := e.opAddr, epc := e.epc,
                           saved := k.exc level, level := BitVec.ofNat 2 level,
                           perf := k.perf }
  let evb := if level = 1 then k.sync.evbK else k.sync.evbHW
  let s := s.modCore core (fun k =>
    { k.setExc level (e.regs (k.exc level) level lvl esc sr fipa) with
      lvl := BitVec.ofNat 2 level, ie := false, v := false, dz := false, ovtrap := false, dztrap := false,
      pc := vectorOf evb (decide (lvl = level)) e.f.cause, entry := some rec' })
  match e.irq with
  | none => s.count core 0x0D 1
  | some (i, _) =>
    let s := if 2 ≤ i then s.clrPend core i else s
    let st := Reg.CII_STAT (core / 16) (core % 16)
    let s := (s.setF st Fld.CII_STAT_LAST_ID i).setF st Fld.CII_STAT_LAST_VALID 1
    s.count core 0x0E 1

/-- A top-level stack fault (R113): the core halts. -/
def State.haltCore (s : State) (core : Nat) (e : Exc) : State :=
  let n := core / 16
  let s := s.modCore core (fun k => { k with run := .halted, entry := none })
  let s := s.setF (Reg.CII_STAT n (core % 16)) Fld.CII_STAT_HALTED 1
  let s := s.setPends ((clusterCores n).filter (fun c => decide (c ≠ core))) 5
  s.logCluster n 2 2 e.epc (BitVec.ofNat 64 (e.f.cause % 256)) (s.cid n) (core % 16) false

/-- The exception that a faulting spill of R37 puts in the place of the one being entered (R38): EPC is the address of the
instruction, which then runs again. -/
def Exc.replaced (e : Exc) (f : FaultInfo) : Exc := { f := f, stk := true, ds := e.ds, epc := e.opAddr, opAddr := e.opAddr }

/-- The exception that the fetch of a vector raises (R112). -/
def vectorExc (f : FaultInfo) (pc : Word) : Exc := { f := f, vec := true, epc := pc, opAddr := pc }

/-- Entry by the steps of R116, with the replacing fault of R38 and the escalation of a vector fetch. `spill`: step 3 spills;
`fuel` bounds the entries that follow one another, at most six. -/
def State.enterN : Nat → State → Nat → Bool → Exc → State
  | 0, s, _, _, _ => s
  | fuel + 1, s, core, spill, e =>
    let s := s.syncPoint core
    let lvl := (s.core core).lvl.toNat
    if 2 ≤ lvl ∧ e.stackKind then s.haltCore core e else
    let (level, esc) := s.handlerLevel core e
    let (s, bad) : State × Option FaultInfo := if level ≠ lvl ∧ spill then s.spillAll (s.ctx core) else (s, none)
    match bad with
    | some f =>
      let s := match e.dfr with | some d => s.modCore core (fun k => { k with deferred := d :: k.deferred }) | none => s
      State.enterN fuel s core false (e.replaced f)
    | none =>
      let s := s.commitEntry core e level esc
      let pc := (s.core core).pc
      match s.fetchVA (s.ctx core) pc.toNat with
      | (s, .ok _) => s
      | (s, .error f) => State.enterN fuel s core true (vectorExc f pc)

/-- Taking an exception: the one shared operation (R115 to R120). -/
def State.takeExc (s : State) (core : Nat) (e : Exc) : State := State.enterN 8 s core true e

/-- A synchronous exception of the instruction at the PC. -/
def State.takeSync (s : State) (core : Nat) (f : FaultInfo) (stk ds : Bool) : State :=
  let pc := (s.core core).pc
  s.takeExc core { f := f, stk := stk, ds := ds, epc := pc, opAddr := pc }

/-- A fault that is its cause alone. -/
def plainFault (cause : Nat) : FaultInfo := { cause := cause }

/-- Whether entry leaves a core in its handler, by an interrupt's ID. -/
def interruptExc (id : Nat) (hw : Bool) (pc : Word) : Exc := { f := plainFault 0x40, irq := some (id, hw), epc := pc, opAddr := pc }

/-- The fault of a deferred report (R122). -/
def Deferred.fault (d : Deferred) : FaultInfo :=
  { cause := d.cause, wnr := d.wnr, typ := if d.cause = 0x1E then 9 else 10, ipav := d.ipa.isSome, addr := d.addr, ipa := d.ipa.getD 0 }

/-! ### Instruction boundaries -/

/-- DSP_STAT of a core. -/
def dspStat (core : Nat) : Nat := Reg.DSP_STAT (core / 16) (core % 16)

/-- An MTS to a performance counter register put into effect, after the MTS itself has been counted (R158). -/
def Core.perfDue (k : Core) : Core :=
  match k.perfNext with
  | some (lvl, n, v) => { k with perf := k.perf.put lvl n v, perfNext := none }
  | none => k

/-- `n` instructions retired with the next one at `pc` (R26), counted with the cycles they took (R157). -/
def State.retireTo (s : State) (core n : Nat) (pc : Word) : State :=
  let s := (s.count core 0x02 n).tick
  s.modCore core (fun k => { ({ k with perf := k.perf.timed false (bitN k.eff.coreCtl 0) k.lvl.toNat s.free }).perfDue with
    pc := pc &&& 0xFFFFFFFFFFFFFFFE#64, entry := none, instrs := k.instrs + n, useInstr := k.useInstr + n })

/-- An instruction of `len` bytes retired. -/
def State.retire (s : State) (core len : Nat) : State := s.retireTo core 1 ((s.core core).pc + BitVec.ofNat 64 len)

/-- The oldest deferred report taken at an instruction boundary (R122). -/
def State.takeReport (s : State) (core : Nat) : State :=
  match (s.core core).deferred with
  | [] => s
  | d :: t =>
    let s := s.modCore core (fun k => { k with deferred := t })
    let pc := (s.core core).pc
    s.takeExc core { f := d.fault, dfr := some d, epc := pc, opAddr := pc }

/-- What a running core takes at an instruction boundary before it starts its next instruction (R122, R125, R128): a deferred report, or
the interrupt that is takeable; none where the instruction starts. Of the two the report goes first, and R133 lets an interrupt take its
entry over. DESIGN CHOICE, log 70. -/
def State.boundary (s : State) (core : Nat) : Option State :=
  let k := s.core core
  if k.deferred ≠ [] then some (s.takeReport core) else
  match s.pickIrq core k.lvl.toNat k.ie with
  | some (id, hw) => some (s.takeExc core (interruptExc id hw k.pc))
  | none => none

/-- A core's instruction begins: its use goes to the tag that it runs with (R46). -/
def State.begin (s : State) (core : Nat) : State := s.setUseTag core ((s.ctx core).regs.ttag.setWidth 16)

/-- A parked core put where it takes interrupts (R249): at HW with SR.IE = 1, before the instruction that DSP_PARK_c named when it
parked. -/
def State.unpark (s : State) (core : Nat) : State :=
  let pc := s.forced (Reg.DSP_PARK (core / 16) (core % 16)) &&& 0xFFFFFFFFFFFFFFFE#64
  let s := s.modCore core (fun k => { k with
    run := .running, lvl := BitVec.ofNat 2 (s.topLvl core), ie := true, pc := pc, idle := false, entry := none, woken := false })
  s.setF (dspStat core) Fld.DSP_STAT_STATE 1

/-- A waiting core's WAIT completed (R238). -/
def State.endWait (s : State) (core : Nat) : State :=
  let s := s.modCore core (fun k => { k with run := .running, idle := false })
  (s.retire core 2).setF (dspStat core) Fld.DSP_STAT_STATE 1

/-! ### Return (R123 to R125) -/

/-- Whether ERET at a level may return to the context that ESR names (R124). -/
def eretOk (lvl : Nat) (sec : Bool) (esr : Word) : Bool :=
  let l := fieldN esr 8 2
  decide (l ≤ lvl) && decide (bitN esr 10 = sec) && (decide (l ≠ (if sec then 2 else 3)))

/-- SR restored from ESR, with SR.SCD = 0 (R522). -/
def Core.restore (k : Core) (esr : Word) : Core :=
  { k with v := bitN esr 0, dz := bitN esr 1, ovtrap := bitN esr 2, dztrap := bitN esr 3, lvl := BitVec.ofNat 2 (fieldN esr 8 2),
           ie := bitN esr 11, stack := [] }

/-- The translation of the places that `n` spills from OSP on will write, before any of them (R34). -/
def State.checkSpills (c : Ctx) : Nat → State → Word → State × Except FaultInfo (List (List Part))
  | 0, s, _ => (s, .ok [])
  | n + 1, s, a =>
    match s.checkAccess c .store a.toNat 8 with
    | (s, .error f) => (s, .error f)
    | (s, .ok l) =>
      match State.checkSpills c n s (a + 8#64) with
      | (s, .error f) => (s, .error f)
      | (s, .ok t) => (s, .ok (l :: t))

/-- The bottom cached entry stored at a place already translated. -/
def State.spillAt (s : State) (c : Ctx) (l : List Part) : State :=
  match (s.core c.core).stack.getLast? with
  | none => s
  | some v =>
    let s := s.storeParts c true v.toNat l
    let s := s.modCore c.core (fun k => { k.setBank c.lvl { k.bank c.lvl with osp := (k.bank c.lvl).osp + 8#64 } with stack := k.stack.dropLast })
    s.count c.core 0x0B 1

/-- Entries spilled to places already translated, the deepest first. -/
def State.spillTo (c : Ctx) : State → List (List Part) → State
  | s, [] => s
  | s, l :: t => State.spillTo c (s.spillAt c l) t

/-- Every cached entry spilled where all their places translate; otherwise nothing is spilled. -/
def State.spillChecked (s : State) (c : Ctx) : State × Option FaultInfo :=
  let k := s.core c.core
  match State.checkSpills c k.stack.length s (k.bank c.lvl).osp with
  | (s, .error f) => (s, some f)
  | (s, .ok l) => (State.spillTo c s l, none)

/-- ERET at the core's level (R124): the state after it, or its fault and whether that is a spill's. -/
def State.eret (s : State) (core : Nat) : State × Option (FaultInfo × Bool) :=
  let k := s.core core
  let lvl := k.lvl.toNat
  let x := k.exc lvl
  if eretOk lvl (s.secure core) x.esr = false then (s, some (plainFault 0x02, false)) else
  let s := s.syncPoint core
  let (s, bad) : State × Option FaultInfo :=
    if fieldN x.esr 8 2 ≠ lvl then (s, none) else s.spillChecked (s.ctx core)
  match bad with
  | some f => (s, some (f, true))
  | none => ((s.retireTo core 1 x.epc).modCore core (fun k => k.restore x.esr), none)

/-! ### Late arrival (R133) -/

/-- The context that an entry in progress interrupted, put back: the exception registers as they were, SR from the ESR that the
entry wrote, an edge interrupt or a deferred report pending again. Spills already done are kept. -/
def State.undoEntry (s : State) (core : Nat) (r : EntryRec) : State :=
  let k := s.core core
  let l := r.level.toNat
  let esr := (k.exc l).esr
  let s := s.modCore core (fun k =>
    { (k.setExc l r.saved) with
      v := bitN esr 0, dz := bitN esr 1, ovtrap := bitN esr 2, dztrap := bitN esr 3, lvl := BitVec.ofNat 2 (fieldN esr 8 2),
      ie := bitN esr 11, pc := r.opAddr, entry := none, perf := r.perf,
      deferred := (match r.deferred with | some d => d :: k.deferred | none => k.deferred) })
  if r.edge then s.setPend core r.irq else s

/-- Whether interrupt `new` wins over interrupt `old` (R128): HW before K, then the lowest ID. -/
def irqWins (new old : Nat × Bool) : Bool :=
  (new.2 && !old.2) || (decide (new.2 = old.2) && decide (new.1 < old.1))

/-- The interrupt that takes over a core's entry in progress, judged with the interrupted context's level and SR. R133 names the entries
of synchronous exceptions and of interrupts; of the entry by which a WCALL is delivered it says nothing, and it is never taken over here.
DESIGN CHOICE, log 152. -/
def State.lateIrq (s : State) (core : Nat) (r : EntryRec) : Option (Nat × Bool) :=
  let esr := ((s.core core).exc r.level.toNat).esr
  match s.pickIrq core (fieldN esr 8 2) (bitN esr 11) with
  | none => none
  | some i =>
    if r.cause = 0x32 then none
    else if r.cause = 0x40 then (if irqWins i (r.irq, decide (r.level.toNat ≠ 1)) then some i else none)
    else if i.2 ∨ r.level = 1#2 then some i else none

end Sys2Proof.Machine
end

