-- ==== Sys2Proof/Machine/Operands.lean ====
section
/-! DEFINITION. How an instruction gets its operands and leaves its results (R31 to R34, R57): the order of the checks, fills, the
operation, spills, and what the instruction leaves when one of them fails. -/

namespace Sys2Proof.Machine

open Host

/-- How an operation ends: its results (top first), its results and a transfer, a fault and whether a spill of the operation
raised it, or by itself: it has already moved the core on. -/
inductive OpRes where
  | ok (rs : List Word)
  | jump (rs : List Word) (pc : Word)
  | trap (f : FaultInfo) (stk : Bool)
  | own

/-- An operation: how many entries it pops and pushes, the FEAT_0 bit of its group (R74), the check of step 4 of R57 with the
cause it raises, and what it does to its operands, top first. -/
structure Op where
  pops : Nat := 0
  pushes : Nat := 0
  feat : Option Nat := none
  priv : Ctx → State → Option Nat := fun _ _ => none
  run : Ctx → List Word → State → State × OpRes

/-- How an instruction ends: done, with a transfer, by an exception, or by itself. -/
inductive DoRes where
  | done
  | jump (pc : Word)
  | trap (f : FaultInfo) (stk : Bool)
  | own

/-! ### Checks (R31, R47, R57) -/

/-- Whether the gate of a group is open: K and U see FEAT_0 through FMASK (R47). -/
def Ctx.gate (c : Ctx) (feat : Option Nat) : Bool :=
  match feat with
  | none => true
  | some b => decide (2 ≤ c.lvl) || bitN c.regs.fmask b

/-- Allowed at every level. -/
def privAll : Ctx → State → Option Nat := fun _ _ => none

/-- Allowed at K and above. -/
def privK : Ctx → State → Option Nat := fun c _ => if 1 ≤ c.lvl then none else some 0x02

/-- Allowed at the top level only. -/
def privHW : Ctx → State → Option Nat := fun c _ => if 2 ≤ c.lvl then none else some 0x02

/-- Allowed at U only (TRAP). -/
def privU : Ctx → State → Option Nat := fun c _ => if c.lvl = 0 then none else some 0x02

/-- Allowed at K of the normal world (HCALL). -/
def privNormalK : Ctx → State → Option Nat := fun c s => if c.lvl = 1 ∧ s.secure c.core = false then none else some 0x02

/-- Allowed at K and H of the normal world (WCALL). -/
def privNormal : Ctx → State → Option Nat := fun c s => if 1 ≤ c.lvl ∧ s.secure c.core = false then none else some 0x02

/-- The stack underflow check of R31: `m` entries popped. -/
def underflow (b : Bank) (scd m : Nat) : Bool :=
  decide (scd < m) && (decide (b.osp.toNat < b.osb.toNat) || decide ((b.osp.toNat - b.osb.toNat) / 8 < m - scd))

/-- The stack overflow check of R31: `m` entries popped and `n` pushed. -/
def overflow (b : Bank) (scd m n : Nat) : Bool :=
  decide (m < n) && decide (b.osl.toNat < b.osp.toNat + 8 * (max scd m - m + n))

/-- The stack checks of R31: the cause of the one that fails. -/
def Core.stackCheck (k : Core) (lvl m n : Nat) : Option Nat :=
  if underflow (k.bank lvl) k.stack.length m then some 0x04
  else if overflow (k.bank lvl) k.stack.length m n then some 0x03
  else none

/-- Entries of the stack cache. -/
def cacheSize : Nat := 16

/-- The number of spills that popping `m` and pushing `n` needs. -/
def spillsFor (scd m n : Nat) : Nat := max scd m - m + n - cacheSize

/-- Steps 3 to 5 of R57: the cause of the first check that fails. -/
def State.preCheck (s : State) (c : Ctx) (op : Op) : Option Nat :=
  if c.gate op.feat = false then some 0x01 else
  match op.priv c s with
  | some cause => some cause
  | none => (s.core c.core).stackCheck c.lvl op.pops op.pushes

/-! ### Fills (R31, R33, R34) -/

/-- One entry filled from the memory part below the cached entries. -/
def State.fillOne (s : State) (c : Ctx) : State × Option FaultInfo :=
  let a := ((s.core c.core).bank c.lvl).osp - 8#64
  match s.fillVA c a.toNat 8 with
  | (s, .error f) => (s, some f)
  | (s, .ok v) =>
    let s := s.modCore c.core (fun k => { k.setBank c.lvl { k.bank c.lvl with osp := a } with stack := k.stack ++ [BitVec.ofNat 64 v] })
    (s.count c.core 0x0C 1, none)

/-- `n` entries filled; the first fault ends it, and the fills before it stay. -/
def State.fillN (c : Ctx) : Nat → State → State × Option FaultInfo
  | 0, s => (s, none)
  | n + 1, s =>
    match s.fillOne c with
    | (s, some f) => (s, some f)
    | (s, none) => State.fillN c n s

/-! ### The operation between its fills and its spills -/

/-- Entries pushed, top first. -/
def State.pushes (s : State) (core : Nat) (rs : List Word) : State := s.modCore core (fun k => { k with stack := rs ++ k.stack })

/-- The operation on its operands, its results pushed and the spills they need made; a fault puts the operands back. -/
def State.applyOp (s : State) (c : Ctx) (op : Op) (places : List (List Part)) : State × DoRes :=
  let args := (s.core c.core).stack.take op.pops
  let s := s.modCore c.core (fun k => { k with stack := k.stack.drop op.pops })
  match op.run c args s with
  | (s, .ok rs) => (State.spillTo c (s.pushes c.core rs) places, .done)
  | (s, .jump rs pc) => (State.spillTo c (s.pushes c.core rs) places, .jump pc)
  | (s, .trap f stk) => (s.pushes c.core args, .trap f stk)
  | (s, .own) => (s, .own)

/-- An instruction from step 3 of R57 on. -/
def State.doOp (s : State) (c : Ctx) (op : Op) : State × DoRes :=
  match s.preCheck c op with
  | some cause => (s, .trap (plainFault cause) false)
  | none =>
    let k := s.core c.core
    let scd := k.stack.length
    let a := (k.bank c.lvl).osp - BitVec.ofNat 64 (8 * (op.pops - scd))
    match State.checkSpills c (spillsFor scd op.pops op.pushes) s a with
    | (s, .error f) => (s, .trap f true)
    | (s, .ok places) =>
      match State.fillN c (op.pops - scd) s with
      | (s, some f) => (s, .trap f true)
      | (s, none) => s.applyOp c op places

/-- A running core's instruction of `len` bytes (R57), after what its boundary has for the core; a core that does not run is left as it
is. -/
def State.runOp (s : State) (core len : Nat) (op : Op) : State :=
  if (s.core core).run ≠ .running then s else
  match s.boundary core with
  | some t => t
  | none =>
  match (s.begin core).doOp (s.ctx core) op with
  | (s, .done) => s.retire core len
  | (s, .jump pc) => s.retireTo core 1 pc
  | (s, .trap f stk) => s.tick.takeSync core f stk false
  | (s, .own) => s

/-- The outcome of a one-parcel instruction. -/
def runOne (c : CoreId) (op : Op) (s : State) : Outcome State Fault Refusal := .next (s.runOp c.val 2 op)

/-! ### Shapes of operations -/

/-- Results that depend on the operands alone; operands and results are top first. -/
def pureOp (m n : Nat) (f : List Word → List Word) : Op :=
  { pops := m, pushes := n, run := fun _ args s => (s, .ok (f args)) }

/-- ( a -- r ) -/
def op1 (f : Word → Word) : Op := pureOp 1 1 (fun l => match l with | [a] => [f a] | _ => l)

/-- ( a b -- r ) -/
def op2 (f : Word → Word → Word) : Op := pureOp 2 1 (fun l => match l with | [b, a] => [f a b] | _ => l)

/-- ( a b c -- r ) -/
def op3 (f : Word → Word → Word → Word) : Op := pureOp 3 1 (fun l => match l with | [c, b, a] => [f a b c] | _ => l)

/-- The number of a relation: 1 for true, 0 for false (R28). -/
def flagWord (b : Bool) : Word := if b then 1#64 else 0#64

/-- The result of integer arithmetic, its sticky bits and their traps (R82, R86, R88, R89). -/
def State.aluRes (s : State) (core : Nat) (x : Alu) : State × OpRes :=
  let k := s.core core
  if x.v && k.ovtrap then (s, .trap (plainFault 0x07) false)
  else if x.dz && k.dztrap then (s, .trap (plainFault 0x06) false)
  else (s.modCore core (fun k => { k with v := k.v || x.v, dz := k.dz || x.dz }), .ok [x.r])

/-- ( a -- r ) with the sticky bits. -/
def alu1 (f : Word → Alu) : Op :=
  { pops := 1, pushes := 1, run := fun c args s => match args with | [a] => s.aluRes c.core (f a) | _ => (s, .own) }

/-- ( a b -- r ) with the sticky bits. -/
def alu2 (f : Word → Word → Alu) : Op :=
  { pops := 2, pushes := 1, run := fun c args s => match args with | [b, a] => s.aluRes c.core (f a b) | _ => (s, .own) }

/-- An operation of a gated group (R74). -/
def Op.gated (op : Op) (bit : Nat) : Op := { op with feat := some bit }

/-- An operation with a check of its level. -/
def Op.at (op : Op) (p : Ctx → State → Option Nat) : Op := { op with priv := p }

/-- Sign extension of an immediate. -/
def simm {w : Nat} (v : BitVec w) : Word := v.signExtend 64

end Sys2Proof.Machine
end

