-- ==== Sys2Proof/Machine/AtomOps.lean ====
section
/-! DEFINITION. Class 0x8: atomics (R67, R93 to R95). -/

namespace Sys2Proof.Machine

open Host

/-- The width in bytes of an atomic. -/
def atomBytes (double : Bool) : Nat := if double then 8 else 4

/-- An atomic at an address (R93): pushes the old value. -/
def State.atomOp (s : State) (c : Ctx) (op : AtomOp) (double far : Bool) (a v exp : Word) : State × OpRes :=
  let n := atomBytes double
  match s.atomVA c far op a.toNat n (v.toNat % 2 ^ (8 * n)) (exp.toNat % 2 ^ (8 * n)) with
  | (s, .error f) => (s, .trap f false)
  | (s, .ok old) => (s, .ok [BitVec.ofNat 64 old])

/-- ( v addr -- old ) -/
def atomForm (op : AtomOp) (double far : Bool) : Op :=
  { pops := 2, pushes := 1,
    run := fun c args s => match args with | [a, v] => s.atomOp c op double far a v 0#64 | _ => (s, .own) }

/-- AXCHG: R93. -/
def opAxchg (double far : Bool) : Op := atomForm .axchg double far
def execAxchg (c : CoreId) (double far : Bool) (s : State) : Outcome State Fault Refusal := runOne c (opAxchg double far) s

/-- ACAS: ( exp new addr -- old ) (R93). -/
def opAcas (double far : Bool) : Op := 
  { pops := 3, pushes := 1,
    run := fun c args s => match args with | [a, v, e] => s.atomOp c .acas double far a v e | _ => (s, .own) }
def execAcas (c : CoreId) (double far : Bool) (s : State) : Outcome State Fault Refusal := runOne c (opAcas double far) s

/-- AADD: R93. -/
def opAadd (double far : Bool) : Op := atomForm .aadd double far
def execAadd (c : CoreId) (double far : Bool) (s : State) : Outcome State Fault Refusal := runOne c (opAadd double far) s

/-- AAND: R93. -/
def opAand (double far : Bool) : Op := atomForm .aand double far
def execAand (c : CoreId) (double far : Bool) (s : State) : Outcome State Fault Refusal := runOne c (opAand double far) s

/-- AOR: R93. -/
def opAor (double far : Bool) : Op := atomForm .aor double far
def execAor (c : CoreId) (double far : Bool) (s : State) : Outcome State Fault Refusal := runOne c (opAor double far) s

/-- AXOR: R93. -/
def opAxor (double far : Bool) : Op := atomForm .axor double far
def execAxor (c : CoreId) (double far : Bool) (s : State) : Outcome State Fault Refusal := runOne c (opAxor double far) s

/-- AMIN: R93. -/
def opAmin (double far : Bool) : Op := atomForm .amin double far
def execAmin (c : CoreId) (double far : Bool) (s : State) : Outcome State Fault Refusal := runOne c (opAmin double far) s

/-- AMAX: R93. -/
def opAmax (double far : Bool) : Op := atomForm .amax double far
def execAmax (c : CoreId) (double far : Bool) (s : State) : Outcome State Fault Refusal := runOne c (opAmax double far) s

/-- AMINU: R93. -/
def opAminu (double far : Bool) : Op := atomForm .aminu double far
def execAminu (c : CoreId) (double far : Bool) (s : State) : Outcome State Fault Refusal := runOne c (opAminu double far) s

/-- AMAXU: R93. -/
def opAmaxu (double far : Bool) : Op := atomForm .amaxu double far
def execAmaxu (c : CoreId) (double far : Bool) (s : State) : Outcome State Fault Refusal := runOne c (opAmaxu double far) s

end Sys2Proof.Machine
end

