-- ==== Sys2Proof/Machine/ExtOps.lean ====
section
/-! DEFINITION. Class 0xF: the extensions gated by FEAT_0 (R74, R75, R96 to R101). -/

namespace Sys2Proof.Machine

open Host

/-- The time of an AES or CLMUL instruction kept for its leave (R417). -/
def State.cryptoUsed (s : State) (c : Ctx) : State := s.modCluster (c.core / 16) (fun k => { k with cryptoUse := s.now })

/-- ( s0 s1 k0 k1 -- t0 t1 ): the first entry of a pair is the deeper one (R97). -/
def aesForm (f : Word → Word → Word → Word → Word × Word) : Op :=
  { pops := 4, pushes := 2, feat := some 0,
    run := fun c args s => match args with
      | [k1, k0, s1, s0] => let t := f s0 s1 k0 k1; (s.cryptoUsed c, .ok [t.2, t.1])
      | _ => (s, .own) }

/-- ( a b -- r ), an instruction whose use counts for the crypto leave (R417). -/
def cryptoForm (bit : Nat) (f : Word → Word → Word) : Op :=
  { pops := 2, pushes := 1, feat := some bit,
    run := fun c args s => match args with | [b, a] => (s.cryptoUsed c, .ok [f a b]) | _ => (s, .own) }

/-- AESE: R97. -/
def opAese : Op := aesForm aesEnc
def execAese (c : CoreId) (s : State) : Outcome State Fault Refusal := runOne c opAese s

/-- AESEL: R97. -/
def opAesel : Op := aesForm aesEncLast
def execAesel (c : CoreId) (s : State) : Outcome State Fault Refusal := runOne c opAesel s

/-- AESD: R97. -/
def opAesd : Op := aesForm aesDec
def execAesd (c : CoreId) (s : State) : Outcome State Fault Refusal := runOne c opAesd s

/-- AESDL: R97. -/
def opAesdl : Op := aesForm aesDecLast
def execAesdl (c : CoreId) (s : State) : Outcome State Fault Refusal := runOne c opAesdl s

/-- AESIMC: ( s0 s1 -- t0 t1 ) (R97). -/
def opAesimc : Op := 
  { pops := 2, pushes := 2, feat := some 0,
    run := fun c args s => match args with
      | [s1, s0] => let t := aesImc s0 s1; (s.cryptoUsed c, .ok [t.2, t.1])
      | _ => (s, .own) }
def execAesimc (c : CoreId) (s : State) : Outcome State Fault Refusal := runOne c opAesimc s

/-- AESKG: ( w rc -- w' ) (R97). -/
def opAeskg : Op := cryptoForm 0 aesKeyStep
def execAeskg (c : CoreId) (s : State) : Outcome State Fault Refusal := runOne c opAeskg s

/-- SHA256SIG0: R98. -/
def opSha256sig0 : Op := (op1 (sha256Shr 7 18 3)).gated 1
def execSha256sig0 (c : CoreId) (s : State) : Outcome State Fault Refusal := runOne c opSha256sig0 s

/-- SHA256SIG1: R98. -/
def opSha256sig1 : Op := (op1 (sha256Shr 17 19 10)).gated 1
def execSha256sig1 (c : CoreId) (s : State) : Outcome State Fault Refusal := runOne c opSha256sig1 s

/-- SHA256SUM0: R98. -/
def opSha256sum0 : Op := (op1 (sha256Rot 2 13 22)).gated 1
def execSha256sum0 (c : CoreId) (s : State) : Outcome State Fault Refusal := runOne c opSha256sum0 s

/-- SHA256SUM1: R98. -/
def opSha256sum1 : Op := (op1 (sha256Rot 6 11 25)).gated 1
def execSha256sum1 (c : CoreId) (s : State) : Outcome State Fault Refusal := runOne c opSha256sum1 s

/-- SHA512SIG0: R98. -/
def opSha512sig0 : Op := (op1 (sha512Shr 1 8 7)).gated 2
def execSha512sig0 (c : CoreId) (s : State) : Outcome State Fault Refusal := runOne c opSha512sig0 s

/-- SHA512SIG1: R98. -/
def opSha512sig1 : Op := (op1 (sha512Shr 19 61 6)).gated 2
def execSha512sig1 (c : CoreId) (s : State) : Outcome State Fault Refusal := runOne c opSha512sig1 s

/-- SHA512SUM0: R98. -/
def opSha512sum0 : Op := (op1 (sha512Rot 28 34 39)).gated 2
def execSha512sum0 (c : CoreId) (s : State) : Outcome State Fault Refusal := runOne c opSha512sum0 s

/-- SHA512SUM1: R98. -/
def opSha512sum1 : Op := (op1 (sha512Rot 14 18 41)).gated 2
def execSha512sum1 (c : CoreId) (s : State) : Outcome State Fault Refusal := runOne c opSha512sum1 s

/-- CLMUL: R99. -/
def opClmul : Op := cryptoForm 3 clmulLo
def execClmul (c : CoreId) (s : State) : Outcome State Fault Refusal := runOne c opClmul s

/-- CLMULH: R99. -/
def opClmulh : Op := cryptoForm 3 clmulHi
def execClmulh (c : CoreId) (s : State) : Outcome State Fault Refusal := runOne c opClmulh s

/-- CLZ: R100. -/
def opClz : Op := (op1 Machine.clz).gated 4
def execClz (c : CoreId) (s : State) : Outcome State Fault Refusal := runOne c opClz s

/-- CTZ: R100. -/
def opCtz : Op := (op1 Machine.ctz).gated 4
def execCtz (c : CoreId) (s : State) : Outcome State Fault Refusal := runOne c opCtz s

/-- POPC: R100. -/
def opPopc : Op := (op1 Machine.popc).gated 4
def execPopc (c : CoreId) (s : State) : Outcome State Fault Refusal := runOne c opPopc s

/-- BSWAP: R100. -/
def opBswap : Op := (op1 Machine.bswap).gated 4
def execBswap (c : CoreId) (s : State) : Outcome State Fault Refusal := runOne c opBswap s

/-- BREV: R100. -/
def opBrev : Op := (op1 Machine.brev).gated 4
def execBrev (c : CoreId) (s : State) : Outcome State Fault Refusal := runOne c opBrev s

/-- ANDN: R100. -/
def opAndn : Op := (op2 (fun a b => a &&& ~~~b)).gated 4
def execAndn (c : CoreId) (s : State) : Outcome State Fault Refusal := runOne c opAndn s

/-- ORN: R100. -/
def opOrn : Op := (op2 (fun a b => a ||| ~~~b)).gated 4
def execOrn (c : CoreId) (s : State) : Outcome State Fault Refusal := runOne c opOrn s

/-- XNOR: R100. -/
def opXnor : Op := (op2 (fun a b => ~~~(a ^^^ b))).gated 4
def execXnor (c : CoreId) (s : State) : Outcome State Fault Refusal := runOne c opXnor s

/-- MINS: R100. -/
def opMins : Op := (op2 Machine.mins).gated 4
def execMins (c : CoreId) (s : State) : Outcome State Fault Refusal := runOne c opMins s

/-- MAXS: R100. -/
def opMaxs : Op := (op2 Machine.maxs).gated 4
def execMaxs (c : CoreId) (s : State) : Outcome State Fault Refusal := runOne c opMaxs s

/-- MINU: R100. -/
def opMinu : Op := (op2 Machine.minu).gated 4
def execMinu (c : CoreId) (s : State) : Outcome State Fault Refusal := runOne c opMinu s

/-- MAXU: R100. -/
def opMaxu : Op := (op2 Machine.maxu).gated 4
def execMaxu (c : CoreId) (s : State) : Outcome State Fault Refusal := runOne c opMaxu s

/-- BCH: R100. -/
def opBch : Op := (op3 Machine.bch).gated 4
def execBch (c : CoreId) (s : State) : Outcome State Fault Refusal := runOne c opBch s

/-- BMAJ: R100. -/
def opBmaj : Op := (op3 Machine.bmaj).gated 4
def execBmaj (c : CoreId) (s : State) : Outcome State Fault Refusal := runOne c opBmaj s

/-- BFX: ( a ctl -- field ) (R101). -/
def opBfx : Op := (op2 Machine.bfx).gated 4
def execBfx (c : CoreId) (s : State) : Outcome State Fault Refusal := runOne c opBfx s

/-- SEAL_B: ( crc x -- crc' ) (R96). -/
def opSealB : Op := (op2 (sealN 1)).gated 5
def execSealB (c : CoreId) (s : State) : Outcome State Fault Refusal := runOne c opSealB s

/-- SEAL_H: ( crc x -- crc' ) (R96). -/
def opSealH : Op := (op2 (sealN 2)).gated 5
def execSealH (c : CoreId) (s : State) : Outcome State Fault Refusal := runOne c opSealH s

/-- SEAL_W: ( crc x -- crc' ) (R96). -/
def opSealW : Op := (op2 (sealN 4)).gated 5
def execSealW (c : CoreId) (s : State) : Outcome State Fault Refusal := runOne c opSealW s

/-- SEAL_D: ( crc x -- crc' ) (R96). -/
def opSealD : Op := (op2 (sealN 8)).gated 5
def execSealD (c : CoreId) (s : State) : Outcome State Fault Refusal := runOne c opSealD s

end Sys2Proof.Machine
end

