-- ==== Sys2Proof/Machine/ImmOps.lean ====
section
/-! DEFINITION. Classes 0x3 and 0x4: literals and operations with an immediate (R62 to R64). -/

namespace Sys2Proof.Machine

open Host

/-- LIT: ( -- v ), sign-extended (R62). -/
def opLit (v : BitVec 11) : Op := pureOp 0 1 (fun _ => [simm v])
def execLit (c : CoreId) (v : BitVec 11) (s : State) : Outcome State Fault Refusal := runOne c (opLit v) s

/-- The value of a long literal: the first immediate parcel is the least significant (R51, R63). -/
def litxValue (z : Bool) (imm : List (BitVec 16)) : Word :=
  let v := imm.foldr (fun p a => p.toNat + a * 65536) 0
  if z then BitVec.ofNat 64 v else sextN (16 * imm.length) v

/-- LITX: ( -- v ) (R63). -/
def opLitx (z : Bool) (imm : List (BitVec 16)) : Op := pureOp 0 1 (fun _ => [litxValue z imm])

/-- LITX is 2 bytes and 2 for each immediate parcel (R50). -/
def execLitx (c : CoreId) (z : Bool) (imm : List (BitVec 16)) (s : State) : Outcome State Fault Refusal :=
  if wfLitx z imm then .next (s.runOp c.val (2 + 2 * imm.length) (opLitx z imm)) else .fault .illFormed

/-- ADDI: R82. -/
def opAddi (imm : BitVec 8) : Op := alu1 (fun a => aluAdd a (simm imm))
def execAddi (c : CoreId) (imm : BitVec 8) (s : State) : Outcome State Fault Refusal := runOne c (opAddi imm) s

/-- ANDI: R64. -/
def opAndi (imm : BitVec 8) : Op := op1 (fun a => a &&& simm imm)
def execAndi (c : CoreId) (imm : BitVec 8) (s : State) : Outcome State Fault Refusal := runOne c (opAndi imm) s

/-- ORI: R64. -/
def opOri (imm : BitVec 8) : Op := op1 (fun a => a ||| simm imm)
def execOri (c : CoreId) (imm : BitVec 8) (s : State) : Outcome State Fault Refusal := runOne c (opOri imm) s

/-- XORI: R64. -/
def opXori (imm : BitVec 8) : Op := op1 (fun a => a ^^^ simm imm)
def execXori (c : CoreId) (imm : BitVec 8) (s : State) : Outcome State Fault Refusal := runOne c (opXori imm) s

/-- SHLI: R84. -/
def opShli (k : BitVec 6) : Op := op1 (fun a => Machine.shl a (k.setWidth 64))
def execShli (c : CoreId) (k : BitVec 6) (s : State) : Outcome State Fault Refusal := runOne c (opShli k) s

/-- SHRI: R84. -/
def opShri (k : BitVec 6) : Op := op1 (fun a => Machine.shr a (k.setWidth 64))
def execShri (c : CoreId) (k : BitVec 6) (s : State) : Outcome State Fault Refusal := runOne c (opShri k) s

/-- SARI: R84. -/
def opSari (k : BitVec 6) : Op := op1 (fun a => Machine.sar a (k.setWidth 64))
def execSari (c : CoreId) (k : BitVec 6) (s : State) : Outcome State Fault Refusal := runOne c (opSari k) s

/-- ROLI: R84. -/
def opRoli (k : BitVec 6) : Op := op1 (fun a => Machine.rol a (k.setWidth 64))
def execRoli (c : CoreId) (k : BitVec 6) (s : State) : Outcome State Fault Refusal := runOne c (opRoli k) s

/-- EQI: R85. -/
def opEqi (imm : BitVec 8) : Op := op1 (fun a => flagWord (decide (a = simm imm)))
def execEqi (c : CoreId) (imm : BitVec 8) (s : State) : Outcome State Fault Refusal := runOne c (opEqi imm) s

/-- NEI: R85. -/
def opNei (imm : BitVec 8) : Op := op1 (fun a => flagWord (decide (a ≠ simm imm)))
def execNei (c : CoreId) (imm : BitVec 8) (s : State) : Outcome State Fault Refusal := runOne c (opNei imm) s

/-- LTI: R85. -/
def opLti (imm : BitVec 8) : Op := op1 (fun a => flagWord (a.slt (simm imm)))
def execLti (c : CoreId) (imm : BitVec 8) (s : State) : Outcome State Fault Refusal := runOne c (opLti imm) s

/-- LTUI: R85. -/
def opLtui (imm : BitVec 8) : Op := op1 (fun a => flagWord (a.ult (simm imm)))
def execLtui (c : CoreId) (imm : BitVec 8) (s : State) : Outcome State Fault Refusal := runOne c (opLtui imm) s

/-- MULI: R82. -/
def opMuli (imm : BitVec 8) : Op := alu1 (fun a => aluMul a (simm imm))
def execMuli (c : CoreId) (imm : BitVec 8) (s : State) : Outcome State Fault Refusal := runOne c (opMuli imm) s

end Sys2Proof.Machine
end

