-- ==== Sys2Proof/Machine/IntOps.lean ====
section
/-! DEFINITION. Class 0x1: integer operate (R60, R82 to R89). -/

namespace Sys2Proof.Machine

open Host

/-- ADD: R82. -/
def opAdd : Op := alu2 aluAdd
def execAdd (c : CoreId) (s : State) : Outcome State Fault Refusal := runOne c opAdd s

/-- SUB: R82. -/
def opSub : Op := alu2 aluSub
def execSub (c : CoreId) (s : State) : Outcome State Fault Refusal := runOne c opSub s

/-- NEG: R82. -/
def opNeg : Op := alu1 aluNeg
def execNeg (c : CoreId) (s : State) : Outcome State Fault Refusal := runOne c opNeg s

/-- AND: R83. -/
def opAnd : Op := op2 (fun a b => a &&& b)
def execAnd (c : CoreId) (s : State) : Outcome State Fault Refusal := runOne c opAnd s

/-- OR: R83. -/
def opOr : Op := op2 (fun a b => a ||| b)
def execOr (c : CoreId) (s : State) : Outcome State Fault Refusal := runOne c opOr s

/-- XOR: R83. -/
def opXor : Op := op2 (fun a b => a ^^^ b)
def execXor (c : CoreId) (s : State) : Outcome State Fault Refusal := runOne c opXor s

/-- NOT: R83. -/
def opNot : Op := op1 (fun a => ~~~a)
def execNot (c : CoreId) (s : State) : Outcome State Fault Refusal := runOne c opNot s

/-- SHL: R84. -/
def opShl : Op := op2 Machine.shl
def execShl (c : CoreId) (s : State) : Outcome State Fault Refusal := runOne c opShl s

/-- SHR: R84. -/
def opShr : Op := op2 Machine.shr
def execShr (c : CoreId) (s : State) : Outcome State Fault Refusal := runOne c opShr s

/-- SAR: R84. -/
def opSar : Op := op2 Machine.sar
def execSar (c : CoreId) (s : State) : Outcome State Fault Refusal := runOne c opSar s

/-- ROL: R84. -/
def opRol : Op := op2 Machine.rol
def execRol (c : CoreId) (s : State) : Outcome State Fault Refusal := runOne c opRol s

/-- ROR: R84. -/
def opRor : Op := op2 Machine.ror
def execRor (c : CoreId) (s : State) : Outcome State Fault Refusal := runOne c opRor s

/-- SEXTB: R83. -/
def opSextb : Op := op1 (fun a => (a.setWidth 8).signExtend 64)
def execSextb (c : CoreId) (s : State) : Outcome State Fault Refusal := runOne c opSextb s

/-- SEXTH: R83. -/
def opSexth : Op := op1 (fun a => (a.setWidth 16).signExtend 64)
def execSexth (c : CoreId) (s : State) : Outcome State Fault Refusal := runOne c opSexth s

/-- SEXTW: R83. -/
def opSextw : Op := op1 (fun a => (a.setWidth 32).signExtend 64)
def execSextw (c : CoreId) (s : State) : Outcome State Fault Refusal := runOne c opSextw s

/-- ZEXTW: R83. -/
def opZextw : Op := op1 (fun a => (a.setWidth 32).setWidth 64)
def execZextw (c : CoreId) (s : State) : Outcome State Fault Refusal := runOne c opZextw s

/-- MUL: R82. -/
def opMul : Op := alu2 aluMul
def execMul (c : CoreId) (s : State) : Outcome State Fault Refusal := runOne c opMul s

/-- MULHS: R86. -/
def opMulhs : Op := op2 mulHS
def execMulhs (c : CoreId) (s : State) : Outcome State Fault Refusal := runOne c opMulhs s

/-- MULHU: R86. -/
def opMulhu : Op := op2 mulHU
def execMulhu (c : CoreId) (s : State) : Outcome State Fault Refusal := runOne c opMulhu s

/-- DIV: R86. -/
def opDiv : Op := alu2 aluDiv
def execDiv (c : CoreId) (s : State) : Outcome State Fault Refusal := runOne c opDiv s

/-- DIVU: R86. -/
def opDivu : Op := alu2 aluDivu
def execDivu (c : CoreId) (s : State) : Outcome State Fault Refusal := runOne c opDivu s

/-- REM: R86. -/
def opRem : Op := alu2 aluRem
def execRem (c : CoreId) (s : State) : Outcome State Fault Refusal := runOne c opRem s

/-- REMU: R86. -/
def opRemu : Op := alu2 aluRemu
def execRemu (c : CoreId) (s : State) : Outcome State Fault Refusal := runOne c opRemu s

/-- EQ: R85. -/
def opEq : Op := op2 (fun a b => flagWord (decide (a = b)))
def execEq (c : CoreId) (s : State) : Outcome State Fault Refusal := runOne c opEq s

/-- NE: R85. -/
def opNe : Op := op2 (fun a b => flagWord (decide (a ≠ b)))
def execNe (c : CoreId) (s : State) : Outcome State Fault Refusal := runOne c opNe s

/-- LT: R85. -/
def opLt : Op := op2 (fun a b => flagWord (a.slt b))
def execLt (c : CoreId) (s : State) : Outcome State Fault Refusal := runOne c opLt s

/-- GE: R85. -/
def opGe : Op := op2 (fun a b => flagWord (b.sle a))
def execGe (c : CoreId) (s : State) : Outcome State Fault Refusal := runOne c opGe s

/-- LTU: R85. -/
def opLtu : Op := op2 (fun a b => flagWord (a.ult b))
def execLtu (c : CoreId) (s : State) : Outcome State Fault Refusal := runOne c opLtu s

/-- GEU: R85. -/
def opGeu : Op := op2 (fun a b => flagWord (b.ule a))
def execGeu (c : CoreId) (s : State) : Outcome State Fault Refusal := runOne c opGeu s

/-- GT: R85. -/
def opGt : Op := op2 (fun a b => flagWord (b.slt a))
def execGt (c : CoreId) (s : State) : Outcome State Fault Refusal := runOne c opGt s

/-- LE: R85. -/
def opLe : Op := op2 (fun a b => flagWord (a.sle b))
def execLe (c : CoreId) (s : State) : Outcome State Fault Refusal := runOne c opLe s

/-- GTU: R85. -/
def opGtu : Op := op2 (fun a b => flagWord (b.ult a))
def execGtu (c : CoreId) (s : State) : Outcome State Fault Refusal := runOne c opGtu s

/-- LEU: R85. -/
def opLeu : Op := op2 (fun a b => flagWord (a.ule b))
def execLeu (c : CoreId) (s : State) : Outcome State Fault Refusal := runOne c opLeu s

/-- EQZ: R85. -/
def opEqz : Op := op1 (fun a => flagWord (decide (a = 0#64)))
def execEqz (c : CoreId) (s : State) : Outcome State Fault Refusal := runOne c opEqz s

/-- NEZ: R85. -/
def opNez : Op := op1 (fun a => flagWord (decide (a ≠ 0#64)))
def execNez (c : CoreId) (s : State) : Outcome State Fault Refusal := runOne c opNez s

/-- LTZ: R85. -/
def opLtz : Op := op1 (fun a => flagWord a.msb)
def execLtz (c : CoreId) (s : State) : Outcome State Fault Refusal := runOne c opLtz s

/-- GEZ: R85. -/
def opGez : Op := op1 (fun a => flagWord (!a.msb))
def execGez (c : CoreId) (s : State) : Outcome State Fault Refusal := runOne c opGez s

/-- SEL: R85. -/
def opSel : Op := op3 (fun a b c => if c ≠ 0#64 then a else b)
def execSel (c : CoreId) (s : State) : Outcome State Fault Refusal := runOne c opSel s

end Sys2Proof.Machine
end

