-- ==== Sys2Proof/Machine/MaintOps.lean ====
section
/-! DEFINITION. Class 0xE: barriers, synchronisation and cache maintenance (R73, R135, R136, R194, R215 to R219). -/

namespace Sys2Proof.Machine

open Host

/-- The end of an operation without results: its fault, if any. -/
def voidOp (x : State × Option FaultInfo) : State × OpRes :=
  match x with
  | (s, some f) => (s, .trap f false)
  | (s, none) => (s, .ok [])

/-- An SBAR (R194): the next entry waits for every earlier one and for every acceptance. -/
def State.sbarOp (s : State) (core : Nat) : State :=
  let k := s.core core
  if k.sb = [] ∧ k.posted = [] then s else s.modCore core (fun k => { k with sbar := true })

/-- What ISYNC adds to CSYNC (R136): earlier ICLEANs completed, the line buffer invalid. -/
def State.isyncOp (s : State) (c : Ctx) : State :=
  let s := s.syncPoint c.core
  let n := youngest (fun e => decide (e.kind = .iclean)) (s.core c.core).sb
  (State.drainN c n s).modCore c.core (fun k => { k with lineBuf := none })

/-- LBAR: R194: every earlier load has returned. -/
def opLbar : Op := { run := fun c _ s => (s.loadsDone c.core, .ok []) }
def execLbar (c : CoreId) (s : State) : Outcome State Fault Refusal := runOne c opLbar s

/-- SBAR: R194. -/
def opSbar : Op := { run := fun c _ s => (s.sbarOp c.core, .ok []) }
def execSbar (c : CoreId) (s : State) : Outcome State Fault Refusal := runOne c opSbar s

/-- MBAR: R194. -/
def opMbar : Op := { run := fun c _ s => (s.fullBarrier c, .ok []) }
def execMbar (c : CoreId) (s : State) : Outcome State Fault Refusal := runOne c opMbar s

/-- ISYNC: R136. -/
def opIsync : Op := { run := fun c _ s => (s.isyncOp c, .ok []) }
def execIsync (c : CoreId) (s : State) : Outcome State Fault Refusal := runOne c opIsync s

/-- CSYNC: R135. -/
def opCsync : Op := { run := fun c _ s => (s.syncPoint c.core, .ok []) }
def execCsync (c : CoreId) (s : State) : Outcome State Fault Refusal := runOne c opCsync s

/-- DCLEAN: R215. -/
def opDclean : Op := 
  { pops := 1, run := fun c args s => voidOp (s.lineVA c .clean (args.headD 0#64).toNat) }
def execDclean (c : CoreId) (s : State) : Outcome State Fault Refusal := runOne c opDclean s

/-- DFLUSH: R215. -/
def opDflush : Op := 
  { pops := 1, run := fun c args s => voidOp (s.lineVA c .flush (args.headD 0#64).toNat) }
def execDflush (c : CoreId) (s : State) : Outcome State Fault Refusal := runOne c opDflush s

/-- DINV: R215, R218; at the top level only (R73). -/
def opDinv : Op := 
  { pops := 1, priv := privHW, run := fun c args s => voidOp (s.lineVA c .inv (args.headD 0#64).toNat) }
def execDinv (c : CoreId) (s : State) : Outcome State Fault Refusal := runOne c opDinv s

/-- ICLEAN: R215. -/
def opIclean : Op := 
  { pops := 1, run := fun c args s => voidOp (s.lineVA c .iclean (args.headD 0#64).toNat) }
def execIclean (c : CoreId) (s : State) : Outcome State Fault Refusal := runOne c opIclean s

/-- PREFR: R219: never faults. -/
def opPrefr : Op := 
  { pops := 1, run := fun c args s => (s.prefetchVA c false (args.headD 0#64).toNat, .ok []) }
def execPrefr (c : CoreId) (s : State) : Outcome State Fault Refusal := runOne c opPrefr s

/-- PREFW: R219: never faults. -/
def opPrefw : Op := 
  { pops := 1, run := fun c args s => (s.prefetchVA c true (args.headD 0#64).toNat, .ok []) }
def execPrefw (c : CoreId) (s : State) : Outcome State Fault Refusal := runOne c opPrefw s

/-- DCLEAN_R: ( addr len -- ) (R216). -/
def opDcleanR : Op := 
  { pops := 2,
    run := fun c args s => match args with | [n, a] => voidOp (s.rangeVA c .clean a.toNat n.toNat) | _ => (s, .own) }
def execDcleanR (c : CoreId) (s : State) : Outcome State Fault Refusal := runOne c opDcleanR s

/-- DFLUSH_R: ( addr len -- ) (R216). -/
def opDflushR : Op := 
  { pops := 2,
    run := fun c args s => match args with | [n, a] => voidOp (s.rangeVA c .flush a.toNat n.toNat) | _ => (s, .own) }
def execDflushR (c : CoreId) (s : State) : Outcome State Fault Refusal := runOne c opDflushR s

/-- DINV_R: ( addr len -- ) (R216, R218); at the top level only (R73). -/
def opDinvR : Op := 
  { pops := 2, priv := privHW,
    run := fun c args s => match args with | [n, a] => voidOp (s.rangeVA c .inv a.toNat n.toNat) | _ => (s, .own) }
def execDinvR (c : CoreId) (s : State) : Outcome State Fault Refusal := runOne c opDinvR s

/-- ICLEAN_R: ( addr len -- ) (R216). -/
def opIcleanR : Op := 
  { pops := 2,
    run := fun c args s => match args with | [n, a] => voidOp (s.rangeVA c .iclean a.toNat n.toNat) | _ => (s, .own) }
def execIcleanR (c : CoreId) (s : State) : Outcome State Fault Refusal := runOne c opIcleanR s

end Sys2Proof.Machine
end

