-- ==== Sys2Proof/Machine/MemOps.lean ====
section
/-! DEFINITION. Classes 0x5 to 0x7: locals, loads and stores (R65, R66, R81, R90 to R92). -/

namespace Sys2Proof.Machine

open Host

/-- A load of `n` bytes at an address (R90): zero- or sign-extended. -/
def State.loadOp (s : State) (c : Ctx) (ea : Word) (n : Nat) (sx : Bool) : State × OpRes :=
  match s.loadVA c ea.toNat n none with
  | (s, .error f) => (s, .trap f false)
  | (s, .ok v) => (s, .ok [if sx then sextN (8 * n) v else BitVec.ofNat 64 v])

/-- A store of the low `n` bytes of a value at an address (R90). -/
def State.storeOp (s : State) (c : Ctx) (ea : Word) (n : Nat) (x : Word) : State × OpRes :=
  match s.storeVA c ea.toNat n x with
  | (s, some f) => (s, .trap f false)
  | (s, none) => (s, .ok [])

/-- The displacement of a load or store: d times the size (R66). -/
def dispOf (d : BitVec 9) (n : Nat) : Word := simm d * BitVec.ofNat 64 n

/-- ( addr -- x ) -/
def loadForm (n : Nat) (sx : Bool) (d : BitVec 9) : Op :=
  { pops := 1, pushes := 1, run := fun c args s => s.loadOp c (args.headD 0#64 + dispOf d n) n sx }

/-- ( x addr -- ) -/
def storeForm (n : Nat) (d : BitVec 9) : Op :=
  { pops := 2, run := fun c args s => match args with | [a, x] => s.storeOp c (a + dispOf d n) n x | _ => (s, .own) }

/-- The byte offset of a local (R65). -/
def localOff (u : BitVec 10) : Word := BitVec.ofNat 64 (8 * u.toNat)

/-- LDL: ( -- x ), the double at FP + 8u (R81). -/
def opLdl (u : BitVec 10) : Op := 
  { pushes := 1, run := fun c _ s => s.loadOp c ((s.core c.core).fp + localOff u) 8 false }
def execLdl (c : CoreId) (u : BitVec 10) (s : State) : Outcome State Fault Refusal := runOne c (opLdl u) s

/-- STL: ( x -- ), to FP + 8u (R81). -/
def opStl (u : BitVec 10) : Op := 
  { pops := 1, run := fun c args s => s.storeOp c ((s.core c.core).fp + localOff u) 8 (args.headD 0#64) }
def execStl (c : CoreId) (u : BitVec 10) (s : State) : Outcome State Fault Refusal := runOne c (opStl u) s

/-- LAL: ( -- FP + 8u ) (R81). -/
def opLal (u : BitVec 10) : Op := 
  { pushes := 1, run := fun c _ s => (s, .ok [(s.core c.core).fp + localOff u]) }
def execLal (c : CoreId) (u : BitVec 10) (s : State) : Outcome State Fault Refusal := runOne c (opLal u) s

/-- LDB: R90. -/
def opLdb (d : BitVec 9) : Op := loadForm 1 false d
def execLdb (c : CoreId) (d : BitVec 9) (s : State) : Outcome State Fault Refusal := runOne c (opLdb d) s

/-- LDBS: R90. -/
def opLdbs (d : BitVec 9) : Op := loadForm 1 true d
def execLdbs (c : CoreId) (d : BitVec 9) (s : State) : Outcome State Fault Refusal := runOne c (opLdbs d) s

/-- LDH: R90. -/
def opLdh (d : BitVec 9) : Op := loadForm 2 false d
def execLdh (c : CoreId) (d : BitVec 9) (s : State) : Outcome State Fault Refusal := runOne c (opLdh d) s

/-- LDHS: R90. -/
def opLdhs (d : BitVec 9) : Op := loadForm 2 true d
def execLdhs (c : CoreId) (d : BitVec 9) (s : State) : Outcome State Fault Refusal := runOne c (opLdhs d) s

/-- LDW: R90. -/
def opLdw (d : BitVec 9) : Op := loadForm 4 false d
def execLdw (c : CoreId) (d : BitVec 9) (s : State) : Outcome State Fault Refusal := runOne c (opLdw d) s

/-- LDWS: R90. -/
def opLdws (d : BitVec 9) : Op := loadForm 4 true d
def execLdws (c : CoreId) (d : BitVec 9) (s : State) : Outcome State Fault Refusal := runOne c (opLdws d) s

/-- LDD: R90. -/
def opLdd (d : BitVec 9) : Op := loadForm 8 false d
def execLdd (c : CoreId) (d : BitVec 9) (s : State) : Outcome State Fault Refusal := runOne c (opLdd d) s

/-- STB: R90. -/
def opStb (d : BitVec 9) : Op := storeForm 1 d
def execStb (c : CoreId) (d : BitVec 9) (s : State) : Outcome State Fault Refusal := runOne c (opStb d) s

/-- STH: R90. -/
def opSth (d : BitVec 9) : Op := storeForm 2 d
def execSth (c : CoreId) (d : BitVec 9) (s : State) : Outcome State Fault Refusal := runOne c (opSth d) s

/-- STW: R90. -/
def opStw (d : BitVec 9) : Op := storeForm 4 d
def execStw (c : CoreId) (d : BitVec 9) (s : State) : Outcome State Fault Refusal := runOne c (opStw d) s

/-- STD: R90. -/
def opStd (d : BitVec 9) : Op := storeForm 8 d
def execStd (c : CoreId) (d : BitVec 9) (s : State) : Outcome State Fault Refusal := runOne c (opStd d) s

end Sys2Proof.Machine
end

