-- ==== Sys2Proof/Machine/StackOps.lean ====
section
/-! DEFINITION. Class 0x0: stack manipulation, LR and FP (R59, R80). Operand lists are top first. -/

namespace Sys2Proof.Machine

open Host

/-- NOP: ( -- ) (R59). -/
def opNop : Op := pureOp 0 0 (fun _ => [])
def execNop (c : CoreId) (s : State) : Outcome State Fault Refusal := runOne c opNop s

/-- DUP: ( a -- a a ) (R59). -/
def opDup : Op := pureOp 1 2 (fun l => match l with | [a] => [a, a] | _ => l)
def execDup (c : CoreId) (s : State) : Outcome State Fault Refusal := runOne c opDup s

/-- DROP: ( a -- ) (R59). -/
def opDrop : Op := pureOp 1 0 (fun _ => [])
def execDrop (c : CoreId) (s : State) : Outcome State Fault Refusal := runOne c opDrop s

/-- SWAP: ( a b -- b a ) (R59). -/
def opSwap : Op := pureOp 2 2 (fun l => match l with | [b, a] => [a, b] | _ => l)
def execSwap (c : CoreId) (s : State) : Outcome State Fault Refusal := runOne c opSwap s

/-- OVER: ( a b -- a b a ) (R59). -/
def opOver : Op := pureOp 2 3 (fun l => match l with | [b, a] => [a, b, a] | _ => l)
def execOver (c : CoreId) (s : State) : Outcome State Fault Refusal := runOne c opOver s

/-- ROT: ( a b c -- b c a ) (R59). -/
def opRot : Op := pureOp 3 3 (fun l => match l with | [c, b, a] => [a, c, b] | _ => l)
def execRot (c : CoreId) (s : State) : Outcome State Fault Refusal := runOne c opRot s

/-- NROT: ( a b c -- c a b ) (R59). -/
def opNrot : Op := pureOp 3 3 (fun l => match l with | [c, b, a] => [b, a, c] | _ => l)
def execNrot (c : CoreId) (s : State) : Outcome State Fault Refusal := runOne c opNrot s

/-- NIP: ( a b -- b ) (R59). -/
def opNip : Op := pureOp 2 1 (fun l => match l with | [b, _] => [b] | _ => l)
def execNip (c : CoreId) (s : State) : Outcome State Fault Refusal := runOne c opNip s

/-- TUCK: ( a b -- b a b ) (R59). -/
def opTuck : Op := pureOp 2 3 (fun l => match l with | [b, a] => [b, a, b] | _ => l)
def execTuck (c : CoreId) (s : State) : Outcome State Fault Refusal := runOne c opTuck s

/-- DUP2: ( a b -- a b a b ) (R59). -/
def opDup2 : Op := pureOp 2 4 (fun l => match l with | [b, a] => [b, a, b, a] | _ => l)
def execDup2 (c : CoreId) (s : State) : Outcome State Fault Refusal := runOne c opDup2 s

/-- DROP2: ( a b -- ) (R59). -/
def opDrop2 : Op := pureOp 2 0 (fun _ => [])
def execDrop2 (c : CoreId) (s : State) : Outcome State Fault Refusal := runOne c opDrop2 s

/-- SWAP2: ( a b c d -- c d a b ) (R59). -/
def opSwap2 : Op := pureOp 4 4 (fun l => match l with | [d, c, b, a] => [b, a, d, c] | _ => l)
def execSwap2 (c : CoreId) (s : State) : Outcome State Fault Refusal := runOne c opSwap2 s

/-- OVER2: ( a b c d -- a b c d a b ) (R59). -/
def opOver2 : Op := pureOp 4 6 (fun l => match l with | [d, c, b, a] => [b, a, d, c, b, a] | _ => l)
def execOver2 (c : CoreId) (s : State) : Outcome State Fault Refusal := runOne c opOver2 s

/-- The logical depth (R80), taken before the push; the manual gives none where OSP lies below OSB: an open value. -/
def State.depth (s : State) (c : Ctx) : Word × State :=
  let k := s.core c.core
  let b := k.bank c.lvl
  if b.osp.toNat < b.osb.toNat then s.openWord
  else (BitVec.ofNat 64 ((b.osp.toNat - b.osb.toNat) / 8 + k.stack.length), s)

/-- DEPTH: ( -- d ), the depth before the push (R80). -/
def opDepth : Op := 
  { pushes := 1, run := fun c _ s => let (d, s) := s.depth c; (s, .ok [d]) }
def execDepth (c : CoreId) (s : State) : Outcome State Fault Refusal := runOne c opDepth s

/-- PUSHLR: ( -- lr ) (R80). -/
def opPushlr : Op := 
  { pushes := 1, run := fun c _ s => (s, .ok [(s.core c.core).lr]) }
def execPushlr (c : CoreId) (s : State) : Outcome State Fault Refusal := runOne c opPushlr s

/-- POPLR: ( lr -- ), any value (R80). -/
def opPoplr : Op := 
  { pops := 1, run := fun c args s => (s.modCore c.core (fun k => { k with lr := args.headD 0#64 }), .ok []) }
def execPoplr (c : CoreId) (s : State) : Outcome State Fault Refusal := runOne c opPoplr s

/-- PUSHFP: ( -- fp ) (R80). -/
def opPushfp : Op := 
  { pushes := 1, run := fun c _ s => (s, .ok [(s.core c.core).fp]) }
def execPushfp (c : CoreId) (s : State) : Outcome State Fault Refusal := runOne c opPushfp s

/-- POPFP: ( fp -- ), any value (R80). -/
def opPopfp : Op := 
  { pops := 1, run := fun c args s => (s.modCore c.core (fun k => { k with fp := args.headD 0#64 }), .ok []) }
def execPopfp (c : CoreId) (s : State) : Outcome State Fault Refusal := runOne c opPopfp s

/-- PICK: ( xk … x0 -- xk … x0 xk ); pops k + 1 and pushes k + 2 (R59). -/
def opPick (k : BitVec 4) : Op := pureOp (k.toNat + 1) (k.toNat + 2) (fun l => l.getD k.toNat 0#64 :: l)
def execPick (c : CoreId) (k : BitVec 4) (s : State) : Outcome State Fault Refusal := runOne c (opPick k) s

/-- PUT: ( xk … x0 v -- v … x0 ); pops k + 2 and pushes k + 1 (R59). -/
def opPut (k : BitVec 4) : Op := 
  pureOp (k.toNat + 2) (k.toNat + 1) (fun l => match l with | v :: t => t.take k.toNat ++ [v] | [] => [])
def execPut (c : CoreId) (k : BitVec 4) (s : State) : Outcome State Fault Refusal := runOne c (opPut k) s

/-- ROLL: ( xk xk−1 … x0 -- xk−1 … x0 xk ) (R59). -/
def opRoll (k : BitVec 4) : Op := 
  pureOp (k.toNat + 1) (k.toNat + 1) (fun l => l.getD k.toNat 0#64 :: l.take k.toNat)
def execRoll (c : CoreId) (k : BitVec 4) (s : State) : Outcome State Fault Refusal := runOne c (opRoll k) s

end Sys2Proof.Machine
end

