-- ==== Sys2Proof/Machine/SysOps.lean ====
section
/-! DEFINITION. System registers (R44, R45): the levels that may reach each, their values, and MFS and MTS (classes 0xC and 0xD). -/

namespace Sys2Proof.Machine

open Host

/-! ### Which numbers exist, and at which levels (R44, R158) -/

/-- The lowest level that may read a number, and the lowest that may write it (none: read-only); 0 is U, 1 K, 2 HW. A number
that names no register has none. -/
def sysLevels (uen : Bool) (n : Nat) : Option (Nat × Option Nat) :=
  if n = 0x000 then some (0, some 0)
  else if 0x001 ≤ n ∧ n ≤ 0x003 then some (0, some 0)
  else if 0x010 ≤ n ∧ n ≤ 0x012 then some (1, some 1)
  else if 0x014 ≤ n ∧ n ≤ 0x016 then some (2, some 2)
  else if 0x018 ≤ n ∧ n ≤ 0x01A then some (2, some 2)
  else if 0x030 ≤ n ∧ n ≤ 0x034 then some (1, some 1)
  else if 0x038 ≤ n ∧ n ≤ 0x03C then some (2, some 2)
  else if n = 0x040 then some (0, none)
  else if n = 0x041 then some (1, some 1)
  else if n = 0x042 then some (2, some 2)
  else if n = 0x048 then some (0, none)
  else if n = 0x049 then some (1, none)
  else if n = 0x04A then some (0, some 2)
  else if n = 0x04B then some (1, none)
  else if 0x050 ≤ n ∧ n ≤ 0x052 then some (1, some 1)
  else if 0x054 ≤ n ∧ n ≤ 0x056 then some (2, some 2)
  else if 0x058 ≤ n ∧ n ≤ 0x059 then some (1, some 1)
  else if 0x05C ≤ n ∧ n ≤ 0x05E then some (2, some 2)
  else if n = 0x060 then some (2, some 2)
  else if 0x0F0 ≤ n ∧ n ≤ 0x0F7 then some (0, none)
  else if n = 0x0F8 then some (2, some 2)
  else if 0x100 ≤ n ∧ n ≤ 0x107 then some (if uen then 0 else 1, some 1)
  else if 0x108 ≤ n ∧ n ≤ 0x10F then some (1, some 1)
  else if n = 0x110 then some (1, some 1)
  else if n = 0x111 then some (1, some 2)
  else if n = 0x112 then some (2, some 2)
  else none

/-- PMCTL.UEN of a core. -/
def State.uen (s : State) (core : Nat) : Bool := bitN (s.core core).perf.pmctl 8

/-- The check of a read (R44). -/
def privMfs (n : Nat) : Ctx → State → Option Nat := fun c s =>
  match sysLevels (s.uen c.core) n with
  | none => some 0x01
  | some (r, _) => if r ≤ c.lvl then none else some 0x02

/-- The check of a write (R44). -/
def privMts (n : Nat) : Ctx → State → Option Nat := fun c s =>
  match sysLevels (s.uen c.core) n with
  | none => some 0x01
  | some (_, none) => some 0x02
  | some (_, some w) => if w ≤ c.lvl then none else some 0x02

/-! ### Values -/

/-- FEAT_0 whole (R47). -/
def feat0 : Nat := 0x3439_04FF

/-- FEAT_1. -/
def feat1 : Nat := 0x44A01

/-- CORE_ID of a core: the die and the cluster within it, the core within the cluster. -/
def coreIdWord (core : Nat) : Word := BitVec.ofNat 64 (core / 16 / 12 * 2 ^ 16 + core / 16 % 12 * 2 ^ 8 + core % 16)

/-- A register of a bank: 0 OSB, 1 OSL, 2 OSP. -/
def Bank.get (b : Bank) (i : Nat) : Word := if i = 0 then b.osb else if i = 1 then b.osl else b.osp

/-- A register of a bank written; bits [2:0] read 0 (R30). -/
def Bank.put (b : Bank) (i : Nat) (v : Word) : Bank :=
  let v := v &&& 0xFFFFFFFFFFFFFFF8#64
  if i = 0 then { b with osb := v } else if i = 1 then { b with osl := v } else { b with osp := v }

/-- The value of a system register as a core at level `lvl` reads it. -/
def State.sysGet (s : State) (core lvl n : Nat) : Word :=
  let k := s.core core
  let p := k.perf
  if n = 0x000 then s.srOf core
  else if n ≤ 0x003 then (k.bank lvl).get (n - 1)
  else if n ≤ 0x012 then k.bankU.get (n - 0x010)
  else if n ≤ 0x016 then k.bankK.get (n - 0x014)
  else if n ≤ 0x01A then k.bankHW.get (n - 0x018)
  else if n = 0x030 then k.excK.epc
  else if n = 0x031 then k.excK.esr
  else if n = 0x032 then k.excK.ecause
  else if n = 0x033 then k.sync.evbK
  else if n = 0x034 then k.excK.escr
  else if n = 0x038 then k.excHW.epc
  else if n = 0x039 then k.excHW.esr
  else if n = 0x03A then k.excHW.ecause
  else if n = 0x03B then k.sync.evbHW
  else if n = 0x03C then k.excHW.escr
  else if n = 0x040 then s.tb
  else if n = 0x041 then k.tcmpK
  else if n = 0x042 then k.tcmpHW
  else if n = 0x048 then BitVec.ofNat 64 (s.cid (core / 16))
  else if n = 0x049 then coreIdWord core
  else if n = 0x04A then k.sync.ttag
  else if n = 0x04B then k.qid.setWidth 64
  else if n = 0x050 then k.sync.asid
  else if n = 0x051 then k.sync.ptbS1
  else if n = 0x052 then k.sync.tctlS1
  else if n = 0x054 then k.sync.vmid
  else if n = 0x055 then k.sync.ptbS2
  else if n = 0x056 then k.sync.tctlS2
  else if n = 0x058 then k.excK.fsyn
  else if n = 0x059 then k.excK.faddr
  else if n = 0x05C then k.excHW.fsyn
  else if n = 0x05D then k.excHW.faddr
  else if n = 0x05E then k.excHW.fipa
  else if n = 0x060 then k.sync.coreCtl
  else if n = 0x0F0 then
    (if lvl < 2 then BitVec.ofNat 64 feat0 &&& (k.sync.fmask ||| 0xFFFFFFFFFFFFFFC0#64) else BitVec.ofNat 64 feat0)
  else if n = 0x0F1 then BitVec.ofNat 64 feat1
  else if n ≤ 0x0F7 then 0#64
  else if n = 0x0F8 then k.sync.fmask
  else if n ≤ 0x107 then
    let i := n - 0x100
    if p.reserved lvl i ∨ (lvl < 2 ∧ 0x80 ≤ fieldN (p.pmsel.getD i 0#64) 0 8) then 0#64 else p.pmc.getD i 0#64
  else if n ≤ 0x10F then (if p.reserved lvl (n - 0x108) then 0#64 else p.pmsel.getD (n - 0x108) 0#64)
  else if n = 0x110 then p.pmovf &&& p.ovfMask lvl
  else if n = 0x111 then p.pmctl
  else if n = 0x112 then p.pmdtm
  else 0#64

/-- The bits of ESR (R522) and of ECAUSE that exist. -/
def esrMask : Word := 0x1F0F0F#64
def ecauseMask : Word := 0x3F7FFF#64

/-- A system register written by a core at level `lvl`: the fields that are writable there. -/
def Core.sysPut (k : Core) (lvl n : Nat) (v : Word) : Core :=
  if n = 0x000 then
    { k with v := bitN v 0, dz := bitN v 1, ovtrap := bitN v 2, dztrap := bitN v 3, ie := if lvl = 0 then k.ie else bitN v 11 }
  else if n ≤ 0x003 then k.setBank lvl ((k.bank lvl).put (n - 1) v)
  else if n ≤ 0x012 then { k with bankU := k.bankU.put (n - 0x010) v }
  else if n ≤ 0x016 then { k with bankK := k.bankK.put (n - 0x014) v }
  else if n ≤ 0x01A then { k with bankHW := k.bankHW.put (n - 0x018) v }
  else if n = 0x030 then { k with excK := { k.excK with epc := v } }
  else if n = 0x031 then { k with excK := { k.excK with esr := v &&& esrMask } }
  else if n = 0x032 then { k with excK := { k.excK with ecause := v &&& ecauseMask } }
  else if n = 0x033 then { k with sync := { k.sync with evbK := v &&& 0xFFFFFFFFFFFFF000#64 } }
  else if n = 0x034 then { k with excK := { k.excK with escr := v } }
  else if n = 0x038 then { k with excHW := { k.excHW with epc := v } }
  else if n = 0x039 then { k with excHW := { k.excHW with esr := v &&& esrMask } }
  else if n = 0x03A then { k with excHW := { k.excHW with ecause := v &&& ecauseMask } }
  else if n = 0x03B then { k with sync := { k.sync with evbHW := v &&& 0xFFFFFFFFFFFFF000#64 } }
  else if n = 0x03C then { k with excHW := { k.excHW with escr := v } }
  else if n = 0x041 then { k with tcmpK := v }
  else if n = 0x042 then { k with tcmpHW := v }
  else if n = 0x04A then { k with sync := { k.sync with ttag := v &&& 0xFFFF#64 } }
  else if n = 0x050 then { k with sync := { k.sync with asid := v &&& 0xFFFF#64 } }
  else if n = 0x051 then { k with sync := { k.sync with ptbS1 := v &&& 0xFFFFFFFFFF000#64 } }
  else if n = 0x052 then { k with sync := { k.sync with tctlS1 := v &&& 3#64 } }
  else if n = 0x054 then { k with sync := { k.sync with vmid := v &&& 0xFFFF#64 } }
  else if n = 0x055 then { k with sync := { k.sync with ptbS2 := v &&& 0xFFFFFFFFFFF80#64 } }
  else if n = 0x056 then { k with sync := { k.sync with tctlS2 := v &&& 1#64 } }
  else if n = 0x058 then { k with excK := { k.excK with fsyn := v &&& 0xFFF#64 } }
  else if n = 0x059 then { k with excK := { k.excK with faddr := v } }
  else if n = 0x05C then { k with excHW := { k.excHW with fsyn := v &&& 0x1FFF#64 } }
  else if n = 0x05D then { k with excHW := { k.excHW with faddr := v } }
  else if n = 0x05E then { k with excHW := { k.excHW with fipa := v &&& 0xFFFFFFFFFFFFF#64 } }
  else if n = 0x060 then { k with sync := { k.sync with coreCtl := v &&& 1#64 } }
  else if n = 0x0F8 then { k with sync := { k.sync with fmask := v &&& 0x3F#64 } }
  else if n = 0x110 ∨ n = 0x112 then { k with perf := k.perf.put lvl n v }
  else if 0x100 ≤ n ∧ n ≤ 0x111 then { k with perfNext := some (lvl, n, v) }
  else k

/-- Whether a number names a stack register of the current level (R39). -/
def curStackReg (lvl n : Nat) : Bool := (decide (0x001 ≤ n) && decide (n ≤ 0x003)) || (decide (2 ≤ lvl) && decide (0x018 ≤ n) && decide (n ≤ 0x01A))

/-- A write of a system register: one of the current level's stack registers first spills every remaining cached entry (R39). -/
def State.mtsOp (s : State) (c : Ctx) (n : Nat) (v : Word) : State × OpRes :=
  if curStackReg c.lvl n then
    match s.spillChecked c with
    | (s, some f) => (s, .trap f true)
    | (s, none) => (s.modCore c.core (fun k => k.sysPut c.lvl n v), .ok [])
  else (s.modCore c.core (fun k => k.sysPut c.lvl n v), .ok [])

/-- MFS: ( -- v ) (R41, R44): the value before the push. -/
def opMfs (n : BitVec 12) : Op :=
  { pushes := 1, priv := privMfs n.toNat, run := fun c _ s => (s, .ok [s.sysGet c.core c.lvl n.toNat]) }

def execMfs (c : CoreId) (n : BitVec 12) (s : State) : Outcome State Fault Refusal := runOne c (opMfs n) s

/-- MTS: ( v -- ) (R39, R44, R45). -/
def opMts (n : BitVec 12) : Op :=
  { pops := 1, priv := privMts n.toNat, run := fun c args s => s.mtsOp c n.toNat (args.headD 0#64) }

def execMts (c : CoreId) (n : BitVec 12) (s : State) : Outcome State Fault Refusal := runOne c (opMts n) s

end Sys2Proof.Machine
end

