-- ==== Sys2Proof/Machine/TlbOps.lean ====
section
/-! DEFINITION. Class 0xE: TLB maintenance (R73, R179, R180). -/

namespace Sys2Proof.Machine

open Host

/-- Whether an invalidation removes an entry (R179). A non-canonical VA covers nothing. -/
def invHits (i : TlbInv) (e : TlbEntry) : Bool :=
  let table := fun (st : Nat) => match e.kind with | .table x _ => decide (x = st) | _ => false
  let combined := decide (e.kind = .combined)
  let holds := fun (base a : Nat) => decide (base = a / 2 ^ e.size * 2 ^ e.size)
  match i with
  | .va vmid asid va => decide (e.vmid = vmid.toNat) &&
      (table 1 || (combined && canonical va.toNat && holds e.inp va.toNat && (e.glob || decide (e.asid = asid.toNat))))
  | .asid vmid asid => decide (e.vmid = vmid.toNat) && (table 1 || (combined && !e.glob && decide (e.asid = asid.toNat)))
  | .all vmid => decide (e.vmid = vmid.toNat) && (table 1 || combined)
  | .ipa vmid ipa => decide (e.vmid = vmid.toNat) &&
      (table 2 || (combined && holds e.ipa ipa.toNat) || (decide (e.kind = .s2page) && holds e.inp ipa.toNat))
  | .vmid vmid => decide (e.vmid = vmid.toNat)
  | .hall => true

/-- The matching entries of a cluster's TLBs removed. A non-canonical VA removes nothing at all. -/
def State.invCluster (s : State) (n : Nat) (i : TlbInv) : State :=
  let none' : Bool := match i with | .va _ _ va => !canonical va.toNat | _ => false
  if none' then s else s.modCluster n (fun k => { k with tlb := k.tlb.filter (fun e => !invHits i e) })

/-- Every received invalidation of a cluster completed (R180): matching entries removed, and every store of its cores that may have
used them drained. -/
def State.finishInv (s : State) (n : Nat) : State :=
  let s := (s.cluster n).inv.foldl (fun s i => s.invCluster n i) s
  let s := s.modCluster n (fun k => { k with inv := [] })
  foldN (fun core (s : State) => s.drainAll (s.ctx core)) (clusterCores n) s

/-- A cluster that a TLBSYNC of the core must wait for. -/
def State.invPend (s : State) (core n : Nat) : State :=
  s.modCore core (fun k => { k with tlbPend := if k.tlbPend.contains n then k.tlbPend else k.tlbPend ++ [n] })

/-- A TLBI (R179): the issuing cluster's TLBs, after the core's earlier stores. -/
def State.tlbi (s : State) (c : Ctx) (i : TlbInv) : State :=
  ((s.drainAll c).invCluster (c.core / 16) i).invPend c.core (c.core / 16)

/-- A TLBIB (R179, R180): the issuing cluster at once, and a broadcast to every other working cluster of the compartment; the
TLBs of one in SLEEP or DEEP are empty. -/
def State.tlbib (s : State) (c : Ctx) (i : TlbInv) : State :=
  let n := c.core / 16
  let s := s.tlbi c i
  ((s.clustersOf (s.cid n)).filter (fun m => decide (m ≠ n) && !s.isF (Reg.CMT_CLUSTER m) Fld.CMT_CLUSTER_FAILED && !s.asleep m)).foldl
    (fun s m => (s.modCluster m (fun k => { k with inv := k.inv ++ [i] })).invPend c.core m) s

/-- A TLBSYNC (R180): every invalidation of the core completes. -/
def State.tlbsync (s : State) (core : Nat) : State :=
  ((s.core core).tlbPend.foldl (fun s n => s.finishInv n) s).modCore core (fun k => { k with tlbPend := [] })

/-- The low 16 bits of an operand, and the low 52. -/
def op16 (args : List Word) : BitVec 16 := (args.headD 0#64).setWidth 16
def op52 (args : List Word) : BitVec 52 := (args.headD 0#64).setWidth 52

/-- The VMID and the ASID in effect, as the operations of K use them. -/
def Ctx.vmid16 (c : Ctx) : BitVec 16 := BitVec.ofNat 16 c.vmid
def Ctx.asid16 (c : Ctx) : BitVec 16 := BitVec.ofNat 16 c.asid

/-- TLBSYNC: R180. -/
def opTlbsync : Op := { priv := privK, run := fun c _ s => (s.tlbsync c.core, .ok []) }
def execTlbsync (c : CoreId) (s : State) : Outcome State Fault Refusal := runOne c opTlbsync s

/-- TLBI_VA: ( va -- ) (R179). -/
def opTlbiVa : Op := 
  { pops := 1, priv := privK, run := fun c args s => (s.tlbi c (.va c.vmid16 c.asid16 (args.headD 0#64)), .ok []) }
def execTlbiVa (c : CoreId) (s : State) : Outcome State Fault Refusal := runOne c opTlbiVa s

/-- TLBI_ASID: ( asid -- ) (R179). -/
def opTlbiAsid : Op := 
  { pops := 1, priv := privK, run := fun c args s => (s.tlbi c (.asid c.vmid16 (op16 args)), .ok []) }
def execTlbiAsid (c : CoreId) (s : State) : Outcome State Fault Refusal := runOne c opTlbiAsid s

/-- TLBI_ALL: R179. -/
def opTlbiAll : Op := 
  { priv := privK, run := fun c _ s => (s.tlbi c (.all c.vmid16), .ok []) }
def execTlbiAll (c : CoreId) (s : State) : Outcome State Fault Refusal := runOne c opTlbiAll s

/-- TLBI_IPA: ( ipa -- ) (R179). -/
def opTlbiIpa : Op := 
  { pops := 1, priv := privHW, run := fun c args s => (s.tlbi c (.ipa c.vmid16 (op52 args)), .ok []) }
def execTlbiIpa (c : CoreId) (s : State) : Outcome State Fault Refusal := runOne c opTlbiIpa s

/-- TLBI_VMID: ( vmid -- ) (R179). -/
def opTlbiVmid : Op := 
  { pops := 1, priv := privHW, run := fun c args s => (s.tlbi c (.vmid (op16 args)), .ok []) }
def execTlbiVmid (c : CoreId) (s : State) : Outcome State Fault Refusal := runOne c opTlbiVmid s

/-- TLBI_HALL: R179. -/
def opTlbiHall : Op := 
  { priv := privHW, run := fun c _ s => (s.tlbi c (.hall), .ok []) }
def execTlbiHall (c : CoreId) (s : State) : Outcome State Fault Refusal := runOne c opTlbiHall s

/-- TLBIB_VA: ( va -- ) (R179, R180). -/
def opTlbibVa : Op := 
  { pops := 1, priv := privK, run := fun c args s => (s.tlbib c (.va c.vmid16 c.asid16 (args.headD 0#64)), .ok []) }
def execTlbibVa (c : CoreId) (s : State) : Outcome State Fault Refusal := runOne c opTlbibVa s

/-- TLBIB_ASID: ( asid -- ) (R179, R180). -/
def opTlbibAsid : Op := 
  { pops := 1, priv := privK, run := fun c args s => (s.tlbib c (.asid c.vmid16 (op16 args)), .ok []) }
def execTlbibAsid (c : CoreId) (s : State) : Outcome State Fault Refusal := runOne c opTlbibAsid s

/-- TLBIB_ALL: R179, R180. -/
def opTlbibAll : Op := 
  { priv := privK, run := fun c _ s => (s.tlbib c (.all c.vmid16), .ok []) }
def execTlbibAll (c : CoreId) (s : State) : Outcome State Fault Refusal := runOne c opTlbibAll s

/-- TLBIB_IPA: ( ipa -- ) (R179, R180). -/
def opTlbibIpa : Op := 
  { pops := 1, priv := privHW, run := fun c args s => (s.tlbib c (.ipa c.vmid16 (op52 args)), .ok []) }
def execTlbibIpa (c : CoreId) (s : State) : Outcome State Fault Refusal := runOne c opTlbibIpa s

/-- TLBIB_VMID: ( vmid -- ) (R179, R180). -/
def opTlbibVmid : Op := 
  { pops := 1, priv := privHW, run := fun c args s => (s.tlbib c (.vmid (op16 args)), .ok []) }
def execTlbibVmid (c : CoreId) (s : State) : Outcome State Fault Refusal := runOne c opTlbibVmid s

/-- TLBIB_HALL: R179, R180. -/
def opTlbibHall : Op := 
  { priv := privHW, run := fun c _ s => (s.tlbib c (.hall), .ok []) }
def execTlbibHall (c : CoreId) (s : State) : Outcome State Fault Refusal := runOne c opTlbibHall s

/-- TLB_BROADCAST_RECEIVED (R180): a target cluster completes the invalidations it has received and acknowledges them. -/
def execTlbBroadcastReceived (n : ClusterId) (s : State) : Outcome State Fault Refusal :=
  if (s.cluster n.val).inv = [] then .next s else
  let s := s.finishInv n.val
  .next ((s.cores.map (fun e => e.1)).foldl
    (fun s core => s.modCore core (fun k => { k with tlbPend := k.tlbPend.filter (fun m => decide (m ≠ n.val)) })) s)

end Sys2Proof.Machine
end

