-- ==== Sys2Proof/Machine/FlowOps.lean ====
section
/-! DEFINITION. Control flow (classes 0x9 to 0xB): conditional branches with their delay slots, transfers, TRAP, HCALL and ERET
(R48, R68 to R71, R76 to R78, R104 to R110, R124), and the predictors that transfers update (R144 to R146). -/

namespace Sys2Proof.Machine

open Host

/-! ### Targets (R68) -/

/-- The byte displacement of a PC-relative transfer: field d supplies its low `w` bits, the immediate parcels the rest. -/
def dispWord (w d : Nat) (imm : List (BitVec 16)) : Word :=
  let v := d + imm.foldr (fun p a => p.toNat + a * 65536) 0 * 2 ^ w
  sextN (w + 16 * imm.length) v * 2#64

/-- The bytes of an instruction with `n` immediate parcels. -/
def lenWord (n : Nat) : Word := BitVec.ofNat 64 (2 + 2 * n)

/-- An address with bit 0 cleared (R26). -/
def evenPC (a : Word) : Word := a &&& 0xFFFFFFFFFFFFFFFE#64

/-! ### Predictors (R143 to R147): they never change a result -/

/-- The set of a branch target buffer entry. -/
def btbSet (pc : Word) : Nat := fieldN pc 1 8

/-- The tag of a branch target buffer entry. -/
def btbTag (pc : Word) : BitVec 12 := Config.btbHash (pc.extractLsb' 9 48)

/-- The target that the branch target buffer holds for an address. -/
def Core.btbLook (k : Core) (pc : Word) : Option Word :=
  (k.btb.find? (fun e => decide (e.set = btbSet pc) && decide (e.tag = btbTag pc))).map (fun e => e.target)

/-- A list without its last element that satisfies `p`. -/
def dropLastWhere {α : Type} (p : α → Bool) : List α → List α
  | [] => []
  | a :: t => if p a && !t.any p then t else a :: dropLastWhere p t

/-- A committed transfer written where its target was missing or different: a full set loses its oldest way (R144). The newest of two
entries with one tag is the one that a lookup finds. -/
def Core.btbPut (k : Core) (pc target : Word) : Core :=
  if k.btbLook pc = some target then k else
  let own := fun (e : BtbEntry) => decide (e.set = btbSet pc)
  { k with btb := ⟨btbSet pc, btbTag pc, target⟩ :: (if (k.btb.filter own).length < 4 then k.btb else dropLastWhere own k.btb) }

/-! ### Wrong paths (R147, R148) -/

/-- A line that a wrong path fetches: caches and TLBs may be filled; a failure leaves nothing. -/
def State.specFetch (s : State) (c : Ctx) (va : Word) : State :=
  match s.fetchRaw c va.toNat with
  | (t, .ok _) => t
  | (_, .error _) => s

/-- What the wrong path after a mispredicted transfer leaves: pushes and pops of the return stack, lines and translations of what it
fetches, and the speculative events; nothing in deterministic mode. What lies on it is open (log 65). -/
def State.wrongPath (s : State) (c : Ctx) : State :=
  if c.dtm then s else
  let m := s.free
  let s := (Config.wrongFetch m).foldl (fun s a => s.specFetch c a) s.tick
  s.modCore c.core (fun k => { k with
    rstack := (Config.wrongReturns m).foldl (fun l x => match x with | some a => (a :: l).take 16 | none => l.drop 1) k.rstack,
    perf := k.perf.timed true false k.lvl.toNat m })

/-- A taken transfer from `pc`: event 0x08 where the buffer held no target, and the buffer's write. In deterministic mode the
buffer is neither read nor written (R152). -/
def State.taken (s : State) (c : Ctx) (pc target : Word) : State :=
  if c.dtm then s.count c.core 0x08 1 else
  let s := if ((s.core c.core).btbLook pc).isNone then s.count c.core 0x08 1 else s
  s.modCore c.core (fun k => k.btbPut pc target)

/-- An indirect transfer's misprediction, event 0x09 (R145). -/
def State.indirect (s : State) (c : Ctx) (pc target : Word) : State :=
  if c.dtm = false ∧ (s.core c.core).btbLook pc ≠ some target then (s.count c.core 0x09 1).wrongPath c else s

/-- A return address pushed on the return stack (R146). -/
def State.pushReturn (s : State) (c : Ctx) (a : Word) : State :=
  if c.dtm then s else s.modCore c.core (fun k => { k with rstack := (a :: k.rstack).take 16 })

/-- A RET's prediction taken from the return stack; a wrong or missing one is event 0x09. -/
def State.popReturn (s : State) (c : Ctx) (target : Word) : State :=
  if c.dtm then s else
  let right := decide ((s.core c.core).rstack.head? = some target)
  let s := s.modCore c.core (fun k => { k with rstack := k.rstack.drop 1 })
  if right then s else (s.count c.core 0x09 1).wrongPath c

/-! ### Transfers (R109) -/

/-- BR: ( -- ) (R70, R109). -/
def opBr (d : BitVec 9) (imm : List (BitVec 16)) : Op :=
  { run := fun c _ s =>
      let pc := (s.core c.core).pc
      let t := evenPC (pc + dispWord 9 d.toNat imm)
      (s.taken c pc t, .jump [] t) }

def execBr (c : CoreId) (d : BitVec 9) (imm : List (BitVec 16)) (s : State) : Outcome State Fault Refusal :=
  if wfDisp imm then .next (s.runOp c.val (2 + 2 * imm.length) (opBr d imm)) else .fault .illFormed

/-- CALL: ( -- ), LR set to the address after the instruction (R48, R70, R109). -/
def opCall (d : BitVec 9) (imm : List (BitVec 16)) : Op :=
  { run := fun c _ s =>
      let pc := (s.core c.core).pc
      let t := evenPC (pc + dispWord 9 d.toNat imm)
      let ra := pc + lenWord imm.length
      (((s.taken c pc t).pushReturn c ra).modCore c.core (fun k => { k with lr := ra }), .jump [] t) }

def execCall (c : CoreId) (d : BitVec 9) (imm : List (BitVec 16)) (s : State) : Outcome State Fault Refusal :=
  if wfDisp imm then .next (s.runOp c.val (2 + 2 * imm.length) (opCall d imm)) else .fault .illFormed

/-- RET: ( -- ), to LR (R109). -/
def opRet : Op :=
  { run := fun c _ s => let t := evenPC (s.core c.core).lr; (s.popReturn c t, .jump [] t) }

def execRet (c : CoreId) (s : State) : Outcome State Fault Refusal := runOne c opRet s

/-- JMP: ( addr -- ) (R109). -/
def opJmp : Op :=
  { pops := 1, run := fun c args s =>
      let pc := (s.core c.core).pc
      let t := evenPC (args.headD 0#64)
      ((s.indirect c pc t).taken c pc t, .jump [] t) }

def execJmp (c : CoreId) (s : State) : Outcome State Fault Refusal := runOne c opJmp s

/-- CALLI: ( addr -- ), LR set to the next parcel's address (R109). Its return address has been pushed in D, before its checks. -/
def opCalli : Op :=
  { pops := 1, run := fun c args s =>
      let pc := (s.core c.core).pc
      let t := evenPC (args.headD 0#64)
      let ra := pc + 2#64
      (((s.indirect c pc t).taken c pc t).modCore c.core (fun k => { k with lr := ra }), .jump [] t) }

/-- A running core's instruction of one parcel that pushes its return address in D (R146), whatever its checks then find. -/
def State.pushInD (s : State) (core : Nat) : State :=
  if (s.core core).run = .running ∧ (s.boundary core).isNone then s.pushReturn (s.ctx core) ((s.core core).pc + 2#64) else s

def execCalli (c : CoreId) (s : State) : Outcome State Fault Refusal := runOne c opCalli (s.pushInD c.val)

/-! ### Level changes (R43, R119, R124) -/

/-- The entry of an instruction that requests one: EPC is the address after it (R119). -/
def State.request (s : State) (core cause : Nat) : State :=
  let pc := (s.core core).pc
  s.tick.takeExc core { f := plainFault cause, epc := pc + 2#64, opAddr := pc }

/-- TRAP: cause 0x30 to K of the same world; at U only (R43, R71). -/
def opTrap : Op := { priv := privU, run := fun c _ s => (s.request c.core 0x30, .own) }

def execTrap (c : CoreId) (s : State) : Outcome State Fault Refusal := runOne c opTrap s

/-- HCALL: cause 0x31 to H; at K of the normal world only (R43, R71). -/
def opHcall : Op := { priv := privNormalK, run := fun c _ s => (s.request c.core 0x31, .own) }

def execHcall (c : CoreId) (s : State) : Outcome State Fault Refusal := runOne c opHcall s

/-- ERET: back to the context that EPC and ESR of the level name; at K and above (R71, R124). -/
def opEret : Op :=
  { priv := privK,
    run := fun c _ s =>
      match s.eret c.core with
      | (s, some (f, stk)) => (s, .trap f stk)
      | (s, none) => (s, .own) }

def execEret (c : CoreId) (s : State) : Outcome State Fault Refusal := runOne c opEret s

/-! ### Conditional branches (R69, R76 to R78, R104 to R106) -/

/-- The operation of a delay slot's instruction; the forbidden ones (R77) never reach it. -/
def slotOp (i : Instr) : Op :=
  match i with
  | .nop _ => opNop
  | .dup _ => opDup
  | .drop _ => opDrop
  | .swap _ => opSwap
  | .over _ => opOver
  | .rot _ => opRot
  | .nrot _ => opNrot
  | .nip _ => opNip
  | .tuck _ => opTuck
  | .dup2 _ => opDup2
  | .drop2 _ => opDrop2
  | .swap2 _ => opSwap2
  | .over2 _ => opOver2
  | .depth _ => opDepth
  | .pushlr _ => opPushlr
  | .poplr _ => opPoplr
  | .pushfp _ => opPushfp
  | .popfp _ => opPopfp
  | .pick _ k => opPick k
  | .put _ k => opPut k
  | .roll _ k => opRoll k
  | .add _ => opAdd
  | .sub _ => opSub
  | .neg _ => opNeg
  | .and _ => opAnd
  | .or _ => opOr
  | .xor _ => opXor
  | .not _ => opNot
  | .shl _ => opShl
  | .shr _ => opShr
  | .sar _ => opSar
  | .rol _ => opRol
  | .ror _ => opRor
  | .sextb _ => opSextb
  | .sexth _ => opSexth
  | .sextw _ => opSextw
  | .zextw _ => opZextw
  | .mul _ => opMul
  | .mulhs _ => opMulhs
  | .mulhu _ => opMulhu
  | .div _ => opDiv
  | .divu _ => opDivu
  | .rem _ => opRem
  | .remu _ => opRemu
  | .eq _ => opEq
  | .ne _ => opNe
  | .lt _ => opLt
  | .ge _ => opGe
  | .ltu _ => opLtu
  | .geu _ => opGeu
  | .gt _ => opGt
  | .le _ => opLe
  | .gtu _ => opGtu
  | .leu _ => opLeu
  | .eqz _ => opEqz
  | .nez _ => opNez
  | .ltz _ => opLtz
  | .gez _ => opGez
  | .sel _ => opSel
  | .lit _ v => opLit v
  | .addi _ imm => opAddi imm
  | .andi _ imm => opAndi imm
  | .ori _ imm => opOri imm
  | .xori _ imm => opXori imm
  | .shli _ k => opShli k
  | .shri _ k => opShri k
  | .sari _ k => opSari k
  | .roli _ k => opRoli k
  | .eqi _ imm => opEqi imm
  | .nei _ imm => opNei imm
  | .lti _ imm => opLti imm
  | .ltui _ imm => opLtui imm
  | .muli _ imm => opMuli imm
  | .ldl _ u => opLdl u
  | .stl _ u => opStl u
  | .lal _ u => opLal u
  | .ldb _ d => opLdb d
  | .ldbs _ d => opLdbs d
  | .ldh _ d => opLdh d
  | .ldhs _ d => opLdhs d
  | .ldw _ d => opLdw d
  | .ldws _ d => opLdws d
  | .ldd _ d => opLdd d
  | .stb _ d => opStb d
  | .sth _ d => opSth d
  | .stw _ d => opStw d
  | .std _ d => opStd d
  | .axchg _ double far => opAxchg double far
  | .acas _ double far => opAcas double far
  | .aadd _ double far => opAadd double far
  | .aand _ double far => opAand double far
  | .aor _ double far => opAor double far
  | .axor _ double far => opAxor double far
  | .amin _ double far => opAmin double far
  | .amax _ double far => opAmax double far
  | .aminu _ double far => opAminu double far
  | .amaxu _ double far => opAmaxu double far
  | .mfs _ n => opMfs n
  | .mts _ n => opMts n
  | .lbar _ => opLbar
  | .sbar _ => opSbar
  | .mbar _ => opMbar
  | .isync _ => opIsync
  | .csync _ => opCsync
  | .tlbsync _ => opTlbsync
  | .dclean _ => opDclean
  | .dflush _ => opDflush
  | .dinv _ => opDinv
  | .iclean _ => opIclean
  | .prefr _ => opPrefr
  | .prefw _ => opPrefw
  | .dcleanR _ => opDcleanR
  | .dflushR _ => opDflushR
  | .dinvR _ => opDinvR
  | .icleanR _ => opIcleanR
  | .tlbiVa _ => opTlbiVa
  | .tlbiAsid _ => opTlbiAsid
  | .tlbiAll _ => opTlbiAll
  | .tlbiIpa _ => opTlbiIpa
  | .tlbiVmid _ => opTlbiVmid
  | .tlbiHall _ => opTlbiHall
  | .tlbibVa _ => opTlbibVa
  | .tlbibAsid _ => opTlbibAsid
  | .tlbibAll _ => opTlbibAll
  | .tlbibIpa _ => opTlbibIpa
  | .tlbibVmid _ => opTlbibVmid
  | .tlbibHall _ => opTlbibHall
  | .aese _ => opAese
  | .aesel _ => opAesel
  | .aesd _ => opAesd
  | .aesdl _ => opAesdl
  | .aesimc _ => opAesimc
  | .aeskg _ => opAeskg
  | .sha256sig0 _ => opSha256sig0
  | .sha256sig1 _ => opSha256sig1
  | .sha256sum0 _ => opSha256sum0
  | .sha256sum1 _ => opSha256sum1
  | .sha512sig0 _ => opSha512sig0
  | .sha512sig1 _ => opSha512sig1
  | .sha512sum0 _ => opSha512sum0
  | .sha512sum1 _ => opSha512sum1
  | .clmul _ => opClmul
  | .clmulh _ => opClmulh
  | .clz _ => opClz
  | .ctz _ => opCtz
  | .popc _ => opPopc
  | .bswap _ => opBswap
  | .brev _ => opBrev
  | .andn _ => opAndn
  | .orn _ => opOrn
  | .xnor _ => opXnor
  | .mins _ => opMins
  | .maxs _ => opMaxs
  | .minu _ => opMinu
  | .maxu _ => opMaxu
  | .bch _ => opBch
  | .bmaj _ => opBmaj
  | .bfx _ => opBfx
  | .sealB _ => opSealB
  | .sealH _ => opSealH
  | .sealW _ => opSealW
  | .sealD _ => opSealD
  | _ => pureOp 0 0 (fun _ => [])

/-- The condition read where it stands on top, filled if it must be. -/
def condOp : Op := pureOp 1 1 (fun l => l)

/-- The condition put back below a fault of the delay slot (R105). Where fills have left the cache full, its deepest entry is the
one that its slot in memory still holds. -/
def Core.pushBack (k : Core) (lvl : Nat) (v : Word) : Core :=
  if k.stack.length < cacheSize then { k with stack := v :: k.stack }
  else { k.setBank lvl { k.bank lvl with osp := (k.bank lvl).osp + 8#64 } with stack := (v :: k.stack).dropLast }

/-- The end of a pair: the PC, the wrong guess's event, the predictors, `n` instructions retired. -/
def State.endBranch (s : State) (c : Ctx) (h taken : Bool) (pc target next : Word) (n : Nat) : State :=
  let s := if taken ≠ (h && !c.dtm) then (s.count c.core 0x07 1).wrongPath c else s
  let s := if taken then s.taken c pc target else s
  s.retireTo c.core n (if taken then target else next)

/-- A conditional branch and its delay slot: `t` is field T (R104). -/
def State.branch (s : State) (core : CoreId) (t h a : Bool) (d : BitVec 7) (imm : List (BitVec 16)) (slot : Parcel) : State :=
  if (s.core core.val).run ≠ .running then s else
  match s.boundary core.val with
  | some t => t
  | none =>
  if parcelUndefined slot || slotForbidden slot then s.tick.takeSync core.val (plainFault 0x01) false false else
  let c := s.ctx core.val
  match (s.begin core.val).doOp c condOp with
  | (s, .trap f stk) => s.tick.takeSync core.val f stk false
  | (s, _) =>
    let k := s.core core.val
    let v := k.stack.headD 0#64
    let pc := k.pc
    let target := evenPC (pc + dispWord 7 d.toNat imm)
    let next := pc + lenWord imm.length + 2#64
    let taken := decide (v ≠ 0#64) == t
    if taken || !a then
      let s := ((s.modCore core.val (fun k => { k with stack := k.stack.drop 1 })).tick).begin core.val
      let op : Op := match decodeOne core slot with | some i => slotOp i | none => slotOp (.nop core)
      match s.doOp (s.ctx core.val) op with
      | (s, .trap f stk) => (s.modCore core.val (fun k => k.pushBack c.lvl v)).tick.takeSync core.val f stk true
      | (s, _) => s.endBranch c h taken pc target next 2
    else
      (s.modCore core.val (fun k => { k with stack := k.stack.drop 1 })).endBranch c h taken pc target next 1

/-- BZ: ( c -- ), branches when the entry is zero (R69, R104). -/
def execBz (c : CoreId) (h a : Bool) (d : BitVec 7) (imm : List (BitVec 16)) (slot : Parcel) (s : State) : Outcome State Fault Refusal :=
  if wfDisp imm then .next (s.branch c false h a d imm slot) else .fault .illFormed

/-- BNZ: ( c -- ), branches when the entry is nonzero (R69, R104). -/
def execBnz (c : CoreId) (h a : Bool) (d : BitVec 7) (imm : List (BitVec 16)) (slot : Parcel) (s : State) : Outcome State Fault Refusal :=
  if wfDisp imm then .next (s.branch c true h a d imm slot) else .fault .illFormed

end Sys2Proof.Machine
end

