-- ==== Sys2Proof/Machine/Tasks.lean ====
section
/-! DEFINITION. Tasks on cores (chapter 10): QPUSH, QPOP, saving and ending a task, the search for work, dispatch, WAIT,
preemption, parking, and what breaks a slot. -/

namespace Sys2Proof.Machine

open Host

/-! ### Requests and reports of the microsequencer (R231) -/

/-- A report deferred by a queue instruction (R122, R231). -/
def State.deferAt (s : State) (core cause : Nat) (addr : Word) (wnr : Bool) (ipa : Option Nat) : State :=
  s.modCore core (fun k => { k with deferred := k.deferred ++ [⟨cause, addr, wnr, ipa⟩] })

/-- A failed queue check (R240). -/
def State.qfault (s : State) (c : Ctx) (reason q : Nat) : State × OpRes :=
  (s.wr (Reg.DSP_QFAULT (c.core / 16) (c.core % 16)) (BitVec.ofNat 64 (reason + q % 2 ^ 18 * 256)), .trap (plainFault 0x50) false)

/-- A refused access of a queue instruction to its descriptor or ring: the log, the deferred report with an open address, and st
(R231, R239). The manual gives st for a color refusal only: after an error response it is an open value. -/
def State.queueRefused (s : State) (c : Ctx) (q : Nat) (e : QErr) : State × Word :=
  let (a, s) := s.openWord
  match e with
  | .color pa => (((s.logUseqColor (c.core / 16) c.core q pa).deferAt c.core 0x1E a false none), 5#64)
  | .resp =>
    let (st, s) := s.openWord
    ((s.deferAt c.core 0x20 a false none).errSummary c.core, st)

/-! ### The buffers of QPUSH and QPOP -/

/-- The part of a translated buffer that holds a line, and the line's PA. -/
def linePart (l : List Part) (va : Nat) : Option (Part × Nat) :=
  (l.find? (fun p => decide (p.va ≤ va) && decide (va < p.va + p.size))).map (fun p => (p, p.x.pa + (va - p.va)))

/-- How a line of a buffer failed: where, and whether as a color violation. -/
structure BufErr where
  va : Nat
  ipa : Option Nat
  pa : Nat
  color : Bool
  deriving DecidableEq, Repr

/-- The IPA that a report for a buffer carries: none at HW. -/
def bufIpa (c : Ctx) (p : Part) : Option Nat := if c.lvl < 2 then some p.x.ipa else none

/-- Eight doubles read from device memory. -/
def State.readDevLine (c : Ctx) (mt : MemType) : State → List Nat → State × Except LdErr (List Word)
  | s, [] => (s, .ok [])
  | s, pa :: t =>
    match s.loadDevice c mt pa 8 none with
    | (s, .error e) => (s, .error e)
    | (s, .ok v) =>
      match State.readDevLine c mt s t with
      | (s, .error e) => (s, .error e)
      | (s, .ok l) => (s, .ok (BitVec.ofNat 64 v :: l))

/-- A line of a frame read: its doubles and its poison. -/
def State.readBufLine (s : State) (c : Ctx) (l : List Part) (va : Nat) : State × Except BufErr (List Word × Bool) :=
  match linePart l va with
  | none => (s, .ok (List.replicate 8 0#64, false))
  | some (p, pa) =>
    let bad := fun (color : Bool) => BufErr.mk va (bufIpa c p) pa color
    match s.fixedType pa with
    | none => (s, .error (bad false))
    | some .wb =>
      (match s.dmaRead (s.coreReq c 4) (pa / 64) with
       | (s, .error e) => (s, .error (bad (decide (e = .color))))
       | (s, .ok (d, x)) => (s, .ok (lineWords d, x)))
    | some mt =>
      (match State.readDevLine c mt s ((natsFrom 0 8).map (fun i => pa + 8 * i)) with
       | (s, .error _) => (s, .error (bad false))
       | (s, .ok ws) => (s, .ok (ws, false)))

/-- The frame at a buffer. -/
def State.readBuf (c : Ctx) (parts : List Part) : State → List Nat → State × Except BufErr QFrame
  | s, [] => (s, .ok ⟨[], []⟩)
  | s, va :: t =>
    match s.readBufLine c parts va with
    | (s, .error e) => (s, .error e)
    | (s, .ok (ws, p)) =>
      match State.readBuf c parts s t with
      | (s, .error e) => (s, .error e)
      | (s, .ok f) => (s, .ok ⟨ws ++ f.w, p :: f.p⟩)

/-- A line of a frame written into a buffer. -/
def State.writeBufLine (s : State) (c : Ctx) (l : List Part) (va : Nat) (ws : List Word) (poison : Bool) : State × Option BufErr :=
  match linePart l va with
  | none => (s, none)
  | some (p, pa) =>
    let bad := fun (color : Bool) => BufErr.mk va (bufIpa c p) pa color
    match s.fixedType pa with
    | none => (s, some (bad false))
    | some .wb =>
      (match s.dmaWrite (s.coreReq c 4) (pa / 64) (wordsLine ws) fullMask poison with
       | (s, some e) => (s, some (bad (decide (e = .color))))
       | (s, none) => (s, none))
    | some mt =>
      let es := (ws.zip (natsFrom 0 8)).map (fun x : Word × Nat =>
        ({ kind := .store, pa := pa + 8 * x.2, size := 8, data := x.1, mt := mt, va := BitVec.ofNat 64 (va + 8 * x.2), ipa := bufIpa c p,
           lvl := BitVec.ofNat 2 c.lvl } : SbEntry))
      (es.foldl (fun s e => s.performStore c e) s, none)

/-- A frame written into a buffer line by line; the first refusal ends it. -/
def State.writeBuf (c : Ctx) (parts : List Part) : State → List (Nat × Nat) → QFrame → State × Option BufErr
  | s, [], _ => (s, none)
  | s, (i, va) :: t, f =>
    match s.writeBufLine c parts va ((f.w.drop (8 * i)).take 8) (f.p.getD i false) with
    | (s, some e) => (s, some e)
    | (s, none) => State.writeBuf c parts s t f

/-- The addresses of the four lines of a buffer. -/
def bufLines (va : Nat) : List Nat := (natsFrom 0 4).map (fun i => (va + 64 * i) % 2 ^ 64)

/-- The report and the st of a refused access to a buffer (R231, R239). -/
def State.bufRefused (s : State) (c : Ctx) (q : Nat) (wnr : Bool) (e : BufErr) : State × Word :=
  let a := BitVec.ofNat 64 e.va
  if e.color then ((s.logUseqColor (c.core / 16) c.core q e.pa).deferAt c.core 0x1E a wnr e.ipa, 5#64) else
  let (st, s) := s.openWord
  ((s.deferAt c.core 0x20 a wnr e.ipa).errSummary c.core, st)

/-! ### QPUSH and QPOP (R238 to R241) -/

/-- The descriptor of a local queue with the checks of R240, reasons 2, 7 and 3. -/
inductive QCheck where
  | ok (d : Desc)
  | reason (n : Nat)
  | refused (e : QErr)

/-- The descriptor checks of QPUSH and QPOP. -/
def State.checkDesc (s : State) (c : Ctx) (q : Nat) (push : Bool) : State × QCheck :=
  let cid := s.cid (c.core / 16)
  match s.readDesc (s.coreReq c 4) cid q with
  | (s, .error e) => (s, .refused e)
  | (s, .ok d) =>
    if d.valid = false then (s, .reason 2)
    else if d.cid ≠ cid then (s, .reason 7)
    else if c.lvl < fieldN d.ctl 4 2 ∨ (push ∧ d.kindDma = false ∧ c.lvl < d.lvl) then (s, .reason 3)
    else (s, .ok d)

/-- The tag that a push gives a frame (QD_CTL.TAGMODE, R232). -/
def pushTag (c : Ctx) (d : Desc) (own : Nat) : Nat :=
  match fieldN d.ctl 10 2 with
  | 1 => d.tag
  | 2 => if 2 ≤ c.lvl then own else fieldN c.regs.ttag 0 16
  | _ => fieldN c.regs.ttag 0 16

/-- The frame that a push makes of the one it has read (R238). -/
def pushedFrame (f : QFrame) (q tag : Nat) (tb : Word) : QFrame :=
  (f.put 0x38 (putN (putN (putN (f.at 0x38) 36 3 0) 16 18 q) 0 16 tag)).put 0xD0 tb

/-- A push to a local queue: its st. -/
def State.pushLocal (s : State) (c : Ctx) (q : Nat) (d : Desc) (f : QFrame) : State × Word :=
  let tag := pushTag c d (fieldN (f.at 0x38) 0 16)
  match s.pushQ (s.coreReq c 4) (some (c.core / 16)) c.core (s.cid (c.core / 16)) q d ((pushedFrame f q tag s.tb).put 0xF0 0#64) with
  | (s, .done) => (s, 0#64)
  | (s, .full) => (s, 1#64)
  | (s, .lostSlot) => (s, 4#64)
  | (s, .err e) => s.queueRefused c q e

/-- Whether the operand q of QPUSH and QPOP names a remote queue, its queue ID and its node (R241). -/
def qRemote (q : Word) : Bool := bitN q 36
def qId (q : Word) : Nat := fieldN q 0 18
def qNode (q : Word) : Nat := fieldN q 18 18

/-- QPUSH with its frame read. -/
def State.qpushEnd (s : State) (c : Ctx) (q : Word) (d : Option Desc) (f : QFrame) : State × OpRes :=
  match d with
  | some d => let (s, st) := s.pushLocal c (qId q) d f; (s, .ok [st])
  | none =>
    let tag := fieldN c.regs.ttag 0 16
    match s.sendPush c.core (qNode q) (qId q) tag (pushedFrame f (qId q) tag s.tb) with
    | (s, .waits) => (s.retire c.core 2, .own)
    | (s, .ended st) => (s, .ok [BitVec.ofNat 64 st])

/-- QPUSH with its checks made: every earlier store is performed (R196), the frame is read, and it is pushed or sent. -/
def State.qpushRun (s : State) (c : Ctx) (frame q : Word) (d : Option Desc) (parts : List Part) : State × OpRes :=
  match State.readBuf c parts (s.fullBarrier c) (bufLines frame.toNat) with
  | (s, .error e) => let (s, st) := s.bufRefused c (qId q) false e; (s, .ok [st])
  | (s, .ok f) => s.qpushEnd c q d f

/-- The pages of a buffer checked, then `next` (R240). -/
def State.withBuf (s : State) (c : Ctx) (k : AccKind) (va : Word) (next : State → List Part → State × OpRes) : State × OpRes :=
  match State.xlatParts c k s (pageParts va.toNat 256) with
  | (s, .error f) => (s, .trap f false)
  | (s, .ok l) => next s l

/-- QPUSH: R238. -/
def opQpush : Op :=
  { pops := 2, pushes := 1,
    run := fun c args s => match args with
      | [q, frame] =>
        if frame.toNat % 64 ≠ 0 then s.qfault c 4 (qId q) else
        if qRemote q then s.withBuf c .load frame (fun s l => s.qpushRun c frame q none l) else
        if s.inRange (s.cid (c.core / 16)) (qId q) = false then s.qfault c 1 (qId q) else
        s.withBuf c .load frame (fun s l =>
          match s.checkDesc c (qId q) true with
          | (s, .reason n) => s.qfault c n (qId q)
          | (s, .refused e) => let (s, st) := s.queueRefused c (qId q) e; (s, .ok [st])
          | (s, .ok d) => s.qpushRun c frame q (some d) l)
      | _ => (s, .own) }
def execQpush (c : CoreId) (s : State) : Outcome State Fault Refusal := .next (s.runOp c.val 2 opQpush).settle

/-- A frame lost under R239 in the cluster's error log, with severity 1 (R524). R466 names no KIND for it: KIND and the two words are
open values (log 163). -/
def State.logLostFrame (s : State) (core : Nat) : State :=
  let n := core / 16
  let (k, s) := s.openWord
  let (a, s) := s.openWord
  let (i, s) := s.openWord
  s.logCluster n (k.toNat % 16) 1 a i (s.cid n) (core % 16) false

/-- QPOP with its checks made: the head frame claimed and written into the buffer; a frame whose write is refused is lost
(R239). -/
def State.qpopRun (s : State) (c : Ctx) (buf q : Word) (d : Desc) (parts : List Part) : State × OpRes :=
  let r := s.coreReq c 4
  match s.claimQ r (some (c.core / 16)) c.core (s.cid (c.core / 16)) (qId q) d with
  | (s, .empty) => (s, .ok [1#64])
  | (s, .broken _) => (s.repostAll, .ok [4#64])
  | (s, .err _ e) => let (s, st) := s.repostAll.queueRefused c (qId q) e; (s, .ok [st])
  | (s, .frame idx f) =>
    match State.writeBuf c parts s.repostAll ((natsFrom 0 4).zip (bufLines buf.toNat)) (f.put 0xF8 (BitVec.ofNat 64 idx)) with
    | (s, none) => (s, .ok [0#64])
    | (s, some e) =>
      let s := if e.color then (s.queueLost r d).logLostFrame c.core else s
      let (s, st) := s.bufRefused c (qId q) true e
      (s, .ok [st])

/-- QPOP: R238. -/
def opQpop : Op :=
  { pops := 2, pushes := 1,
    run := fun c args s => match args with
      | [q, buf] =>
        if buf.toNat % 64 ≠ 0 then s.qfault c 4 (qId q) else
        if qRemote q then s.qfault c 6 (qId q) else
        if s.inRange (s.cid (c.core / 16)) (qId q) = false then s.qfault c 1 (qId q) else
        s.withBuf c .store buf (fun s l =>
          match (s.fullBarrier c).checkDesc c (qId q) false with
          | (s, .reason n) => s.qfault c n (qId q)
          | (s, .refused e) => let (s, st) := s.queueRefused c (qId q) e; (s, .ok [st])
          | (s, .ok d) => s.qpopRun c buf q d l)
      | _ => (s, .own) }
def execQpop (c : CoreId) (s : State) : Outcome State Fault Refusal := .next (s.runOp c.val 2 opQpop).settle

/-! ### The current task (R237, R251) -/

/-- Where the context of the core's current task is: in the core; in the exception registers of the level above it; there is no
task at the top level; or a queue fault is due (R240 reason 5). -/
inductive TaskAt where
  | here (t : Task)
  | above (t : Task)
  | noTask
  | bad

/-- The context on which QDONE and YIELD act (R251). -/
def State.taskAt (s : State) (core : Nat) : TaskAt :=
  let k := s.core core
  let lvl := k.lvl.toNat
  match k.task with
  | none => if 2 ≤ lvl then .noTask else .bad
  | some t =>
    if k.lvl = t.lvl then .here t else
    let esr := (k.exc lvl).esr
    if t.lvl.toNat < lvl ∧ eretOk lvl (s.secure core) esr ∧ fieldN esr 8 2 = t.lvl.toNat then .above t else .bad

/-- A count of 48 bits that sticks. -/
def acc48 (n : Nat) : Word := BitVec.ofNat 64 (stick (2 ^ 48 - 1) n)

/-- The frame that a save writes (R235, R237). -/
def State.taskFrame (s : State) (core : Nat) (t : Task) (above preempted : Bool) : QFrame :=
  let k := s.core core
  let x := k.exc k.lvl.toNat
  let b := k.bank t.lvl.toNat
  let sr := if above then putN x.esr 16 5 0 else s.srOf core
  let cached := if above then [] else k.stack.reverse
  let tag := fieldN k.sync.ttag 0 16 + k.qid.toNat * 2 ^ 16 + b2n preempted * 2 ^ 36 + b2n t.stolen * 2 ^ 37
  ⟨[if above then x.epc else k.pc, k.lr, k.fp, sr, b.osb, b.osl, b.osp, BitVec.ofNat 64 tag]
    ++ (natsFrom 0 16).map (fun i => cached.getD i 0#64)
    ++ [acc48 (t.accInstr + (k.instrs - t.startInstr)), acc48 (t.accNs + (s.now - t.startTb)), t.enqTb]
    ++ (natsFrom 0 3).map (fun i => t.user.getD i 0#64) ++ [0#64, 0#64],
   List.replicate 4 false⟩

/-- The frame of a save published: whether that succeeded (R237, R246). -/
def State.publishSave (s : State) (core : Nat) (f : QFrame) (key : Option (Nat × Nat)) : State × Bool :=
  let n := core / 16
  let cid := s.cid n
  let q := (s.core core).qid.toNat
  let r := s.seqReq core key
  if s.inRange cid q = false then (s, false) else
  match s.readDesc r cid q with
  | (s, .error (.color pa)) => (s.logUseqColor n core q pa, false)
  | (s, .error .resp) => (s, false)
  | (s, .ok d) =>
    if d.encoded = false ∨ d.cid ≠ cid then (s, false) else
    match s.pushQ r (some n) core cid q d f with
    | (s, .done) => (s, true)
    | (s, .err (.color pa)) => (s.logUseqColor n core q pa, false)
    | (s, _) => (s, false)

/-- The current task saved (R202, R237): the buffer is empty before its frame is written. A save that fails leaves the task
running, and a preemption waits for its next cause (R246). -/
def State.saveTask (s : State) (core : Nat) (t : Task) (above preempted : Bool) : State × Bool :=
  let c := s.ctx core
  let s := s.fullBarrier c
  match s.publishSave core (s.taskFrame core t above preempted) (s.useKey c) with
  | (s, true) => (s, true)
  | (s, false) => ((s.modCore core (fun k => { k with hot := false })).setF (dspStat core) Fld.DSP_STAT_PREEMPT_PEND 0, false)

/-- A core with nothing to run parks (R248): what DSP_STAT.QID then reads is an open value. -/
def State.park (s : State) (core : Nat) : State :=
  let (w, s) := (s.unlatch (Reg.DSP_PARK (core / 16) (core % 16))).openWord
  let s := s.modCore core (fun k => { k with run := .parked, stack := [], entry := none, woken := false, idle := false })
  s.wr (dspStat core) (BitVec.ofNat 64 (w.toNat % 2 ^ 18))

/-- The end of a core's run of its task: its use charged, the tag it last ran kept (R254), and the core without work. -/
def State.endTask (s : State) (core : Nat) : State :=
  let s := s.settleUse core
  (s.modCore core (fun k => { k with task := none, lastTag := some (BitVec.ofNat 16 (fieldN k.eff.ttag 0 16)) })).park core

/-- QD_DONE of a finished task's queue raised (R238). -/
def State.countDone (s : State) (core : Nat) : State :=
  let n := core / 16
  let cid := s.cid n
  let q := (s.core core).qid.toNat
  let r := s.seqReq core (s.useKey (s.ctx core))
  if s.inRange cid q = false then s else
  match s.readDesc r cid q with
  | (s, .error (.color pa)) => s.logUseqColor n core q pa
  | (s, .error .resp) => s
  | (s, .ok d) =>
    if d.encoded = false ∨ d.cid ≠ cid then s else
    match s.putDesc r d 3 (putN d.done 0 48 (stick (2 ^ 48 - 1) (fieldN d.done 0 48 + 1))) with
    | (s, some (.color pa)) => s.logUseqColor n core q pa
    | (s, _) => s

/-! ### Dispatch (R236, R254) -/

/-- A core with the state of a frame (R236). -/
def Core.load (k : Core) (d : Desc) (q : Nat) (f : QFrame) (stolen : Bool) (now : Nat) : Core :=
  let sr := f.at 0x18
  let tw := f.at 0x38
  let tag := BitVec.ofNat 64 (fieldN tw 0 16)
  let scd := min 16 (fieldN sr 16 5)
  let slot := fun (w : Word) => w &&& 0xFFFFFFFFFFFFFFF8#64
  let k := if f.at 0x28 = 0#64 then k else k.setBank d.lvl ⟨slot (f.at 0x20), slot (f.at 0x28), slot (f.at 0x30)⟩
  let t : Task := { qid := BitVec.ofNat 18 q, lvl := BitVec.ofNat 2 d.lvl, preempt := bitN d.ctl 7, quantum := fieldN d.ctl 48 16,
                    stolen := stolen, accInstr := fieldN (f.at 0xC0) 0 48, accNs := fieldN (f.at 0xC8) 0 48, enqTb := f.at 0xD0,
                    user := [f.at 0xD8, f.at 0xE0, f.at 0xE8], startTb := now, startInstr := k.instrs }
  { k with
    run := .running, pc := f.at 0x00 &&& 0xFFFFFFFFFFFFFFFE#64, lr := f.at 0x08, fp := f.at 0x10,
    v := bitN sr 0, dz := bitN sr 1, ovtrap := bitN sr 2, dztrap := bitN sr 3, ie := bitN sr 11, lvl := BitVec.ofNat 2 d.lvl,
    stack := ((natsFrom 0 scd).map (fun i => f.at (0x40 + 8 * i))).reverse,
    sync := { k.sync with ttag := tag }, eff := { k.eff with ttag := tag }, useTag := BitVec.ofNat 16 (fieldN tw 0 16),
    qid := BitVec.ofNat 18 (fieldN tw 16 18), task := some t, chargeTb := now, useInstr := 0, entry := none, idle := false, hot := false, homeFrame := false, woken := false }

/-- A claimed frame dispatched on a core: the fence of R149 where the queue asks for it and the tag changes, then the load. -/
def State.dispatch (s : State) (core : Nat) (d : Desc) (q : Nat) (f : QFrame) (stolen : Bool) : State :=
  let n := core / 16
  let tag := BitVec.ofNat 16 (fieldN (f.at 0x38) 0 16)
  let s := if bitN d.ctl 8 && decide ((s.core core).lastTag ≠ some tag) then (s.drainAll (s.ctx core)).fence core else s
  let s := s.modCore core (fun k => k.load d q f stolen s.now)
  let s := s.modCluster n (fun k => { k with ranAs := s.cid n })
  let s := s.wr (dspStat core) (BitVec.ofNat 64 (q % 2 ^ 18 + 2 ^ 18 + b2n stolen * 2 ^ 20))
  if stolen then s.addF (Reg.DSP_STEALS n) Fld.DSP_STEALS_COUNT 1 else s

/-- A poisoned frame not started (R259). -/
def State.poisonedFrame (s : State) (core : Nat) (d : Desc) (q idx : Nat) : State :=
  let n := core / 16
  let cid := s.cid n
  let pa := (s.slotPA cid d idx 0).getD 0
  let s := s.queueLost (s.seqReq core none) d
  let s := s.logCluster n 6 2 (BitVec.ofNat 64 pa) (BitVec.ofNat 64 (q + idx * 2 ^ 32)) cid (core % 16) false
  s.errSummary core

/-! ### The search for work (R247, R252, R253) -/

/-- Whether a queue is a home queue of a core. -/
def State.isHome (s : State) (core q : Nat) : Bool := decide (s.homeQ core 0 = some q) || decide (s.homeQ core 1 = some q)

/-- How the trial of a candidate ended: a task runs; nothing was there; or a frame was lost and there may be more. -/
inductive TryRes where
  | task | nothing | lost
  deriving DecidableEq, Repr

/-- The claim of a candidate's head frame, charged to no tag until it takes a frame and to the frame's tag from then on (R258). -/
def State.claimFor (s : State) (core q : Nat) (d : Desc) : State × ClaimRes :=
  let n := core / 16
  let cid := s.cid n
  s.claimTagged (s.seqReq core none) (some n) core cid q d

/-- A candidate tried (R247). -/
def State.tryQueue (s : State) (core q : Nat) : State × TryRes :=
  let n := core / 16
  let cid := s.cid n
  let foreign := !s.isHome core q
  if s.inRange cid q = false then (s, .nothing) else
  match s.readDesc (s.seqReq core none) cid q with
  | (s, .error (.color pa)) => (s.logUseqColor n core q pa, .nothing)
  | (s, .error .resp) => (s, .nothing)
  | (s, .ok d) =>
    if d.valid = false ∨ d.cid ≠ cid ∨ d.kindDma ∨ (bitN d.ctl 6 ∧ foreign) then (s, .nothing) else
    match s.claimFor core q d with
    | (s, .empty) => (s, .nothing)
    | (s, .broken _) => (s.repostAll, .lost)
    | (s, .err _ (.color pa)) => (s.repostAll.logUseqColor n core q pa, .lost)
    | (s, .err _ .resp) => (s.repostAll, .lost)
    | (s, .frame idx f) =>
      let s := s.repostAll
      if f.p.any id then (s.poisonedFrame core d q idx, .lost) else (s.dispatch core d q f foreign, .task)

/-- Candidates tried in order until one gives a task. -/
def State.tryQueues (core : Nat) : State → List Nat → Bool → State × TryRes
  | s, [], lost => (s, if lost then .lost else .nothing)
  | s, q :: t, lost =>
    match s.tryQueue core q with
    | (s, .task) => (s, .task)
    | (s, .lost) => State.tryQueues core s t true
    | (s, .nothing) => State.tryQueues core s t lost

/-- The home queues of a peer core whose mask bits are set, slot 0 first. -/
def State.peerQueues (s : State) (mask : BitVec 32) (core : Nat) : List Nat :=
  (natsFrom 0 2).filterMap (fun slot => if mask.toNat.testBit (maskBit core slot) then s.homeQ core slot else none)

/-- A cluster's work mask as cluster `n` has received it (R253). -/
def State.peerMask (s : State) (n m : Nat) : BitVec 32 := smGet (fun _ => 0#32) (s.cluster n).peer m

/-- The clusters that a thief of cluster `n` visits: the other working ones from the epoch's start on, then the failed ones
(R252, R261). DESIGN CHOICE (log 164): the frames left in the home queues of a drained or draining cluster (R260) are stolen after those
of the working clusters and before those of the failed ones. -/
def State.visits (s : State) (n : Nat) : List Nat :=
  let c := s.cid n
  let w := s.workingClusters c
  let m := w.length
  let p := w.findIdx (· == n)
  let e := s.now / (1000 * max 1 (s.getF (Reg.QM_STEAL c) Fld.QM_STEAL_EPOCH_US))
  (natsFrom 0 (m - 1)).filterMap (fun j => w[(p + 1 + (e + j) % (m - 1)) % m]?) ++
    (s.drainedClusters c).filter (fun k => k != n) ++ s.failedClusters c

/-- The candidates of a core in order (R247, R252). DESIGN CHOICE (log 162): within another working cluster, ascending CORE_ID, slot 0
before slot 1, as the rule gives it for the own cluster and R261 for a failed one. -/
def State.candidates (s : State) (core : Nat) : List Nat :=
  let n := core / 16
  let k := Reg.QM_STEAL (s.cid n)
  let own := (natsFrom 0 2).filterMap (s.homeQ core)
  let local' := if s.isF k Fld.QM_STEAL_LOCAL then
      (natsFrom 1 15).flatMap (fun j => s.peerQueues (s.cluster n).mask (n * 16 + (core + j) % 16)) else []
  let cross := if s.isF k Fld.QM_STEAL_CROSS then
      (s.visits n).flatMap (fun m => (clusterCores m).flatMap (s.peerQueues (s.peerMask n m))) else []
  own ++ local' ++ cross

/-- Whether a core may look for work (R248, R260, R264). -/
def State.maySeek (s : State) (core : Nat) : Bool :=
  let n := core / 16
  let k := s.core core
  decide (k.run = .parked) && k.resetting.isNone && !k.retired && s.isF (Reg.CMT_CLUSTER n) Fld.CMT_CLUSTER_EN &&
    !s.isF (Reg.CMT_CLUSTER n) Fld.CMT_CLUSTER_FAILED && (s.cluster n).drain.isNone && (s.cluster n).resetKind.isNone &&
    decide (s.islandState n < 2)

/-- A parked core tries its candidates, with DSP_HOME as it now reads; a lost frame makes it try again. -/
def State.seekWork (s : State) (core : Nat) : State :=
  if s.maySeek core = false then s else
  let s := s.unlatch (Reg.DSP_HOME (core / 16) (core % 16))
  match State.tryQueues core s (s.candidates core) false with
  | (s, .task) => s
  | (s, r) => s.modCore core (fun k => { k with woken := decide (r = .lost) })

/-- TASK_DISPATCH (R247). -/
def execTaskDispatch (c : CoreId) (s : State) : Outcome State Fault Refusal := .next (s.seekWork c.val).settle

/-- PARK_WAKE (R248): a parked core that something has woken tries its candidates again. -/
def execParkWake (c : CoreId) (s : State) : Outcome State Fault Refusal :=
  if (s.core c.val).woken then .next (s.seekWork c.val).settle else .next s

/-- WORK_MASK_BROADCAST (R253): the compartment's other working clusters receive a cluster's mask; a bit that rises there wakes
their parked cores. -/
def execWorkMaskBroadcast (n : ClusterId) (s : State) : Outcome State Fault Refusal :=
  let m := (s.cluster n.val).mask
  if s.isF (Reg.CMT_CLUSTER n.val) Fld.CMT_CLUSTER_FAILED then .next s else
  .next ((s.workingClusters (s.cid n.val)).foldl (fun s k =>
    if k = n.val then s else
    let old := s.peerMask k n.val
    let s := s.modCluster k (fun x => { x with peer := smPut (fun _ => 0#32) x.peer n.val m })
    if m &&& ~~~old ≠ 0#32 then s.wakeCluster k else s) s)

/-! ### QDONE and YIELD (R238, R251) -/

/-- The end of the current task by QDONE, and the dispatch of the next. -/
def State.qdone (s : State) (core : Nat) : State :=
  let s := s.fullBarrier (s.ctx core)
  let s := s.retire core 2
  ((s.countDone core).endTask core).seekWork core

/-- QDONE: R238. The QUEUE field of DSP_QFAULT, for an instruction without an operand q, is an open value. -/
def opQdone : Op :=
  { run := fun c _ s => match s.taskAt c.core with
      | .bad => let (w, s) := s.openWord; s.qfault c 5 w.toNat
      | .noTask => (((s.fullBarrier c).retire c.core 2 |>.park c.core).seekWork c.core, .own)
      | _ => (s.qdone c.core, .own) }
def execQdone (c : CoreId) (s : State) : Outcome State Fault Refusal := .next (s.runOp c.val 2 opQdone).settle

/-- YIELD of a task: saved, the core dispatches; a save that fails leaves it running after the YIELD (R246). The frame of a
task at its own level resumes after the YIELD; from a level above, PC comes from EPC (R251). -/
def State.yieldTask (s : State) (core : Nat) (t : Task) (above : Bool) : State :=
  match (s.retire core 2).saveTask core t above false with
  | (s, true) => (s.endTask core).seekWork core
  | (s, false) => s

/-- YIELD: R238. -/
def opYield : Op :=
  { run := fun c _ s => match s.taskAt c.core with
      | .bad => let (w, s) := s.openWord; s.qfault c 5 w.toNat
      | .noTask => (((s.fullBarrier c).retire c.core 2 |>.park c.core).seekWork c.core, .own)
      | .here t => (s.yieldTask c.core t false, .own)
      | .above t => (s.yieldTask c.core t true, .own) }
def execYield (c : CoreId) (s : State) : Outcome State Fault Refusal := .next (s.runOp c.val 2 opYield).settle

/-! ### Preemption and WAIT (R238, R250) -/

/-- Whether an interrupt is takeable on a core (R128). -/
def State.irqTakeable (s : State) (core : Nat) : Bool := (s.pickIrq core (s.core core).lvl.toNat (s.core core).ie).isSome

/-- WAIT: R238, R196. A WAIT whose cause is already there completes at once. -/
def opWait : Op :=
  { run := fun c _ s =>
      let s := s.fullBarrier c
      if s.irqTakeable c.core || s.preemptDue c.core then (s, .ok []) else
      ((s.modCore c.core (fun k => { k with run := .waiting, homeFrame := false, entry := none })).setF (dspStat c.core) Fld.DSP_STAT_STATE 2, .own) }
def execWait (c : CoreId) (s : State) : Outcome State Fault Refusal := runOne c opWait s

/-- WAIT_END (R238). -/
def execWaitEnd (c : CoreId) (s : State) : Outcome State Fault Refusal :=
  let k := s.core c.val
  if k.run = .waiting ∧ (k.homeFrame ∨ s.irqTakeable c.val ∨ s.preemptDue c.val) then .next (s.endWait c.val) else .next s

/-- The task of a core at a boundary where it may be preempted: the core is at the task's level, no interrupt is takeable and no
entry is in progress (R250). -/
def State.atTaskBoundary (s : State) (core : Nat) : Option Task :=
  let k := s.core core
  match k.task with
  | none => none
  | some t =>
    if (k.run = .running ∨ k.run = .waiting) ∧ k.lvl = t.lvl ∧ k.entry.isNone ∧ s.irqTakeable core = false then some t else none

/-- A task saved as by preemption (R250, R260); the core then has no work. -/
def State.preempt (s : State) (core : Nat) (t : Task) : State × Bool :=
  let s := if (s.core core).run = .waiting then s.endWait core else s
  match s.saveTask core t false true with
  | (s, true) => (s.endTask core, true)
  | (s, false) => (s, false)

/-- PREEMPTION (R250). -/
def execPreemption (c : CoreId) (s : State) : Outcome State Fault Refusal :=
  match s.atTaskBoundary c.val with
  | none => .next s
  | some t => if s.preemptDue c.val then .next ((s.preempt c.val t).1.seekWork c.val).settle else .next s

/-! ### Broken slots (R245) -/

/-- SLOT_BREAK (R245): a waiter of the core breaks a slot whose agent has failed: a claimer a slot that it has claimed and that was
never published, a pusher a slot that it has reserved and that was never released. -/
def execSlotBreak (c : CoreId) (q : BitVec 18) (idx : BitVec 32) (claimer : Bool) (s : State) : Outcome State Fault Refusal :=
  let n := c.val / 16
  let cid := s.cid n
  let r := s.seqReq c.val none
  if s.inRange cid q.toNat = false then .next s else
  match s.readDesc r cid q.toNat with
  | (s, .error (.color pa)) => .next (s.logUseqColor n c.val q.toNat pa)
  | (s, .error .resp) => .next s
  | (s, .ok d) =>
    let i := idx.toNat
    let past := ((if claimer then d.head else d.tail) + 2 * 2 ^ 32 - i - 1) % 2 ^ 32
    if d.valid = false ∨ d.cid ≠ cid ∨ d.depth ≤ past then .next s else
    match s.readSeq r cid d i with
    | (s, .error (.color pa)) => .next (s.logUseqColor n c.val q.toNat pa)
    | (s, .error .resp) => .next s
    | (s, .ok v) =>
      let ready := (i + 1) % 2 ^ 32
      let fine := if claimer then decide (v = ready) || decide (v = (i + d.depth) % 2 ^ 32) else decide (v = i) || decide (v = ready)
      if fine then .next s else
      .next ((s.slotBroken r (some n) c.val q.toNat d i).writeSeq r cid d i (if claimer then i + d.depth else i)).1.settle

end Sys2Proof.Machine
end

