-- ==== Sys2Proof/Machine/WardenCore.lean ====
section
/-! DEFINITION. WCALL on cores (chapter 12, R299 to R304): the call, its delivery to a warden core, and its completion. -/

namespace Sys2Proof.Machine

open Host

/-! ### The caller -/

/-- A request queued for a core that waits for it (R299). -/
def State.queueRequest (s : State) (c : Ctx) (arg fn : Word) : State :=
  let id := s.newReqId s.free
  let r : WReq := { id := id, cid := s.cid (c.core / 16), lvl := BitVec.ofNat 2 c.lvl, cluster := c.core / 16, core := c.core % 16,
                    ttag := fieldN c.regs.ttag 0 16, arg := arg, fn := fn, delivered := none, tb := s.now }
  let s := { s with warden := { s.warden with q := s.warden.q ++ [r] } }.updQDepth.tick
  s.modCore c.core (fun k => { k with run := .wcalling, wcall := some id, wresult := none, entry := none })

/-- WCALL: ( arg fn -- res st ) (R299, R300). -/
def opWcall : Op :=
  { pops := 2, pushes := 2, priv := privNormal,
    run := fun c args s => match args with
      | [fn, arg] =>
        match s.wcallRefusal (s.cid (c.core / 16)) with
        | (s, some st) => (s, .ok [BitVec.ofNat 64 st, 0#64])
        | (s, none) => (s.queueRequest c arg fn, .own)
      | _ => (s, .own) }
def execWcall (c : CoreId) (s : State) : Outcome State Fault Refusal := runOne c opWcall s

/-- A core whose request has ended pushes res and st and retires its WCALL (R299). -/
def State.wcallDone (s : State) (core : Nat) : State :=
  let k := s.core core
  match k.run, k.wresult with
  | .wcalling, some (res, st) =>
    (s.modCore core (fun k => { k with run := .running, wcall := none, wresult := none, stack := st :: res :: k.stack })).retire core 2
  | _, _ => s

/-- WCALL_COMPLETE (R299). -/
def execWcallComplete (c : CoreId) (s : State) : Outcome State Fault Refusal := .next (s.wcallDone c.val)

/-- The core's request where it is still queued. -/
def State.queuedRequest (s : State) (core : Nat) : Option WReq :=
  s.warden.q.find? (fun r => decide ((s.core core).wcall = some r.id) && r.delivered.isNone)

/-- A queued request withdrawn (R304): arg and fn are back on the stack, and the core stands before its WCALL. -/
def State.withdraw (s : State) (core : Nat) (r : WReq) : State :=
  let s := { s with warden := { s.warden with q := s.warden.q.erase r } }.updQDepth
  s.modCore core (fun k => { k with run := .running, wcall := none, wresult := none, stack := r.fn :: r.arg :: k.stack })

/-! ### Delivery (R301, R302) -/

/-- The word that identifies the caller. -/
def WReq.src (r : WReq) : Word :=
  BitVec.ofNat 64 (r.cid + r.lvl.toNat * 2 ^ 6 + r.cluster * 2 ^ 8 + r.core * 2 ^ 15 + r.ttag * 2 ^ 20 + r.id.toNat * 2 ^ 48)

/-- The request that is delivered next: compartments in turn, each in the order of its calls. -/
def State.nextRequest (s : State) : Option WReq :=
  let l := s.warden.q.filter (fun r => r.delivered.isNone)
  (natsFrom 1 64).findSome? (fun i => l.find? (fun r => decide (r.cid = (s.warden.lastComp + i) % 64)))

/-- Whether a warden core can take the entry of a delivery now: it is a chosen core without a delivered request, it is neither
halted nor held in reset, and no W-targeted interrupt comes first. -/
def State.canDeliver (s : State) (core : Nat) : Bool :=
  let k := s.core core
  let parked := decide (k.run = .parked)
  let lvl := if parked then s.topLvl core else k.lvl.toNat
  let ie := parked || k.ie
  let irq := match s.pickIrq core lvl ie with | some (_, true) => true | _ => false
  bitN (s.rd Reg.WDN_WSEL) (core % 16) && !s.warden.q.any (fun r => decide (r.delivered = some core)) &&
    (parked || decide (k.run = .running) || decide (k.run = .waiting)) && k.resetting.isNone && !k.retired &&
    takeableAt 3 lvl ie && !irq

/-- The core of the WCALL cluster that a request is delivered to, in turn. -/
def State.wardenCore (s : State) : Option Nat :=
  let n := s.getF Reg.WDN_CTL Fld.WDN_CTL_WCL
  if (s.workingClusters 63).contains n = false ∨ (s.cluster n).resetKind.isSome then none else
  ((natsFrom 1 16).map (fun i => n * 16 + (s.warden.lastCore + i) % 16)).find? s.canDeliver

/-- The entry of a delivery. -/
def deliveryExc (pc : Word) : Exc := { f := plainFault 0x32, epc := pc, opAddr := pc }

/-- The three entries that a delivery pushes: whether a stack overflow or a faulting spill has halted the core. -/
def State.pushRequest (s : State) (core : Nat) (r : WReq) : State × Bool :=
  let c := s.ctx core
  let k := s.core core
  let bad := { deliveryExc k.pc with f := plainFault 0x03 }
  if overflow (k.bank c.lvl) k.stack.length 0 3 then (s.haltCore core bad, true) else
  match State.checkSpills c (spillsFor k.stack.length 0 3) s (k.bank c.lvl).osp with
  | (s, .error f) => (s.haltCore core { deliveryExc k.pc with f := f, stk := true }, true)
  | (s, .ok places) => (State.spillTo c (s.pushes core [r.fn, r.arg, r.src]) places, false)

/-- A request delivered to a core: the entry with cause 0x32, then the pushes; a delivery whose entry a faulting spill has replaced
stays pending. -/
def State.deliver (s : State) (core : Nat) (r : WReq) : State :=
  let s := if (s.core core).run = .waiting then s.endWait core else if (s.core core).run = .parked then s.unpark core else s
  let k := s.core core
  let s := s.syncPoint core
  let replaced : Bool := decide (k.lvl.toNat ≠ 3) && (s.spillAll (s.ctx core)).2.isSome
  let s := s.takeExc core (deliveryExc k.pc)
  if replaced then s else
  let (s, bad) := if (s.core core).run = .halted then (s, true) else s.pushRequest core r
  let s := { s with warden := { s.warden with lastComp := r.cid, lastCore := core % 16 } }
  if bad then s.endRequest r 0#64 4 else
  { s with warden := { s.warden with q := s.warden.q.map (fun x : WReq => if x.id = r.id then { x with delivered := some core, tb := s.now } else x) } }.updQDepth

/-- WCALL_DELIVERY (R301): a sleeping WCALL cluster is woken for it (R422). -/
def execWcallDelivery (s : State) : Outcome State Fault Refusal :=
  match s.nextRequest with
  | none => .next s
  | some r =>
    let n := s.getF Reg.WDN_CTL Fld.WDN_CTL_WCL
    let s := if (s.workingClusters 63).contains n ∧ 2 ≤ s.islandState n then s.wakeIsland n 12 else s
    match s.wardenCore with
    | none => .next s.settle
    | some core => .next (s.deliver core r).settle

end Sys2Proof.Machine
end

