-- ==== Sys2Proof/Machine/CoreEvents.lean ====
section
/-! DEFINITION. What happens on a core beside its instructions: entries of exceptions, interrupts and deferred reports, the timers
and counters, draining stores, returning loads, walks, the cache protocol, loads from PCIe windows, and a failed core. -/

namespace Sys2Proof.Machine

open Host

/-! ### Exceptions outside the instructions' own rows (R36, R55, R111, R457) -/

/-- The parcels of the instruction at the PC fetched in order, from `i` on, `n` more of them: the first fault is raised. Parcel `slot`
is a delay slot (R79). -/
def State.fetchOwn (s : State) (core : Nat) (slot : Option Nat) : Nat → Nat → State
  | 0, _ => s
  | n + 1, i =>
    let a := ((s.core core).pc + BitVec.ofNat 64 (2 * i)).toNat
    match s.fetchVA (s.ctx core) a with
    | (s, .error f) => s.takeSync core f false (decide (slot = some i))
    | (s, .ok _) => s.fetchOwn core slot n (i + 1)

/-- The number of own parcels of an instruction from its first one, and the place of its delay slot. -/
def ownParcels (p : Parcel) : Nat × Option Nat :=
  let k := (immCount p).getD 0
  if parcelUndefined p then (1, none)
  else if pbits p 15 12 = 0x9 then (k + 2, some (k + 1)) else (k + 1, none)

/-- The fetch of a parcel of the instruction at the PC: any other address leaves the core as it is. -/
def State.fetchEvent (s : State) (core : Nat) (va : Word) : State :=
  let pc := (s.core core).pc
  if va = pc then s.fetchOwn core none 1 0 else
  match s.fetchVA (s.ctx core) pc.toNat with
  | (_, .error _) => s
  | (_, .ok p) =>
    let (n, slot) := ownParcels p
    match (natsFrom 1 (n - 1)).find? (fun i => decide (va = pc + BitVec.ofNat 64 (2 * i))) with
    | some i => s.fetchOwn core slot (i + 1) 0
    | none => s

/-- Whether a system register exists (R44). -/
def sysExists (n : Nat) : Bool := (sysLevels false n).isSome

/-- The data error of a register or stack entry that fails its parity check, with an open address (R36, R457). -/
def State.parityRaise (s : State) (core : Nat) : State :=
  let (a, s) := s.openWord
  (s.errSummary core).takeSync core { cause := 0x20, typ := 10, addr := a } false false

/-- A register parity error logged with KIND 10 (R457). -/
def State.logRegParity (s : State) (core : Nat) (addr : Word) (special : Bool) : State :=
  let n := core / 16
  s.logCluster n 10 2 addr (BitVec.ofNat 64 (b2n special)) (s.cid n) (core % 16) false

/-- EXCEPTION_ENTRY (R116): an exception recognised on a running core. -/
def execExceptionEntry (c : CoreId) (e : EntryEvent) (s : State) : Outcome State Fault Refusal :=
  let core := c.val
  if (s.core core).run ≠ .running then .next s else
  match s.boundary core with
  | some t => .next t
  | none =>
  match e with
  | .parcel p => .next (if parcelUndefined p then s.takeSync core (plainFault 0x01) false false else s)
  | .fetch va => .next (s.fetchEvent core va)
  | .stackParity =>
    if (s.core core).stack = [] then .next s else .next ((s.logErrOpen (pageUSQ (core / 16)) 2 0).parityRaise core)
  | .registerParity n =>
    if sysExists n.toNat = false then .next s else
    .next ((s.logRegParity core (BitVec.ofNat 64 n.toNat) (decide (n = 0#12))).parityRaise core)
  | .coreParity =>
    let (w, s) := s.openWord
    .next ((s.logRegParity core w true).parityRaise core)

/-! ### Interrupts (R128, R133, R249, R304) -/

/-- A core brought to an instruction boundary for an interrupt: a WAIT completes, a parked core leaves its park, a WCALL that has ended
completes and one whose request is still queued is withdrawn. Answers whether the core now stands at one. -/
def State.toBoundary (s : State) (core : Nat) : State × Bool :=
  match (s.core core).run with
  | .running => (s, true)
  | .waiting => (s.endWait core, true)
  | .parked => (s.unpark core, true)
  | .wcalling =>
    if (s.core core).wresult.isSome then (s.wcallDone core, true) else
    (match s.queuedRequest core with
     | some r => (s.withdraw core r, true)
     | none => (s, false))
  | _ => (s, false)

/-- The interrupt that a core takes at its next boundary: a parked core as at the top level with SR.IE = 1 (R249). -/
def State.nextIrq (s : State) (core : Nat) : Option (Nat × Bool) :=
  let k := s.core core
  if k.run = .parked then s.pickIrq core (s.topLvl core) true else s.pickIrq core k.lvl.toNat k.ie

/-- Whether a core can take an interrupt or a report: its cluster is awake, it is not held in reset, and it does not stand parked under a
test or a patch. -/
def State.coreAwake (s : State) (core : Nat) : Bool :=
  decide (s.islandState (core / 16) < 2) && (s.core core).resetting.isNone && !(s.core core).retired &&
    !(decide ((s.core core).run = .parked) && s.testHeld (core / 16))

/-- INTERRUPT_ENTRY (R128). -/
def execInterruptEntry (c : CoreId) (s : State) : Outcome State Fault Refusal :=
  let core := c.val
  match s.nextIrq core with
  | none => .next s
  | some (id, hw) =>
    if s.coreAwake core = false then .next s else
    match s.toBoundary core with
    | (s, false) => .next s
    | (s, true) => .next (s.takeExc core (interruptExc id hw (s.core core).pc))

/-- LATE_ARRIVAL (R133): an interrupt takes over the entry in progress. -/
def execLateArrival (c : CoreId) (s : State) : Outcome State Fault Refusal :=
  let core := c.val
  match (s.core core).entry with
  | none => .next s
  | some r =>
    match s.lateIrq core r with
    | none => .next s
    | some i =>
      let call := decide (r.cause = 0x30) || decide (r.cause = 0x31)
      .next ((s.undoEntry core r).takeExc core
        { f := plainFault 0x40, irq := some i, tko := true, epc := if call then r.opAddr else r.epc, opAddr := r.opAddr })

/-- DEFERRED_REPORT (R122, R249): the oldest report is taken at the core's next boundary. -/
def execDeferredReport (c : CoreId) (s : State) : Outcome State Fault Refusal :=
  let core := c.val
  match (s.core core).deferred with
  | [] => .next s
  | _ :: _ =>
    let at' : Option State := match (s.core core).run with
      | .running => some s
      | .waiting => some (s.endWait core)
      | .parked => some (s.unpark core)
      | _ => none
    match at' with
    | none => .next s
    | some t => .next (if s.coreAwake core then t.takeReport core else s)

/-- TIMER_COMPARE (R126): CII_PEND follows the timers' level conditions. -/
def execTimerCompare (c : CoreId) (s : State) : Outcome State Fault Refusal :=
  let k := Reg.CII_PEND (c.val / 16) (c.val % 16)
  .next (s.wr k (putN (s.rd k) 0 2 (fieldN (s.pendOf c.val) 0 2)))

/-! ### Performance counters (R156, R157) -/

/-- PMC_OVERFLOW (R156): a counter of cycles reaches its largest value between two instructions; the overflow interrupt that a counter
owes is delivered to its core as ID 8. -/
def execPmcOverflow (c : CoreId) (n : Fin 8) (s : State) : Outcome State Fault Refusal :=
  let k := s.core c.val
  let e := fieldN (k.perf.pmsel.getD n.val 0#64) 0 8
  let s := if timedEvent e ∧ k.perf.counts n.val k.lvl.toNat then s.modCore c.val (fun k => { k with perf := k.perf.add n.val pmcTop }) else s
  let p := (s.core c.val).perf
  if p.irq.toNat.testBit n.val then
    .next ((s.modCore c.val (fun k => { k with perf := { p with irq := p.irq &&& ~~~(BitVec.ofNat 8 (2 ^ n.val)) } })).setPend c.val 8)
  else .next s

/-! ### The store buffer and outstanding loads (R142, R173, R185, R188, R192) -/

/-- Whether the entry at the head of a store buffer is a device-posted store. -/
def Core.headPosted (k : Core) : Bool :=
  match k.sb with
  | e :: _ => decide (e.kind = .store) && decide (e.mt = .devPosted)
  | [] => false

/-- Whether the head waits for the acceptances that an SBAR before it asks for (R194). -/
def Core.headWaits (k : Core) : Bool :=
  match k.sb with
  | e :: _ => e.bar && !k.posted.isEmpty
  | [] => true

/-- The page of a sleeping block with AUTOWAKE that the head of a store buffer stores to: the store waits there for its island (R200,
R430). -/
def State.headAsleep (s : State) (core : Nat) : Option Nat :=
  match (s.core core).sb with
  | [] => none
  | e :: _ =>
    let page := (e.pa - 0xFF00000000000) / 4096
    if e.kind = .store ∧ e.mt = .devStrict ∧ inAtlas e.pa ∧ s.blockAsleep page ∧ s.isF (Reg.BLK_PWR page) Fld.BLK_PWR_AUTOWAKE ∧
       s.islandFailed (pageIsland page) = false then some page else none

/-- STORE_BUFFER_DRAIN (R185): the head entry is performed and leaves; before a sleeping block with AUTOWAKE it waits, and its island is
woken (R200). -/
def execStoreBufferDrain (c : CoreId) (s : State) : Outcome State Fault Refusal :=
  let k := s.core c.val
  if k.headWaits ∨ k.headPosted then .next s else
  match s.headAsleep c.val with
  | some page => execAutowakeAccess (BitVec.ofNat 12 page) s
  | none => .next (s.drainHead (s.ctx c.val)).settle

/-- DEVICE_POSTED_ACCEPT (R192): the hub or mesh stop takes the device-posted store at the head. -/
def execDevicePostedAccept (c : CoreId) (s : State) : Outcome State Fault Refusal :=
  let k := s.core c.val
  if k.headWaits ∨ k.headPosted = false then .next s else .next (s.drainHead (s.ctx c.val)).settle

/-- TARGET_ACCEPTANCE (R192): a target performs and accepts the oldest device-posted store that has left the buffer for it; which of the
targets does is open. -/
def execTargetAcceptance (c : CoreId) (s : State) : Outcome State Fault Refusal :=
  match (s.core c.val).posted with
  | [] => .next s
  | [_] => .next (s.acceptAll (s.ctx c.val)).settle
  | l =>
    let (w, s) := s.openWord
    match l[w.toNat % l.length]? with
    | none => .next s
    | some e =>
      match l.find? (fun x => decide (postTarget x.pa = postTarget e.pa)) with
      | none => .next s
      | some x =>
        let s := s.modCore c.val (fun k => { k with posted := k.posted.erase x })
        .next (s.performStore ((s.ctx c.val).charging x.tag) x).settle

/-- LOAD_RETURN (R188): the oldest outstanding line returns. -/
def execLoadReturn (c : CoreId) (s : State) : Outcome State Fault Refusal := .next (s.missReturn c.val)

/-- TABLE_WALK (R173): the tables walked for an address and the TLBs filled; the walk of a prefetch that fails leaves no trace
(R176). -/
def execTableWalk (c : CoreId) (k : AccKind) (va : Word) (s : State) : Outcome State Fault Refusal :=
  match s.translate (s.ctx c.val) k va.toNat with
  | (t, .ok _) => .next t
  | (t, .error _) => .next (if k = .prefetch then s else t)

/-! ### The cache protocol (R209, R210, R226) -/

/-- L3_READ (R210): the home slice serves a core's read of a line; in deterministic mode no cache above it is filled (R152, R153). -/
def execL3Read (c : CoreId) (pa : BitVec 52) (s : State) : Outcome State Fault Refusal :=
  let x := s.ctx c.val
  if x.dtm then
    match s.sliceRead (s.coreReq x 0) (pa.toNat / 64) with
    | (s, .ok (_, _, late)) => .next (s.noteLate c.val late)
    | (s, .error _) => .next s
  else .next (s.cohRead (s.coreReq x 0) c.val false (pa.toNat / 64)).1

/-- OWNERSHIP_REQUEST (R209): the home slice grants a core's cluster a line exclusive; a core in deterministic mode asks for none
(R152). -/
def execOwnershipRequest (c : CoreId) (pa : BitVec 52) (s : State) : Outcome State Fault Refusal :=
  let x := s.ctx c.val
  if x.dtm then .next s else .next (s.cohOwn (s.coreReq x 0) c.val (pa.toNat / 64)).1

/-- The state of a cluster's copy of a line. -/
def State.copySt (s : State) (n l : Nat) : Option Mesi :=
  match s.line l with
  | some x => (x.copy n).map (fun c => c.st)
  | none => none

/-- WRITE_BACK (R209): an L2 evicts a modified line. -/
def execWriteBack (n : ClusterId) (pa : BitVec 52) (s : State) : Outcome State Fault Refusal :=
  let l := pa.toNat / 64
  .next (if s.copySt n.val l = some .m then s.giveBack n.val l else s)

/-- EVICTION_NOTICE (R209): an L2 evicts a clean line and tells the directory. -/
def execEvictionNotice (n : ClusterId) (pa : BitVec 52) (s : State) : Outcome State Fault Refusal :=
  let l := pa.toNat / 64
  .next (if s.copySt n.val l = some .e ∨ s.copySt n.val l = some .s then s.giveBack n.val l else s)

/-- INVALIDATE (R209): an L2 drops its clean copy at the home slice's word. -/
def execInvalidate (n : ClusterId) (pa : BitVec 52) (s : State) : Outcome State Fault Refusal :=
  let l := pa.toNat / 64
  .next (if s.copySt n.val l = some .e ∨ s.copySt n.val l = some .s then s.giveBack n.val l else s)

/-- RECALL (R209): an L2 sends its modified data and drops its copy. -/
def execRecall (n : ClusterId) (pa : BitVec 52) (s : State) : Outcome State Fault Refusal := .next (s.giveBack n.val (pa.toNat / 64))

/-- DOWNGRADE (R209): an L2 sends its modified data and keeps the line shared. -/
def execDowngrade (n : ClusterId) (pa : BitVec 52) (s : State) : Outcome State Fault Refusal :=
  let l := pa.toNat / 64
  .next (if s.holds (.l2 n.val) l then s.downgradeLine l else s)

/-- FAR_ATOMIC (R226): an atomic performed at the home slice of its line, after the core's buffer is empty (R195); its old value stays
with the core. -/
def execFarAtomic (c : CoreId) (op : AtomOp) (double : Bool) (pa : BitVec 52) (v exp : Word) (s : State) : Outcome State Fault Refusal :=
  let n := if double then 8 else 4
  if pa.toNat % n ≠ 0 ∨ s.inDram pa.toNat = false then .next s else
  match (s.fullBarrier (s.ctx c.val)).atomAt (s.ctx c.val) .wb true op pa.toNat n (v.toNat % 2 ^ (8 * n)) (exp.toNat % 2 ^ (8 * n)) with
  | (s, .ok old) => .next (s.modCore c.val (fun k => { k with farOld := BitVec.ofNat 64 old }))
  | (s, .error _) => .next s

/-! ### Loads from PCIe windows (R356, R357) -/

/-- The top entry of a core's operand stack, in its cache or in memory below it. -/
def State.topWord (s : State) (c : Ctx) : Option Word :=
  let k := s.core c.core
  match k.stack.head? with
  | some a => some a
  | none =>
    match (s.loadVA c ((k.bank c.lvl).osp - 8#64).toNat 8 none).2 with
    | .ok v => some (BitVec.ofNat 64 v)
    | .error _ => none

/-- The port whose window a load of `n` bytes at an address reads. -/
def State.windowPort (s : State) (c : Ctx) (va : Word) (n : Nat) : Option Nat :=
  match (s.checkAccess c .load va.toNat n).2 with
  | .ok [p] => if p.device then pciePort p.x.pa else none
  | _ => none

/-- A running core's load, at the top entry as its address, where that lies in a PCIe window. -/
def State.windowLoad (s : State) (core n : Nat) (op : Op) : State :=
  let c := s.ctx core
  match s.topWord c with
  | none => s
  | some a => if (s.windowPort c a n).isSome then s.runOp core 2 op else s

/-- The result of a load: zero- or sign-extended. -/
def loadExt (n : Nat) (sx : Bool) (v : Nat) : Word := if sx then sextN (8 * n) v else BitVec.ofNat 64 v

/-- A load that its device answers with data. -/
def answeredLoad (n : Nat) (sx : Bool) (data : Word) : Op :=
  { pops := 1, pushes := 1,
    run := fun c args s =>
      match s.loadVA c (args.headD 0#64).toNat n (some data) with
      | (s, .error f) => (s, .trap f false)
      | (s, .ok v) => (s, .ok [loadExt n sx v]) }

/-- CORE_DEVICE_READ (R356): a load from a PCIe window gets the device's answer. -/
def execCoreDeviceRead (c : CoreId) (width : Fin 4) (sext : Bool) (data : Word) (s : State) : Outcome State Fault Refusal :=
  let n := 2 ^ width.val
  .next (s.windowLoad c.val n (answeredLoad n sext data)).settle

/-- The AER status bit of a read that ended without data (log 18). -/
def readEndBit : DevReadEnd → Nat
  | .ur => aerUR
  | .ca => aerAbort
  | .timeout => aerTimeout
  | .dpc => aerTimeout
  | .poisoned => aerPoisoned

/-- A load that its device answers with an error: all ones, or the data error that RDERR or poison asks for (R357). -/
def failedLoad (n : Nat) (sx : Bool) (e : DevReadEnd) : Op :=
  { pops := 1, pushes := 1,
    run := fun c args s =>
      let a := args.headD 0#64
      match s.checkAccess c .load a.toNat n with
      | (s, .error f) => (s, .trap f false)
      | (s, .ok l) =>
        match State.loadParts c .load (some 0#64) s l with
        | (s, .error f) => (s, .trap f false)
        | (s, .ok v) =>
          match l with
          | p :: _ =>
            let port := (pciePort p.x.pa).getD 0
            if s.portUp port = false then (s, .ok [loadExt n sx v]) else
            let s := s.aerOpen port false (readEndBit e)
            if e = .poisoned ∨ s.isF (Reg.PCIE_CFG port) Fld.PCIE_CFG_RDERR then
              (s.told c .resp, .trap (memFault c .load p .resp) false)
            else (s, .ok [loadExt n sx (2 ^ (8 * n) - 1)])
          | [] => (s, .ok [0#64]) }

/-- CORE_DEVICE_READ_ERROR (R357). -/
def execCoreDeviceReadError (c : CoreId) (width : Fin 4) (sext : Bool) (e : DevReadEnd) (s : State) : Outcome State Fault Refusal :=
  let n := 2 ^ width.val
  .next (s.windowLoad c.val n (failedLoad n sext e)).settle

/-- COMPLETION_TIMEOUT (R357). -/
def execCompletionTimeout (c : CoreId) (width : Fin 4) (sext : Bool) (s : State) : Outcome State Fault Refusal :=
  let n := 2 ^ width.val
  .next (s.windowLoad c.val n (failedLoad n sext .timeout)).settle

/-- What the failed read of a table entry raises where the lost flit belonged to a core's walk (R175, R458): at stage 1 it is an error in
the entry itself, taken at K; at stage 2 it is taken at HW. Which entry it was is open. -/
def State.walkFlit (s : State) (x : Ctx) (k : AccKind) (va : Word) : Option (State × FaultInfo) :=
  if x.en1 = false ∧ x.en2 = false then none else
  let (w, s) := s.openWord
  let lvl := fieldN w 2 8 % 5
  if bitN w 0 = false then none
  else if x.en1 ∧ (bitN w 1 ∨ x.en2 = false) then some (s, walkFault k va.toNat ⟨.data, false, false, lvl, 0⟩)
  else some (s, walkFault k va.toNat ⟨.data, true, false, lvl, va.toNat⟩)

/-- MESH_FLIT_CRC_FAIL (R458): the one transaction that the flit belonged to is answered with an error response that carries poison:
a load, or the walk before an access, takes a data error at once, a store reports it (R122). -/
def execMeshFlitCrcFail (c : CoreId) (va : Word) (wr : Bool) (s : State) : Outcome State Fault Refusal :=
  let core := c.val
  let x := s.ctx core
  if (s.core core).run ≠ .running then .next s else
  match s.boundary core with
  | some t => .next t
  | none =>
  match s.walkFlit x (if wr then .store else .load) va with
  | some (s, f) => .next ((s.told x .resp).takeSync core f false false)
  | none =>
  match s.checkAccess x (if wr then .store else .load) va.toNat 1 with
  | (s, .ok (p :: _)) =>
    if wr then .next ((s.deferAt core 0x20 va true (bufIpa x p)).errSummary core)
    else .next ((s.told x .resp).takeSync core (memFault x .load p .resp) false false)
  | _ => .next s

/-! ### A failed core (R15, R201, R261, R304) -/

/-- The store buffer of a failed core (R201): entries drain for up to 200 ns, how many is open, and those still there are discarded and
logged as at a core reset. Answers whether one was discarded. -/
def State.failDrain (s : State) (core : Nat) : State × Bool :=
  let n := (s.core core).sb.length
  if n = 0 then (s, false) else
  let (w, s) := s.openWord
  let s := State.drainN (s.ctx core) (w.toNat % (n + 1)) s
  if (s.core core).sb = [] then (s, false)
  else ((s.discardStores core 0).modCore core (fun k => { k with sb := [], sbar := false }), true)

/-- What a spare core that takes over a CORE_ID does not bring along: caches, TLBs, predictors and outstanding lines. -/
def State.freshUnit (s : State) (core : Nat) : State :=
  let s := ((s.dropCoreTlb core).wbL1d core).invL1i core
  s.modCore core (fun k => { k with btb := [], rstack := [], lineBuf := none, misses := [] })

/-- The open WCALL of a failed core: arg and fn are back on its stack, so that the spare calls again; a delivered request stays with
the warden, its reply late (R304). -/
def State.recallWcall (s : State) (core : Nat) : State :=
  match s.warden.q.find? (fun r => decide ((s.core core).wcall = some r.id)) with
  | some r =>
    if r.delivered.isNone then s.withdraw core r
    else s.modCore core (fun k => { k with run := .running, wcall := none, wresult := none, stack := r.fn :: r.arg :: k.stack })
  | none => s.wcallDone core

/-- The mark on the frame of a task that a failed core has lost (R15). The manual gives the mark no place in the frame: the cluster keeps
the task. DESIGN CHOICE, log 149. -/
def State.markFailed (s : State) (core : Nat) (t : Task) : State :=
  s.modCluster (core / 16) (fun k => { k with failedTasks := k.failedTasks ++ [t] })

/-- The end of a task whose state failed a check: a data error raised in its compartment on the spare core; a core without a task
starts again with the counter selections it has taken over, and a halted one stays halted (R15, R113, R158). -/
def State.loseTask (s : State) (core : Nat) : State :=
  if (s.core core).run = .halted then s else
  match (s.core core).task with
  | none =>
    let p := (s.core core).perf
    (s.coreReset core).modCore core (fun k => { k with perf := p })
  | some t =>
    let s := if (s.core core).run = .waiting then s.endWait core else s
    let s := ((s.settleUse core).markFailed core t).modCore core (fun k => { k with run := .running, task := none })
    let (a, s) := s.openWord
    (s.errSummary core).takeSync core { cause := 0x20, typ := 10, addr := a } false false

/-- The core that reports a task lost without a spare: the lowest working core of the compartment, its own cluster's first (log 150). -/
def State.teller (s : State) (core : Nat) : Option Nat :=
  let own := core / 16
  let cs := own :: (s.clustersOf (s.cid own)).filter (fun n => decide (n ≠ own))
  (cs.flatMap clusterCores).find? (fun c => decide (c ≠ core) && decide ((s.core c).run ≠ .off) && decide ((s.core c).run ≠ .halted) && !(s.core c).retired)

/-- A task lost with its core where no spare is left: its frame is marked, and the data error that ends it is raised in its compartment, as a
deferred report of a working core (R15, R462). -/
def State.tellLost (s : State) (core : Nat) (t : Task) : State :=
  let s := s.markFailed core t
  let (a, s) := s.openWord
  match s.teller core with
  | none => s
  | some c => (s.modCore c (fun k => { k with deferred := k.deferred ++ [⟨0x20, a, false, none⟩] })).errSummary c

/-- A task moved off a core that has no spare: saved to its queue where it stands at a boundary; otherwise it is lost. -/
def State.leaveCore (s : State) (core : Nat) (stateBad : Bool) : State :=
  match (s.core core).task with
  | none => s
  | some t =>
    let (s, saved) : State × Bool := match (if stateBad then none else s.atTaskBoundary core) with
      | some t => s.preempt core t
      | none => (s, false)
    if saved then s else (s.settleUse core).tellLost core t

/-- CORE_FAULT (R15, R201): a discarded store counts as a state that failed its check. -/
def execCoreFault (c : CoreId) (stateBad : Bool) (s : State) : Outcome State Fault Refusal :=
  let core := c.val
  let k := s.core core
  if k.run = .off ∨ k.retired then .next s else
  let (s, lost) := s.failDrain core
  let bad := stateBad || lost
  let s := (s.freshUnit core).recallWcall core
  if (s.cluster (core / 16)).spareUsed then .next (((s.leaveCore core bad).retireCore core)).settle
  else
    let s := s.retireCore core
    .next (if bad then s.loseTask core else s).settle

end Sys2Proof.Machine
end

