-- ==== Sys2Proof/Machine/Drains.lean ====
section
/-! DEFINITION. The ends of drains (R18, R260, R264, R469, R470, R483): the tasks of a cluster saved, its buffers and caches written
back, a band flushed, a channel held. -/

namespace Sys2Proof.Machine

open Host

/-! ### Draining a cluster (R260) -/

/-- The tasks of a list of cores saved as by preemption, whatever PREEMPT says, where each core is at a boundary that allows it. -/
def State.saveTasks (s : State) (cores : List Nat) : State :=
  cores.foldl (fun s core =>
    match s.atTaskBoundary core with
    | some t => (s.preempt core t).1
    | none => s) s

/-- Whether a core stands still: parked, off, or halted. -/
def Core.still (k : Core) : Bool := decide (k.run = .parked) || decide (k.run = .off) || decide (k.run = .halted)

/-- Whether a cluster's drain is complete: no core runs a task, and no WCALL of the cluster is open (R260, R304); for a test or a patch no
core runs a handler either, so that no store can be committed any more (R18). -/
def State.drained (s : State) (n : Nat) : Bool :=
  (clusterCores n).all (fun c => ((s.core c).task.isNone || decide ((s.core c).run = .halted)) && decide ((s.core c).run ≠ .wcalling) && decide ((s.core c).run ≠ .pushing) &&
    (!s.testHeld n || (s.core c).still))

/-- A drained cluster's store buffers emptied and its caches written back (R201, R220). -/
def State.emptyCluster (s : State) (n : Nat) : State :=
  let s := (clusterCores n).foldl (fun s c => s.fullBarrier (s.ctx c)) s
  (s.wbL2 n).updEmpty n

/-- A step of a cluster's drain: tasks saved where they can be; complete, the buffers are empty and the caches written back. -/
def State.drainStep (s : State) (n : Nat) : State × Bool :=
  let s := s.saveTasks (clusterCores n)
  if s.drained n then ((s.emptyCluster n).setSys n true, true) else (s, false)

/-- CLUSTER_DRAIN_END (R264): DRAINED reads 1, or, at the timeout, EN reads 1 again and the cluster runs on. -/
def execClusterDrainEnd (n : ClusterId) (timedOut : Bool) (s : State) : Outcome State Fault Refusal :=
  if (s.cluster n.val).drain ≠ some .cmt then .next s
  else if timedOut then .next ((s.drainBusy n.val).wakeCluster n.val)
  else
    match s.drainStep n.val with
    | (s, false) => .next s.settle
    | (s, true) =>
      let k := Reg.CMT_CLUSTER n.val
      let s := (s.setF k Fld.CMT_CLUSTER_DRAINED 1).setF k Fld.CMT_CLUSTER_RESULT 2
      .next (s.modCluster n.val (fun x => { x with drain := none })).settle

/-! ### The drain of a test (R469, R470) -/

/-- The drain of a test's target carried on: whether it is complete. A channel is drained when its requests are held (R347). -/
def State.istDrainStep (s : State) (r : IstRun) : State × Bool :=
  if r.kind = 0 then s.drainStep r.target
  else if r.kind = 1 then
    ((s.lines.filter (fun e => decide (e.2.band = r.target))).foldl (fun s e => s.evictLine none e.1) s, true)
  else if r.kind = 2 then (s, s.channelHeld r.target)
  else (s, true)

/-- Step 3 of R469 for a drained target: a cluster above 0.8 GHz is first set to 0.8 GHz; where leave is refused it goes back towards
its point. -/
def State.istDrained (s : State) (c : Nat) (r : IstRun) : State :=
  if r.kind ≠ 0 then s.istLeaveStep c r else
  let n := r.target
  let old := s.opPoint n
  let s := (s.setPoint n 0).modCluster n (fun k => { k with ramp := none })
  let s := s.istLeaveStep c r
  match s.istRun c with
  | some _ => s
  | none => (s.rampTo n old).wakeCluster n

/-- IST_DRAIN_END (R469, R470). -/
def execIstDrainEnd (comp : CompId) (us : BitVec 16) (timedOut : Bool) (s : State) : Outcome State Fault Refusal :=
  match s.istRun comp.val with
  | none => .next s
  | some r =>
    if r.running then .next s else
    let took := fun (s : State) => s.setF (Reg.IST_STAT comp.val) Fld.IST_STAT_DRAIN_US us.toNat
    if timedOut then
      let s := (took s).endTest comp.val r 6
      .next (if r.kind = 0 then s.wakeCluster r.target else s).settle
    else
      match s.istDrainStep r with
      | (s, false) => .next s.settle
      | (s, true) => .next ((took s).istDrained comp.val r).settle

/-- A cluster that a test had set to 0.8 GHz sent back towards the point decided for it (R469); level 2 of a throttle raises nothing. -/
def State.backToPoint (s : State) (n : Nat) : State :=
  s.rampTo n (if s.throttle = 2 then min (s.wantedPoint n) (s.opPoint n) else s.wantedPoint n)

/-- IST_TEST_END (R469, R471). -/
def execIstTestEnd (c : CompId) (us : BitVec 32) (slack : BitVec 8) (f : TestFinding) (s : State) : Outcome State Fault Refusal :=
  match s.istRun c.val with
  | none => .next s
  | some r =>
    if r.running = false ∨ istFits r f = false then .next s else
    let late := decide (r.kind = 0) && r.sel.testBit 2 && slack.msb
    let (res, det) := istVerdict r late f (s.cluster r.target).spareUsed
    let k := Reg.IST_STAT c.val
    let s := if r.kind = 0 ∧ r.sel.testBit 2 then
        s.wr (Reg.IST_DTM c.val) (BitVec.ofNat 64 (slack.toNat + b2n slack.msb * 256)) else s
    -- leave is returned and the target restored before the repair changes the unit
    let s := s.endTest c.val r res
    let s := if r.kind = 0 then foldN (fun core s => s.coreReset core) (clusterCores r.target) s else s
    let s := s.istRepair r f
    let s := if r.kind = 0 && !s.isF (Reg.CMT_CLUSTER r.target) Fld.CMT_CLUSTER_FAILED then s.backToPoint r.target else s
    let s := ((s.setF k Fld.IST_STAT_RESULT res).setF k Fld.IST_STAT_DETAIL det).setF k Fld.IST_STAT_RUN_US us.toNat
    let n := r.target
    let s := if r.kind = 0 then
        (if f ≠ .clean ∧ (res = 4 ∨ res = 5) then s.logCluster n 9 3 0#64 (s.rd k) (s.cid n) 0 false
         else s.logRing n 9 0 0#64 (s.rd k) (s.cid n) 0 false) else s
    .next s.settle

/-! ### The drain of an apply (R483) -/

/-- The drain of an apply's unit carried on: whether it is complete. -/
def State.patchDrainStep (s : State) (a : Apply) : State × Bool :=
  if a.kind = 0 then s.drainStep a.target else (s, s.channelHeld a.target)

/-- PATCH_DRAIN_END (R483): the unit is frozen for loading; at the timeout the apply ends with "busy". -/
def execPatchDrainEnd (us : BitVec 16) (timedOut : Bool) (s : State) : Outcome State Fault Refusal :=
  match s.apply with
  | none => .next s
  | some a =>
    if s.loading a then .next s else
    let took := fun (s : State) => s.setF Reg.UPT_STAT Fld.UPT_STAT_DRAIN_US us.toNat
    if timedOut then
      let s := ((took s).endApply a).setUpt 6
      .next (if a.kind = 0 then s.wakeCluster a.target else s).settle
    else
      match s.patchDrainStep a with
      | (s, false) => .next s.settle
      | (s, true) => .next ((took s).beginLoad a).settle

end Sys2Proof.Machine
end

