-- ==== Sys2Proof/Machine/Jtag.lean ====
section
/-! DEFINITION. The JTAG test access port (R515, IEEE 1149.1). -/

namespace Sys2Proof.Machine

open Host

/-- The next state of the TAP for a value of TMS. -/
def Tap.next (t : Tap) (tms : Bool) : Tap :=
  match t, tms with
  | .reset, true => .reset
  | .reset, false => .idle
  | .idle, true => .selDr
  | .idle, false => .idle
  | .selDr, true => .selIr
  | .selDr, false => .capDr
  | .capDr, true => .ex1Dr
  | .capDr, false => .shDr
  | .shDr, true => .ex1Dr
  | .shDr, false => .shDr
  | .ex1Dr, true => .updDr
  | .ex1Dr, false => .pauDr
  | .pauDr, true => .ex2Dr
  | .pauDr, false => .pauDr
  | .ex2Dr, true => .updDr
  | .ex2Dr, false => .shDr
  | .updDr, true => .selDr
  | .updDr, false => .idle
  | .selIr, true => .reset
  | .selIr, false => .capIr
  | .capIr, true => .ex1Ir
  | .capIr, false => .shIr
  | .shIr, true => .ex1Ir
  | .shIr, false => .shIr
  | .ex1Ir, true => .updIr
  | .ex1Ir, false => .pauIr
  | .pauIr, true => .ex2Ir
  | .pauIr, false => .pauIr
  | .ex2Ir, true => .updIr
  | .ex2Ir, false => .shIr
  | .updIr, true => .selDr
  | .updIr, false => .idle

/-- IDCODE (R515). -/
def tapId : BitVec 32 := 0x11536A47#32

/-- The instruction that a code selects: all ones is BYPASS, and so is every code that names no instruction of the lifecycle. -/
def tapDecode (manufacturing : Bool) (code : BitVec 4) : TapIns :=
  if code = 0xF#4 then .bypass
  else if Config.tapIdcode code then .idcode
  else if Config.tapSample code then .sample
  else if manufacturing && Config.tapExtest code then .extest
  else if manufacturing && Config.tapDebug code then .debug
  else .bypass

/-- What the data register captures. -/
def tapCapture (i : TapIns) (x : Word) : BitVec 32 :=
  match i with
  | .idcode => tapId
  | .bypass => 0#32
  | .sample | .extest | .debug => BitVec.ofNat 32 x.toNat

/-- One shift of the selected data register: BYPASS is one bit long; what leaves the boundary register is an open value, since
the manual does not list its cells. -/
def tapShift (i : TapIns) (dr : BitVec 32) (tdi : Bool) (x : Word) : BitVec 32 × Bool :=
  match i with
  | .idcode => (dr >>> 1 ||| (if tdi then 0x80000000#32 else 0#32), dr.toNat.testBit 0)
  | .bypass => (if tdi then 1#32 else 0#32, dr.toNat.testBit 0)
  | .sample | .extest | .debug => (dr, x.toNat.testBit 0)

/-- TAP_OPERATION (R515): a rising edge of TCK; TRST_N low resets the TAP. -/
def execTapOperation (tms tdi trstN : Bool) (s : State) : Outcome State Fault Refusal :=
  if trstN = false then .next { s with jtag := {} } else
  let j := s.jtag
  let (x, s) := if j.ir = .idcode ∨ j.ir = .bypass then (0#64, s) else s.openWord
  let j := match j.st with
    | .capDr => { j with dr := tapCapture j.ir x }
    | .shDr => { j with dr := (tapShift j.ir j.dr tdi x).1, tdo := (tapShift j.ir j.dr tdi x).2 }
    | .capIr => { j with irShift := 1#4 }
    | .shIr => { j with irShift := j.irShift >>> 1 ||| (if tdi then 8#4 else 0#4), tdo := j.irShift.toNat.testBit 0 }
    | _ => j
  let n := j.st.next tms
  let ins := match n with
    | .reset => TapIns.idcode
    | .updIr => tapDecode s.boot.manufacturing j.irShift
    | _ => j.ir
  .next { s with jtag := { j with st := n, ir := ins } }

end Sys2Proof.Machine
end

