-- ==== Sys2Proof/Machine/Dispatch.lean ====
section
/-! DEFINITION. The meaning of each command: one arm for each constructor of Instr, each a direct call of its meaning. -/

namespace Sys2Proof.Machine

open Host

/-- What a command does to everything but the queue. -/
def exec (i : Instr) (s : State) : Host.Outcome State Fault Refusal :=
  match i with
  | .nop c => Sys2Proof.Machine.execNop c s
  | .dup c => Sys2Proof.Machine.execDup c s
  | .drop c => Sys2Proof.Machine.execDrop c s
  | .swap c => Sys2Proof.Machine.execSwap c s
  | .over c => Sys2Proof.Machine.execOver c s
  | .rot c => Sys2Proof.Machine.execRot c s
  | .nrot c => Sys2Proof.Machine.execNrot c s
  | .nip c => Sys2Proof.Machine.execNip c s
  | .tuck c => Sys2Proof.Machine.execTuck c s
  | .dup2 c => Sys2Proof.Machine.execDup2 c s
  | .drop2 c => Sys2Proof.Machine.execDrop2 c s
  | .swap2 c => Sys2Proof.Machine.execSwap2 c s
  | .over2 c => Sys2Proof.Machine.execOver2 c s
  | .depth c => Sys2Proof.Machine.execDepth c s
  | .pushlr c => Sys2Proof.Machine.execPushlr c s
  | .poplr c => Sys2Proof.Machine.execPoplr c s
  | .pushfp c => Sys2Proof.Machine.execPushfp c s
  | .popfp c => Sys2Proof.Machine.execPopfp c s
  | .pick c k => Sys2Proof.Machine.execPick c k s
  | .put c k => Sys2Proof.Machine.execPut c k s
  | .roll c k => Sys2Proof.Machine.execRoll c k s
  | .add c => Sys2Proof.Machine.execAdd c s
  | .sub c => Sys2Proof.Machine.execSub c s
  | .neg c => Sys2Proof.Machine.execNeg c s
  | .and c => Sys2Proof.Machine.execAnd c s
  | .or c => Sys2Proof.Machine.execOr c s
  | .xor c => Sys2Proof.Machine.execXor c s
  | .not c => Sys2Proof.Machine.execNot c s
  | .shl c => Sys2Proof.Machine.execShl c s
  | .shr c => Sys2Proof.Machine.execShr c s
  | .sar c => Sys2Proof.Machine.execSar c s
  | .rol c => Sys2Proof.Machine.execRol c s
  | .ror c => Sys2Proof.Machine.execRor c s
  | .sextb c => Sys2Proof.Machine.execSextb c s
  | .sexth c => Sys2Proof.Machine.execSexth c s
  | .sextw c => Sys2Proof.Machine.execSextw c s
  | .zextw c => Sys2Proof.Machine.execZextw c s
  | .mul c => Sys2Proof.Machine.execMul c s
  | .mulhs c => Sys2Proof.Machine.execMulhs c s
  | .mulhu c => Sys2Proof.Machine.execMulhu c s
  | .div c => Sys2Proof.Machine.execDiv c s
  | .divu c => Sys2Proof.Machine.execDivu c s
  | .rem c => Sys2Proof.Machine.execRem c s
  | .remu c => Sys2Proof.Machine.execRemu c s
  | .eq c => Sys2Proof.Machine.execEq c s
  | .ne c => Sys2Proof.Machine.execNe c s
  | .lt c => Sys2Proof.Machine.execLt c s
  | .ge c => Sys2Proof.Machine.execGe c s
  | .ltu c => Sys2Proof.Machine.execLtu c s
  | .geu c => Sys2Proof.Machine.execGeu c s
  | .gt c => Sys2Proof.Machine.execGt c s
  | .le c => Sys2Proof.Machine.execLe c s
  | .gtu c => Sys2Proof.Machine.execGtu c s
  | .leu c => Sys2Proof.Machine.execLeu c s
  | .eqz c => Sys2Proof.Machine.execEqz c s
  | .nez c => Sys2Proof.Machine.execNez c s
  | .ltz c => Sys2Proof.Machine.execLtz c s
  | .gez c => Sys2Proof.Machine.execGez c s
  | .sel c => Sys2Proof.Machine.execSel c s
  | .lit c v => Sys2Proof.Machine.execLit c v s
  | .litx c z imm => Sys2Proof.Machine.execLitx c z imm s
  | .addi c imm => Sys2Proof.Machine.execAddi c imm s
  | .andi c imm => Sys2Proof.Machine.execAndi c imm s
  | .ori c imm => Sys2Proof.Machine.execOri c imm s
  | .xori c imm => Sys2Proof.Machine.execXori c imm s
  | .shli c k => Sys2Proof.Machine.execShli c k s
  | .shri c k => Sys2Proof.Machine.execShri c k s
  | .sari c k => Sys2Proof.Machine.execSari c k s
  | .roli c k => Sys2Proof.Machine.execRoli c k s
  | .eqi c imm => Sys2Proof.Machine.execEqi c imm s
  | .nei c imm => Sys2Proof.Machine.execNei c imm s
  | .lti c imm => Sys2Proof.Machine.execLti c imm s
  | .ltui c imm => Sys2Proof.Machine.execLtui c imm s
  | .muli c imm => Sys2Proof.Machine.execMuli c imm s
  | .ldl c u => Sys2Proof.Machine.execLdl c u s
  | .stl c u => Sys2Proof.Machine.execStl c u s
  | .lal c u => Sys2Proof.Machine.execLal c u s
  | .ldb c d => Sys2Proof.Machine.execLdb c d s
  | .ldbs c d => Sys2Proof.Machine.execLdbs c d s
  | .ldh c d => Sys2Proof.Machine.execLdh c d s
  | .ldhs c d => Sys2Proof.Machine.execLdhs c d s
  | .ldw c d => Sys2Proof.Machine.execLdw c d s
  | .ldws c d => Sys2Proof.Machine.execLdws c d s
  | .ldd c d => Sys2Proof.Machine.execLdd c d s
  | .stb c d => Sys2Proof.Machine.execStb c d s
  | .sth c d => Sys2Proof.Machine.execSth c d s
  | .stw c d => Sys2Proof.Machine.execStw c d s
  | .std c d => Sys2Proof.Machine.execStd c d s
  | .axchg c double far => Sys2Proof.Machine.execAxchg c double far s
  | .acas c double far => Sys2Proof.Machine.execAcas c double far s
  | .aadd c double far => Sys2Proof.Machine.execAadd c double far s
  | .aand c double far => Sys2Proof.Machine.execAand c double far s
  | .aor c double far => Sys2Proof.Machine.execAor c double far s
  | .axor c double far => Sys2Proof.Machine.execAxor c double far s
  | .amin c double far => Sys2Proof.Machine.execAmin c double far s
  | .amax c double far => Sys2Proof.Machine.execAmax c double far s
  | .aminu c double far => Sys2Proof.Machine.execAminu c double far s
  | .amaxu c double far => Sys2Proof.Machine.execAmaxu c double far s
  | .bz c h a d imm slot => Sys2Proof.Machine.execBz c h a d imm slot s
  | .bnz c h a d imm slot => Sys2Proof.Machine.execBnz c h a d imm slot s
  | .br c d imm => Sys2Proof.Machine.execBr c d imm s
  | .call c d imm => Sys2Proof.Machine.execCall c d imm s
  | .ret c => Sys2Proof.Machine.execRet c s
  | .jmp c => Sys2Proof.Machine.execJmp c s
  | .calli c => Sys2Proof.Machine.execCalli c s
  | .trap c => Sys2Proof.Machine.execTrap c s
  | .hcall c => Sys2Proof.Machine.execHcall c s
  | .wcall c => Sys2Proof.Machine.execWcall c s
  | .eret c => Sys2Proof.Machine.execEret c s
  | .mfs c n => Sys2Proof.Machine.execMfs c n s
  | .mts c n => Sys2Proof.Machine.execMts c n s
  | .lbar c => Sys2Proof.Machine.execLbar c s
  | .sbar c => Sys2Proof.Machine.execSbar c s
  | .mbar c => Sys2Proof.Machine.execMbar c s
  | .isync c => Sys2Proof.Machine.execIsync c s
  | .csync c => Sys2Proof.Machine.execCsync c s
  | .tlbsync c => Sys2Proof.Machine.execTlbsync c s
  | .dclean c => Sys2Proof.Machine.execDclean c s
  | .dflush c => Sys2Proof.Machine.execDflush c s
  | .dinv c => Sys2Proof.Machine.execDinv c s
  | .iclean c => Sys2Proof.Machine.execIclean c s
  | .prefr c => Sys2Proof.Machine.execPrefr c s
  | .prefw c => Sys2Proof.Machine.execPrefw c s
  | .dcleanR c => Sys2Proof.Machine.execDcleanR c s
  | .dflushR c => Sys2Proof.Machine.execDflushR c s
  | .dinvR c => Sys2Proof.Machine.execDinvR c s
  | .icleanR c => Sys2Proof.Machine.execIcleanR c s
  | .tlbiVa c => Sys2Proof.Machine.execTlbiVa c s
  | .tlbiAsid c => Sys2Proof.Machine.execTlbiAsid c s
  | .tlbiAll c => Sys2Proof.Machine.execTlbiAll c s
  | .tlbiIpa c => Sys2Proof.Machine.execTlbiIpa c s
  | .tlbiVmid c => Sys2Proof.Machine.execTlbiVmid c s
  | .tlbiHall c => Sys2Proof.Machine.execTlbiHall c s
  | .tlbibVa c => Sys2Proof.Machine.execTlbibVa c s
  | .tlbibAsid c => Sys2Proof.Machine.execTlbibAsid c s
  | .tlbibAll c => Sys2Proof.Machine.execTlbibAll c s
  | .tlbibIpa c => Sys2Proof.Machine.execTlbibIpa c s
  | .tlbibVmid c => Sys2Proof.Machine.execTlbibVmid c s
  | .tlbibHall c => Sys2Proof.Machine.execTlbibHall c s
  | .tlbBroadcastReceived n => Sys2Proof.Machine.execTlbBroadcastReceived n s
  | .qpush c => Sys2Proof.Machine.execQpush c s
  | .qpop c => Sys2Proof.Machine.execQpop c s
  | .qdone c => Sys2Proof.Machine.execQdone c s
  | .wait c => Sys2Proof.Machine.execWait c s
  | .waitEnd c => Sys2Proof.Machine.execWaitEnd c s
  | .yield c => Sys2Proof.Machine.execYield c s
  | .aese c => Sys2Proof.Machine.execAese c s
  | .aesel c => Sys2Proof.Machine.execAesel c s
  | .aesd c => Sys2Proof.Machine.execAesd c s
  | .aesdl c => Sys2Proof.Machine.execAesdl c s
  | .aesimc c => Sys2Proof.Machine.execAesimc c s
  | .aeskg c => Sys2Proof.Machine.execAeskg c s
  | .sha256sig0 c => Sys2Proof.Machine.execSha256sig0 c s
  | .sha256sig1 c => Sys2Proof.Machine.execSha256sig1 c s
  | .sha256sum0 c => Sys2Proof.Machine.execSha256sum0 c s
  | .sha256sum1 c => Sys2Proof.Machine.execSha256sum1 c s
  | .sha512sig0 c => Sys2Proof.Machine.execSha512sig0 c s
  | .sha512sig1 c => Sys2Proof.Machine.execSha512sig1 c s
  | .sha512sum0 c => Sys2Proof.Machine.execSha512sum0 c s
  | .sha512sum1 c => Sys2Proof.Machine.execSha512sum1 c s
  | .clmul c => Sys2Proof.Machine.execClmul c s
  | .clmulh c => Sys2Proof.Machine.execClmulh c s
  | .clz c => Sys2Proof.Machine.execClz c s
  | .ctz c => Sys2Proof.Machine.execCtz c s
  | .popc c => Sys2Proof.Machine.execPopc c s
  | .bswap c => Sys2Proof.Machine.execBswap c s
  | .brev c => Sys2Proof.Machine.execBrev c s
  | .andn c => Sys2Proof.Machine.execAndn c s
  | .orn c => Sys2Proof.Machine.execOrn c s
  | .xnor c => Sys2Proof.Machine.execXnor c s
  | .mins c => Sys2Proof.Machine.execMins c s
  | .maxs c => Sys2Proof.Machine.execMaxs c s
  | .minu c => Sys2Proof.Machine.execMinu c s
  | .maxu c => Sys2Proof.Machine.execMaxu c s
  | .bch c => Sys2Proof.Machine.execBch c s
  | .bmaj c => Sys2Proof.Machine.execBmaj c s
  | .bfx c => Sys2Proof.Machine.execBfx c s
  | .sealB c => Sys2Proof.Machine.execSealB c s
  | .sealH c => Sys2Proof.Machine.execSealH c s
  | .sealW c => Sys2Proof.Machine.execSealW c s
  | .sealD c => Sys2Proof.Machine.execSealD c s
  | .exceptionEntry c e => Sys2Proof.Machine.execExceptionEntry c e s
  | .interruptEntry c => Sys2Proof.Machine.execInterruptEntry c s
  | .lateArrival c => Sys2Proof.Machine.execLateArrival c s
  | .deferredReport c => Sys2Proof.Machine.execDeferredReport c s
  | .timerCompare c => Sys2Proof.Machine.execTimerCompare c s
  | .ciiSet a c v => Sys2Proof.Machine.execCiiSet a c v s
  | .storeBufferDrain c => Sys2Proof.Machine.execStoreBufferDrain c s
  | .devicePostedAccept c => Sys2Proof.Machine.execDevicePostedAccept c s
  | .loadReturn c => Sys2Proof.Machine.execLoadReturn c s
  | .tableWalk c k va => Sys2Proof.Machine.execTableWalk c k va s
  | .pmcOverflow c n => Sys2Proof.Machine.execPmcOverflow c n s
  | .l3Read c pa => Sys2Proof.Machine.execL3Read c pa s
  | .ownershipRequest c pa => Sys2Proof.Machine.execOwnershipRequest c pa s
  | .writeBack n pa => Sys2Proof.Machine.execWriteBack n pa s
  | .evictionNotice n pa => Sys2Proof.Machine.execEvictionNotice n pa s
  | .invalidate n pa => Sys2Proof.Machine.execInvalidate n pa s
  | .recall n pa => Sys2Proof.Machine.execRecall n pa s
  | .downgrade n pa => Sys2Proof.Machine.execDowngrade n pa s
  | .farAtomic c op double pa v exp => Sys2Proof.Machine.execFarAtomic c op double pa v exp s
  | .dmaMemoryRead cid pa => Sys2Proof.Machine.execDmaMemoryRead cid pa s
  | .dmaMemoryWrite cid pa data mask => Sys2Proof.Machine.execDmaMemoryWrite cid pa data mask s
  | .l3sSpareGo a sl v => Sys2Proof.Machine.execL3sSpareGo a sl v s
  | .spareWaySet sl => Sys2Proof.Machine.execSpareWaySet sl s
  | .l3bmFlushGo a v => Sys2Proof.Machine.execL3bmFlushGo a v s
  | .bandFlushEnd stoppedAfter => Sys2Proof.Machine.execBandFlushEnd stoppedAfter s
  | .l2cPfWrite a n v => Sys2Proof.Machine.execL2cPfWrite a n v s
  | .slotBreak c q idx claimer => Sys2Proof.Machine.execSlotBreak c q idx claimer s
  | .taskDispatch c => Sys2Proof.Machine.execTaskDispatch c s
  | .parkWake c => Sys2Proof.Machine.execParkWake c s
  | .workMaskBroadcast n => Sys2Proof.Machine.execWorkMaskBroadcast n s
  | .preemption c => Sys2Proof.Machine.execPreemption c s
  | .cmtClusterDrain a n v => Sys2Proof.Machine.execCmtClusterDrain a n v s
  | .clusterDrainEnd n timedOut => Sys2Proof.Machine.execClusterDrainEnd n timedOut s
  | .cmtClusterAssign a n v => Sys2Proof.Machine.execCmtClusterAssign a n v s
  | .cmtBandWrite a k v => Sys2Proof.Machine.execCmtBandWrite a k v s
  | .colorSweep a k v => Sys2Proof.Machine.execColorSweep a k v s
  | .colorSweepEnd k => Sys2Proof.Machine.execColorSweepEnd k s
  | .cmpSteerWrite a comp j v => Sys2Proof.Machine.execCmpSteerWrite a comp j v s
  | .resteerEnd comp j => Sys2Proof.Machine.execResteerEnd comp j s
  | .beatMapWrite a w ix v => Sys2Proof.Machine.execBeatMapWrite a w ix v s
  | .beatMapApply w => Sys2Proof.Machine.execBeatMapApply w s
  | .slotGrant w askers => Sys2Proof.Machine.execSlotGrant w askers s
  | .cmpCtlWrite a comp v => Sys2Proof.Machine.execCmpCtlWrite a comp v s
  | .cmpDtmWrite a comp v => Sys2Proof.Machine.execCmpDtmWrite a comp v s
  | .cmpBarCtlWrite a comp v => Sys2Proof.Machine.execCmpBarCtlWrite a comp v s
  | .barArrive c comp => Sys2Proof.Machine.execBarArrive c comp s
  | .arbiterDecision b ask => Sys2Proof.Machine.execArbiterDecision b ask s
  | .hogCutoff b ask => Sys2Proof.Machine.execHogCutoff b ask s
  | .penaltyEnd b r => Sys2Proof.Machine.execPenaltyEnd b r s
  | .arbPrioWrite a b hi v => Sys2Proof.Machine.execArbPrioWrite a b hi v s
  | .blkFreezeWrite a b v => Sys2Proof.Machine.execBlkFreezeWrite a b v s
  | .secureAttributeWrite a u v => Sys2Proof.Machine.execSecureAttributeWrite a u v s
  | .wcallDelivery => Sys2Proof.Machine.execWcallDelivery s
  | .wcallReply c v => Sys2Proof.Machine.execWcallReply c v s
  | .wcallComplete c => Sys2Proof.Machine.execWcallComplete c s
  | .wcallTimeout id => Sys2Proof.Machine.execWcallTimeout id s
  | .wdnRestart a v => Sys2Proof.Machine.execWdnRestart a v s
  | .wardenReloadEnd => Sys2Proof.Machine.execWardenReloadEnd s
  | .swdCtlEn a v => Sys2Proof.Machine.execSwdCtlEn a v s
  | .swdKick a v => Sys2Proof.Machine.execSwdKick a v s
  | .swdStage1Expiry => Sys2Proof.Machine.execSwdStage1Expiry s
  | .swdStage2Expiry => Sys2Proof.Machine.execSwdStage2Expiry s
  | .meterPost pt => Sys2Proof.Machine.execMeterPost pt s
  | .minuteStrike => Sys2Proof.Machine.execMinuteStrike s
  | .spanClose => Sys2Proof.Machine.execSpanClose s
  | .recordSeal => Sys2Proof.Machine.execRecordSeal s
  | .ledgerCheckpoint => Sys2Proof.Machine.execLedgerCheckpoint s
  | .energyApportion island uj => Sys2Proof.Machine.execEnergyApportion island uj s
  | .bandMsTick => Sys2Proof.Machine.execBandMsTick s
  | .lgExport a v => Sys2Proof.Machine.execLgExport a v s
  | .lgExportEnd => Sys2Proof.Machine.execLgExportEnd s
  | .lgWind a v => Sys2Proof.Machine.execLgWind a v s
  | .lgFormat a v => Sys2Proof.Machine.execLgFormat a v s
  | .dramRequest asker pa wr data mask => Sys2Proof.Machine.execDramRequest asker pa wr data mask s
  | .partialWriteMerge u bank => Sys2Proof.Machine.execPartialWriteMerge u bank s
  | .dramCommandIssue u => Sys2Proof.Machine.execDramCommandIssue u s
  | .dramPhaseChange u => Sys2Proof.Machine.execDramPhaseChange u s
  | .dramRefresh u k => Sys2Proof.Machine.execDramRefresh u k s
  | .refreshRateStep n tempC => Sys2Proof.Machine.execRefreshRateStep n tempC s
  | .retrainRound n => Sys2Proof.Machine.execRetrainRound n s
  | .retrainPause n ok last => Sys2Proof.Machine.execRetrainPause n ok last s
  | .channelTraining n ok => Sys2Proof.Machine.execChannelTraining n ok s
  | .caParityAlert u pa wr retriesFail pauseFails => Sys2Proof.Machine.execCaParityAlert u pa wr retriesFail pauseFails s
  | .patrolScrub pa => Sys2Proof.Machine.execPatrolScrub pa s
  | .sparingTrigger n => Sys2Proof.Machine.execSparingTrigger n s
  | .dmgSpareGo a v => Sys2Proof.Machine.execDmgSpareGo a v s
  | .sparingCopyEnd => Sys2Proof.Machine.execSparingCopyEnd s
  | .channelDrain n => Sys2Proof.Machine.execChannelDrain n s
  | .coreDeviceRead c width sext data => Sys2Proof.Machine.execCoreDeviceRead c width sext data s
  | .coreDeviceReadError c width sext e => Sys2Proof.Machine.execCoreDeviceReadError c width sext e s
  | .inboundRequest p rid k addr data len => Sys2Proof.Machine.execInboundRequest p rid k addr data len s
  | .iommuWalk p rid iova wr => Sys2Proof.Machine.execIommuWalk p rid iova wr s
  | .atsTranslationRequest p rid iova => Sys2Proof.Machine.execAtsTranslationRequest p rid iova s
  | .pageRequest p rid page prg last wr rd => Sys2Proof.Machine.execPageRequest p rid page prg last wr rd s
  | .iomPrgr a p v => Sys2Proof.Machine.execIomPrgr a p v s
  | .iomInv a p v => Sys2Proof.Machine.execIomInv a p v s
  | .iomInvComplete p => Sys2Proof.Machine.execIomInvComplete p s
  | .atsInvalidationTimeout p => Sys2Proof.Machine.execAtsInvalidationTimeout p s
  | .iomRteWrite a p ix v => Sys2Proof.Machine.execIomRteWrite a p ix v s
  | .dmaJobTake n => Sys2Proof.Machine.execDmaJobTake n s
  | .dmaCopy n => Sys2Proof.Machine.execDmaCopy n s
  | .dmaFill n => Sys2Proof.Machine.execDmaFill n s
  | .dmaCopyCrc n => Sys2Proof.Machine.execDmaCopyCrc n s
  | .dmaCrc n => Sys2Proof.Machine.execDmaCrc n s
  | .dmaAttrWrite a n v => Sys2Proof.Machine.execDmaAttrWrite a n v s
  | .msiWrite p rid addr data => Sys2Proof.Machine.execMsiWrite p rid addr data s
  | .heldEventRepost d => Sys2Proof.Machine.execHeldEventRepost d s
  | .gpioEdge n level => Sys2Proof.Machine.execGpioEdge n level s
  | .irqSet a page v => Sys2Proof.Machine.execIrqSet a page v s
  | .irqEnWrite a page v => Sys2Proof.Machine.execIrqEnWrite a page v s
  | .malformedTlp p l => Sys2Proof.Machine.execMalformedTlp p l s
  | .unsupportedRequest p l k => Sys2Proof.Machine.execUnsupportedRequest p l k s
  | .unexpectedCompletion p l => Sys2Proof.Machine.execUnexpectedCompletion p l s
  | .poisonedWriteReceived p rid addr data => Sys2Proof.Machine.execPoisonedWriteReceived p rid addr data s
  | .acsViolation p l posted => Sys2Proof.Machine.execAcsViolation p l posted s
  | .ideIntegrityFailure p l stream => Sys2Proof.Machine.execIdeIntegrityFailure p l stream s
  | .completionTimeout c width sext => Sys2Proof.Machine.execCompletionTimeout c width sext s
  | .dpcRelease p l => Sys2Proof.Machine.execDpcRelease p l s
  | .pcieLinkTraining p l ok => Sys2Proof.Machine.execPcieLinkTraining p l ok s
  | .fabLinkTraining p ok peerRing => Sys2Proof.Machine.execFabLinkTraining p ok peerRing s
  | .fabRetrain a p v => Sys2Proof.Machine.execFabRetrain a p v s
  | .fabWidthChange p w => Sys2Proof.Machine.execFabWidthChange p w s
  | .push p f => Sys2Proof.Machine.execPush p f s
  | .getReq p f => Sys2Proof.Machine.execGetReq p f s
  | .pushRsp p f => Sys2Proof.Machine.execPushRsp p f s
  | .putRsp p f => Sys2Proof.Machine.execPutRsp p f s
  | .getRsp p f => Sys2Proof.Machine.execGetRsp p f s
  | .arrive p f => Sys2Proof.Machine.execArrive p f s
  | .release p f => Sys2Proof.Machine.execRelease p f s
  | .bcast p f => Sys2Proof.Machine.execBcast p f s
  | .snap p f => Sys2Proof.Machine.execSnap p f s
  | .snapshotAct comp => Sys2Proof.Machine.execSnapshotAct comp s
  | .reset p f => Sys2Proof.Machine.execReset p f s
  | .sync p t1 t2 t3 t4 hops => Sys2Proof.Machine.execSync p t1 t2 t3 t4 hops s
  | .syncExchangeStart p => Sys2Proof.Machine.execSyncExchangeStart p s
  | .hello p node port ring => Sys2Proof.Machine.execHello p node port ring s
  | .syncHoldover => Sys2Proof.Machine.execSyncHoldover s
  | .syncLost => Sys2Proof.Machine.execSyncLost s
  | .frameCrcError p => Sys2Proof.Machine.execFrameCrcError p s
  | .nak p seq reason => Sys2Proof.Machine.execNak p seq reason s
  | .ack p seq => Sys2Proof.Machine.execAck p seq s
  | .creditReturn p vc cells => Sys2Proof.Machine.execCreditReturn p vc cells s
  | .fabViolation p f reason => Sys2Proof.Machine.execFabViolation p f reason s
  | .portQuarantine p => Sys2Proof.Machine.execPortQuarantine p s
  | .fabUnq a p v => Sys2Proof.Machine.execFabUnq a p v s
  | .linkLost p => Sys2Proof.Machine.execLinkLost p s
  | .fxcTail a comp v => Sys2Proof.Machine.execFxcTail a comp v s
  | .fabCmdPut comp => Sys2Proof.Machine.execFabCmdPut comp s
  | .fabCmdGet comp => Sys2Proof.Machine.execFabCmdGet comp s
  | .fabCmdBarrier comp => Sys2Proof.Machine.execFabCmdBarrier comp s
  | .fabCmdReduce comp => Sys2Proof.Machine.execFabCmdReduce comp s
  | .fabCmdBcast comp => Sys2Proof.Machine.execFabCmdBcast comp s
  | .fabCmdSnap comp => Sys2Proof.Machine.execFabCmdSnap comp s
  | .fabCommandCompletion comp idx => Sys2Proof.Machine.execFabCommandCompletion comp idx s
  | .fabCmdTimeout comp idx => Sys2Proof.Machine.execFabCmdTimeout comp idx s
  | .fabgRstout a v => Sys2Proof.Machine.execFabgRstout a v s
  | .fxcAccWrite a comp v => Sys2Proof.Machine.execFxcAccWrite a comp v s
  | .leaveRequest op => Sys2Proof.Machine.execLeaveRequest op s
  | .cryptoLeave n => Sys2Proof.Machine.execCryptoLeave n s
  | .cryptoLeaveRetry n => Sys2Proof.Machine.execCryptoLeaveRetry n s
  | .cryptoLeaveReturn n => Sys2Proof.Machine.execCryptoLeaveReturn n s
  | .boostLapse n => Sys2Proof.Machine.execBoostLapse n s
  | .currentMeasurement credits => Sys2Proof.Machine.execCurrentMeasurement credits s
  | .rampStep n => Sys2Proof.Machine.execRampStep n s
  | .rmtShareWrite a pool v => Sys2Proof.Machine.execRmtShareWrite a pool v s
  | .coreIdleEntry c => Sys2Proof.Machine.execCoreIdleEntry c s
  | .islandIdleEntry ix => Sys2Proof.Machine.execIslandIdleEntry ix s
  | .blkPwrReq a page v => Sys2Proof.Machine.execBlkPwrReq a page v s
  | .pwcDevReq a v => Sys2Proof.Machine.execPwcDevReq a v s
  | .handshakeAnswer page r => Sys2Proof.Machine.execHandshakeAnswer page r s
  | .handshakeDelayEnd page r => Sys2Proof.Machine.execHandshakeDelayEnd page r s
  | .handshakeTimeout page => Sys2Proof.Machine.execHandshakeTimeout page s
  | .handshakeAbort ix => Sys2Proof.Machine.execHandshakeAbort ix s
  | .handshakeCommit ix => Sys2Proof.Machine.execHandshakeCommit ix s
  | .islandWake ix => Sys2Proof.Machine.execIslandWake ix s
  | .autoSleep n => Sys2Proof.Machine.execAutoSleep n s
  | .autowakeAccess page => Sys2Proof.Machine.execAutowakeAccess page s
  | .autowakeTimeout page => Sys2Proof.Machine.execAutowakeTimeout page s
  | .operatingPointDecision comp asked => Sys2Proof.Machine.execOperatingPointDecision comp asked s
  | .indexDecision ch reason => Sys2Proof.Machine.execIndexDecision ch reason s
  | .indexCoreStall k => Sys2Proof.Machine.execIndexCoreStall k s
  | .droopEvent ix => Sys2Proof.Machine.execDroopEvent ix s
  | .emergencyThrottleL1 tempC => Sys2Proof.Machine.execEmergencyThrottleL1 tempC s
  | .emergencyThrottleL2 r => Sys2Proof.Machine.execEmergencyThrottleL2 r s
  | .throttleStepDown => Sys2Proof.Machine.execThrottleStepDown s
  | .throttleEnd => Sys2Proof.Machine.execThrottleEnd s
  | .prochotAsserted => Sys2Proof.Machine.execProchotAsserted s
  | .prochotRelease outside => Sys2Proof.Machine.execProchotRelease outside s
  | .thermalTrip => Sys2Proof.Machine.execThermalTrip s
  | .timebaseCorrection => Sys2Proof.Machine.execTimebaseCorrection s
  | .tbcSet a v => Sys2Proof.Machine.execTbcSet a v s
  | .tbcSlew a v => Sys2Proof.Machine.execTbcSlew a v s
  | .pwrgoodDeassert => Sys2Proof.Machine.execPwrgoodDeassert s
  | .vinUndervoltage => Sys2Proof.Machine.execVinUndervoltage s
  | .startUp r => Sys2Proof.Machine.execStartUp r s
  | .xtal25Timeout => Sys2Proof.Machine.execXtal25Timeout s
  | .ivrReadyTimeout ix => Sys2Proof.Machine.execIvrReadyTimeout ix s
  | .rstHovGo a v => Sys2Proof.Machine.execRstHovGo a v s
  | .status => Sys2Proof.Machine.execStatus s
  | .retry => Sys2Proof.Machine.execRetry s
  | .off => Sys2Proof.Machine.execOff s
  | .flashWrite off data => Sys2Proof.Machine.execFlashWrite off data s
  | .flashErase sector => Sys2Proof.Machine.execFlashErase sector s
  | .wakeN => Sys2Proof.Machine.execWakeN s
  | .i3cWake => Sys2Proof.Machine.execI3cWake s
  | .resetN ns => Sys2Proof.Machine.execResetN ns s
  | .coldReset a => Sys2Proof.Machine.execColdReset a s
  | .warmDeviceReset a => Sys2Proof.Machine.execWarmDeviceReset a s
  | .compartmentReset a comp => Sys2Proof.Machine.execCompartmentReset a comp s
  | .clusterReset a n => Sys2Proof.Machine.execClusterReset a n s
  | .coreReset a c => Sys2Proof.Machine.execCoreReset a c s
  | .blockReset a page => Sys2Proof.Machine.execBlockReset a page s
  | .rstArbWrite a k v => Sys2Proof.Machine.execRstArbWrite a k v s
  | .coreFault c stateBad => Sys2Proof.Machine.execCoreFault c stateBad s
  | .clusterFault n => Sys2Proof.Machine.execClusterFault n s
  | .ivrPhaseFault ix => Sys2Proof.Machine.execIvrPhaseFault ix s
  | .meshFlitCrcFail c va wr => Sys2Proof.Machine.execMeshFlitCrcFail c va wr s
  | .d2dReplay l retrain => Sys2Proof.Machine.execD2dReplay l retrain s
  | .mramUncorrectable m => Sys2Proof.Machine.execMramUncorrectable m s
  | .errInject a page v => Sys2Proof.Machine.execErrInject a page v s
  | .istReqGo a comp v => Sys2Proof.Machine.execIstReqGo a comp v s
  | .istDrainEnd comp us timedOut => Sys2Proof.Machine.execIstDrainEnd comp us timedOut s
  | .istTestEnd comp us slack r => Sys2Proof.Machine.execIstTestEnd comp us slack r s
  | .uptStage a v => Sys2Proof.Machine.execUptStage a v s
  | .uptCommit a v => Sys2Proof.Machine.execUptCommit a v s
  | .uptApply a v => Sys2Proof.Machine.execUptApply a v s
  | .patchDrainEnd us timedOut => Sys2Proof.Machine.execPatchDrainEnd us timedOut s
  | .patchLoadEnd ok => Sys2Proof.Machine.execPatchLoadEnd ok s
  | .blkOwnerWrite a page v => Sys2Proof.Machine.execBlkOwnerWrite a page v s
  | .registerWrite a pa w32 v => Sys2Proof.Machine.execRegisterWrite a pa w32 v s
  | .windowPut p f => Sys2Proof.Machine.execWindowPut p f s
  | .remotePushTimeout c => Sys2Proof.Machine.execRemotePushTimeout c s
  | .targetAcceptance c => Sys2Proof.Machine.execTargetAcceptance c s
  | .pcieLinkLoss p l => Sys2Proof.Machine.execPcieLinkLoss p l s
  | .unsparedUnitFault ix => Sys2Proof.Machine.execUnsparedUnitFault ix s
  | .vstbyLoss => Sys2Proof.Machine.execVstbyLoss s
  | .tapOperation tms tdi trstN => Sys2Proof.Machine.execTapOperation tms tdi trstN s
  | .resetDrainEnd n => Sys2Proof.Machine.execResetDrainEnd n s

end Sys2Proof.Machine
end

