-- ==== Sys2Proof/Machine/Step.lean ====
section
/-! DEFINITION. One step: the command at the front of the queue is executed with the queue's rest; an empty queue lets the
timebase tick. -/

namespace Sys2Proof.Machine

open Host

/-- What the block does while no command waits: the timebase counts (R442). DESIGN CHOICE, log 1. -/
def idleStep (s : State) : State := s.idleTick

/-- One step. -/
def step (s : State) : Host.Outcome State Fault Refusal :=
  match s.pending with
  | [] => .next (idleStep s)
  | c :: rest => exec c { s with pending := rest }

/-- The command that a word spells put at the front of the queue; the table spells none. -/
def State.withFetchWord (s : State) (nbits w : Nat) : State :=
  match Sys2Proof.decodeTableWord nbits w with
  | some c => { s with pending := c :: s.pending }
  | none => s

end Sys2Proof.Machine
end

