-- ==== Sys2Proof/Safety.lean ====
section
/-! DEFINITION. What counts as a safe step: the block answers a next state. -/

namespace Sys2Proof

/-- A step that neither faults nor is refused. -/
def Safe (s : Machine.State) : Prop := ∃ t, Machine.step s = .next t

end Sys2Proof
end

