-- ==== Sys2Proof/Certificates/Slice0/Obligations.lean ====
section
/-! DEFINITION. The statements about the model, for the provers: each formalises rules of spec/ that its docstring names. The
vocabulary they share stands before the statements that use it, under Sys2Proof.Claims. -/

namespace Sys2Proof.Claims

open Sys2Proof.Machine

/-! ### The queue of commands and the reset state -/

/-- The lists that stand for sparse maps are in their canonical form: keys strictly rising, no entry equal to what an unlisted key
reads as. -/
def Canonical (s : State) : Prop :=
  Memory.wf s.mem = true ∧ smWf (resetOf s.code) s.regs = true ∧ smWf (fun _ => ({} : Core)) s.cores = true ∧
    smWf (fun _ => ({} : Cluster)) s.clusters = true

end Sys2Proof.Claims

/-- A step takes the command at the front of the queue and executes it with the queue's rest; what a step answers is what the
command's meaning answers. -/
def Obligations.StepExecutesTheFrontCommand : Prop :=
  ∀ (i : Sys2Proof.Instr) (q : List Sys2Proof.Instr) (s : Sys2Proof.Machine.State),
    Sys2Proof.Machine.step { s with pending := i :: q } = Sys2Proof.Machine.exec i { s with pending := q }

/-- A step on an empty queue answers a next state in which the timebase alone has counted (R442): the model's choice (log 1). Without
VSTBY it does not count. In OFF and in the limp state one step is one tick of 30,517.578125 ns, whole nanoseconds in the timebase and
the rest, in millionths, in the accumulator, so that no part of a tick is lost. In every other state one step is one nanosecond. -/
def Obligations.IdleStepCountsOneNanosecond : Prop :=
  ∀ s : Sys2Proof.Machine.State, s.pending = [] →
    (s.boot.st = .noPower → Sys2Proof.Machine.step s = .next s) ∧
    (s.boot.st = .off ∨ s.boot.st = .offLocked ∨ s.boot.st = .limp →
      ∃ (n a : Int), Sys2Proof.Machine.step s = .next { s with tb := s.tb + BitVec.ofInt 64 n, slewAcc := a } ∧
        n * 1000000 + a = 30517578125 + s.slewAcc ∧ 0 ≤ a ∧ a < 1000000) ∧
    (s.boot.st ≠ .noPower → s.boot.st ≠ .off → s.boot.st ≠ .offLocked → s.boot.st ≠ .limp →
      Sys2Proof.Machine.step s = .next { s with tb := s.tb + 1#64 })

/-- A step never touches the commands that wait behind the one it takes: they leave the queue in the order in which they came. -/
def Obligations.CommandsLeaveTheQueueInOrder : Prop :=
  ∀ (i : Sys2Proof.Instr) (q : List Sys2Proof.Instr) (s t : Sys2Proof.Machine.State),
    Sys2Proof.Machine.step { s with pending := i :: q } = .next t → t.pending = q

/-- Reset: no command waits, the timebase is 0, every core is off at U with interrupts disabled, an empty stack cache and an empty
store buffer, FMASK is 0x3F and both compare registers all ones, no line is cached, no byte of memory is listed, and every
register of the atlas reads its reset value. -/
def Obligations.ResetStateHoldsTheResetValues : Prop :=
  let s := Sys2Proof.Machine.State.reset
  s.pending = [] ∧ s.tb = 0#64 ∧ s.lines = [] ∧ s.mem = [] ∧ s.poison = [] ∧ s.boot.st = .noPower ∧
  (∀ c : Nat, (s.core c).run = .off ∧ (s.core c).stack = [] ∧ (s.core c).sb = [] ∧ (s.core c).ie = false ∧
    (s.core c).sync.fmask = 0x3F#64 ∧ (s.core c).eff = (s.core c).sync ∧
    (s.core c).tcmpK = 0xFFFFFFFFFFFFFFFF#64 ∧ (s.core c).tcmpHW = 0xFFFFFFFFFFFFFFFF#64) ∧
  (∀ k : Nat, s.rd k = Sys2Proof.Machine.resetOf s.code k) ∧ (∀ a : Nat, s.byteAt a = 0#8)

/-- The reset state is in the canonical form. -/
def Obligations.ResetStateIsCanonical : Prop := Sys2Proof.Claims.Canonical Sys2Proof.Machine.State.reset

/-- Every step keeps the canonical form of memory, of the register atlas, of the cores and of the clusters, so that equal contents
are equal data. -/
def Obligations.EveryStepKeepsTheCanonicalForm : Prop :=
  ∀ s t : Sys2Proof.Machine.State, Sys2Proof.Claims.Canonical s → Sys2Proof.Machine.step s = .next t → Sys2Proof.Claims.Canonical t

namespace Sys2Proof.Claims

open Sys2Proof.Machine

/-! ### What an instruction needs, and what it leaves (R31 to R34, R57) -/

/-- The core `c` runs and starts an instruction: it has no deferred report and no interrupt to take first (R122, R128). -/
def Starts (s : State) (c : CoreId) : Prop := (s.core c.val).run = .running ∧ s.boundary c.val = none

/-- The core `c` starts the instruction, whose feature is visible, its stack checks pass for `m` entries popped and `n` pushed (R31),
the places of its spills translate, and its fills succeed and leave the state `t`. Where the tag of the core's use changes with this
instruction, what the old tag has had is charged first (R46): that is `begin`. -/
def Ready (s : State) (c : CoreId) (m n : Nat) (feat : Option Nat) (t : State) (ps : List (List Part)) : Prop :=
  Starts s c ∧ (s.ctx c.val).gate feat = true ∧
  (s.core c.val).stackCheck (s.ctx c.val).lvl m n = none ∧
  ∃ u, State.checkSpills (s.ctx c.val) (spillsFor (s.core c.val).stack.length m n) (s.begin c.val)
      (((s.core c.val).bank (s.ctx c.val).lvl).osp - BitVec.ofNat 64 (8 * (m - (s.core c.val).stack.length))) = (u, .ok ps) ∧
    State.fillN (s.ctx c.val) (m - (s.core c.val).stack.length) u = (t, none)

/-- The state after an instruction of `len` bytes: `f` done to the core in the state `t`, the spills made, the instruction retired
with the PC behind it. -/
def Leaves (s t : State) (c : CoreId) (len : Nat) (f : Core → Core) (ps : List (List Part)) : State :=
  (State.spillTo (s.ctx c.val) (t.modCore c.val f) ps).retire c.val len

/-- The top `m` entries replaced by `rs`, top first. -/
def Results (m : Nat) (rs : List Word) : Core → Core := fun k => { k with stack := rs ++ k.stack.drop m }

/-- ( -- rs ), in every state whose checks pass. -/
def Gives0 (i : CoreId → Instr) (rs : Core → List Word) (n : Nat) : Prop :=
  ∀ c s t ps, Ready s c 0 n none t ps → exec (i c) s = .next (Leaves s t c 2 (Results 0 (rs (t.core c.val))) ps)

/-- ( a -- rs ): what follows the operand on the stack stays below the results. -/
def Gives1 (i : CoreId → Instr) (feat : Option Nat) (n : Nat) (f : Word → List Word) : Prop :=
  ∀ c s t ps a rest, Ready s c 1 n feat t ps → (t.core c.val).stack = a :: rest →
    exec (i c) s = .next (Leaves s t c 2 (fun k => { k with stack := f a ++ rest }) ps)

/-- ( a b -- rs ) -/
def Gives2 (i : CoreId → Instr) (feat : Option Nat) (n : Nat) (f : Word → Word → List Word) : Prop :=
  ∀ c s t ps a b rest, Ready s c 2 n feat t ps → (t.core c.val).stack = b :: a :: rest →
    exec (i c) s = .next (Leaves s t c 2 (fun k => { k with stack := f a b ++ rest }) ps)

/-- ( a b c -- rs ) -/
def Gives3 (i : CoreId → Instr) (feat : Option Nat) (n : Nat) (f : Word → Word → Word → List Word) : Prop :=
  ∀ c s t ps x y z rest, Ready s c 3 n feat t ps → (t.core c.val).stack = z :: y :: x :: rest →
    exec (i c) s = .next (Leaves s t c 2 (fun k => { k with stack := f x y z ++ rest }) ps)

/-- ( a b c d -- rs ) -/
def Gives4 (i : CoreId → Instr) (n : Nat) (f : Word → Word → Word → Word → List Word) : Prop :=
  ∀ c s t ps a b x y rest, Ready s c 4 n none t ps → (t.core c.val).stack = y :: x :: b :: a :: rest →
    exec (i c) s = .next (Leaves s t c 2 (fun k => { k with stack := f a b x y ++ rest }) ps)

/-- An operation with the sticky bits (R82, R86, R88, R89): it pushes `r` and sets V or DZ where `v` or `dz` holds, and no other
flag; where the bit's trap is on it raises 0x07 or 0x06 with its operands back on the stack. -/
def Sticky1 (i : CoreId → Instr) (r : Word → Word) (v : Word → Bool) : Prop :=
  ∀ c s t ps a rest, Ready s c 1 1 none t ps → (t.core c.val).stack = a :: rest →
    exec (i c) s =
      if v a = true ∧ (t.core c.val).ovtrap = true then
        .next ((t.modCore c.val (fun k => k)).tick.takeSync c.val (plainFault 0x07) false false)
      else .next (Leaves s t c 2 (fun k => { k with stack := r a :: rest, v := k.v || v a }) ps)

def Sticky2 (i : CoreId → Instr) (r : Word → Word → Word) (v dz : Word → Word → Bool) : Prop :=
  ∀ c s t ps a b rest, Ready s c 2 1 none t ps → (t.core c.val).stack = b :: a :: rest →
    exec (i c) s =
      if v a b = true ∧ (t.core c.val).ovtrap = true then
        .next ((t.modCore c.val (fun k => k)).tick.takeSync c.val (plainFault 0x07) false false)
      else if dz a b = true ∧ (t.core c.val).dztrap = true then
        .next ((t.modCore c.val (fun k => k)).tick.takeSync c.val (plainFault 0x06) false false)
      else .next (Leaves s t c 2 (fun k => { k with stack := r a b :: rest, v := k.v || v a b, dz := k.dz || dz a b }) ps)

/-- An exact result outside [MIN, MAX]. -/
def overflows (x : Int) : Bool := decide (x < -9223372036854775808 ∨ 9223372036854775807 < x)

/-- 1 where a relation holds, 0 otherwise (R28). -/
def truth (p : Prop) [Decidable p] : List Word := [if p then 1#64 else 0#64]

/-- Nothing sets the bit. -/
def never (_ _ : Word) : Bool := false

/-- MIN and all ones. -/
def minW : Word := 0x8000000000000000#64
def onesW : Word := 0xFFFFFFFFFFFFFFFF#64

end Sys2Proof.Claims

open Sys2Proof Sys2Proof.Machine Sys2Proof.Claims in
/-- The stack effects of class 0x0 (R59), in every state in which the instruction's checks pass, its operands cached or filled and
its results fitting or spilled. -/
def Sys2Proof.Claims.StackEffectsOfClassZero : Prop :=
  Gives0 .nop (fun _ => []) 0 ∧
  Gives1 .dup none 2 (fun a => [a, a]) ∧
  Gives1 .drop none 0 (fun _ => []) ∧
  Gives2 .swap none 2 (fun a b => [a, b]) ∧
  Gives2 .over none 3 (fun a b => [a, b, a]) ∧
  Gives3 .rot none 3 (fun x y z => [x, z, y]) ∧
  Gives3 .nrot none 3 (fun x y z => [y, x, z]) ∧
  Gives2 .nip none 1 (fun _ b => [b]) ∧
  Gives2 .tuck none 3 (fun a b => [b, a, b]) ∧
  Gives2 .dup2 none 4 (fun a b => [b, a, b, a]) ∧
  Gives2 .drop2 none 0 (fun _ _ => []) ∧
  Gives4 .swap2 4 (fun a b x y => [b, a, y, x]) ∧
  Gives4 .over2 6 (fun a b x y => [b, a, y, x, b, a]) ∧
  (∀ (c : CoreId) (k : BitVec 4) (s t : State) (ps : List (List Part)) (top rest : List Word) (x : Word),
    top.length = k.toNat →
    (Ready s c (k.toNat + 1) (k.toNat + 2) none t ps → (t.core c.val).stack = top ++ x :: rest →
      exec (.pick c k) s = .next (Leaves s t c 2 (fun y => { y with stack := x :: top ++ x :: rest }) ps)) ∧
    (Ready s c (k.toNat + 1) (k.toNat + 1) none t ps → (t.core c.val).stack = top ++ x :: rest →
      exec (.roll c k) s = .next (Leaves s t c 2 (fun y => { y with stack := x :: top ++ rest }) ps)) ∧
    (∀ v, Ready s c (k.toNat + 2) (k.toNat + 1) none t ps → (t.core c.val).stack = v :: top ++ x :: rest →
      exec (.put c k) s = .next (Leaves s t c 2 (fun y => { y with stack := top ++ v :: rest }) ps)))

open Sys2Proof Sys2Proof.Machine Sys2Proof.Claims in
/-- DEPTH pushes (OSP - OSB) / 8 + SCD as it is before the push, where OSP does not lie below OSB; PUSHLR and PUSHFP push LR and FP;
POPLR and POPFP pop any value into them (R80). -/
def Sys2Proof.Claims.DepthLrAndFpInstructions : Prop :=
  (∀ (c : CoreId) (s t : State) (ps : List (List Part)), Ready s c 0 1 none t ps →
    (((t.core c.val).bank (s.ctx c.val).lvl).osb.toNat ≤ ((t.core c.val).bank (s.ctx c.val).lvl).osp.toNat →
      exec (.depth c) s = .next (Leaves s t c 2 (Results 0
        [BitVec.ofNat 64 ((((t.core c.val).bank (s.ctx c.val).lvl).osp.toNat - ((t.core c.val).bank (s.ctx c.val).lvl).osb.toNat) / 8 +
          (t.core c.val).stack.length)]) ps)) ∧
    exec (.pushlr c) s = .next (Leaves s t c 2 (Results 0 [(t.core c.val).lr]) ps) ∧
    exec (.pushfp c) s = .next (Leaves s t c 2 (Results 0 [(t.core c.val).fp]) ps)) ∧
  (∀ (c : CoreId) (s t : State) (ps : List (List Part)) (a : Word) (rest : List Word), Ready s c 1 0 none t ps →
    (t.core c.val).stack = a :: rest →
    exec (.poplr c) s = .next (Leaves s t c 2 (fun k => { k with stack := rest, lr := a }) ps) ∧
    exec (.popfp c) s = .next (Leaves s t c 2 (fun k => { k with stack := rest, fp := a }) ps))

open Sys2Proof Sys2Proof.Machine Sys2Proof.Claims in
/-- The arithmetic operations push the wrapped result and set V exactly where the exact signed result lies outside [MIN, MAX] (R82);
with OVTRAP on they raise 0x07 instead and leave their operands (R89). -/
def Sys2Proof.Claims.ArithmeticWrapsAndSetsOverflow : Prop :=
  Sticky2 .add (fun a b => a + b) (fun a b => overflows (a.toInt + b.toInt)) never ∧
  Sticky2 .sub (fun a b => a - b) (fun a b => overflows (a.toInt - b.toInt)) never ∧
  Sticky2 .mul (fun a b => a * b) (fun a b => overflows (a.toInt * b.toInt)) never ∧
  Sticky1 .neg (fun a => -a) (fun a => decide (a = minW)) ∧
  (∀ k : BitVec 8,
    Sticky1 (fun c => .addi c k) (fun a => a + k.signExtend 64) (fun a => overflows (a.toInt + k.toInt)) ∧
    Sticky1 (fun c => .muli c k) (fun a => a * k.signExtend 64) (fun a => overflows (a.toInt * k.toInt)))

open Sys2Proof Sys2Proof.Machine Sys2Proof.Claims in
/-- Division and remainder with their defined results for a zero divisor and for MIN by -1, and the high halves of the products
(R86); DIV sets V for MIN by -1 only, all four set DZ for a zero divisor (R82, R86), with their traps (R89). -/
def Sys2Proof.Claims.DivisionAndHighProducts : Prop :=
  Sticky2 .div
    (fun a b => if b = 0#64 then onesW else if a = minW ∧ b = onesW then minW else BitVec.ofInt 64 (a.toInt.tdiv b.toInt))
    (fun a b => decide (a = minW ∧ b = onesW)) (fun _ b => decide (b = 0#64)) ∧
  Sticky2 .rem
    (fun a b => if b = 0#64 then a else if a = minW ∧ b = onesW then 0#64
      else BitVec.ofInt 64 (a.toInt - b.toInt * a.toInt.tdiv b.toInt))
    never (fun _ b => decide (b = 0#64)) ∧
  Sticky2 .divu (fun a b => if b = 0#64 then onesW else BitVec.ofNat 64 (a.toNat / b.toNat)) never (fun _ b => decide (b = 0#64)) ∧
  Sticky2 .remu (fun a b => if b = 0#64 then a else BitVec.ofNat 64 (a.toNat % b.toNat)) never (fun _ b => decide (b = 0#64)) ∧
  Gives2 .mulhs none 1 (fun a b => [((a.signExtend 128 * b.signExtend 128).extractLsb' 64 64)]) ∧
  Gives2 .mulhu none 1 (fun a b => [((a.setWidth 128 * b.setWidth 128).extractLsb' 64 64)])

open Sys2Proof Sys2Proof.Machine Sys2Proof.Claims in
/-- The logical operations work on all 64 bits, their immediates sign-extended, and the extensions copy bit 7, 15 or 31 upwards or
clear bits [63:32] (R83); no flag changes. -/
def Sys2Proof.Claims.LogicAndExtensions : Prop :=
  Gives2 .and none 1 (fun a b => [a &&& b]) ∧
  Gives2 .or none 1 (fun a b => [a ||| b]) ∧
  Gives2 .xor none 1 (fun a b => [a ^^^ b]) ∧
  Gives1 .not none 1 (fun a => [~~~a]) ∧
  Gives1 .sextb none 1 (fun a => [(a.extractLsb' 0 8).signExtend 64]) ∧
  Gives1 .sexth none 1 (fun a => [(a.extractLsb' 0 16).signExtend 64]) ∧
  Gives1 .sextw none 1 (fun a => [(a.extractLsb' 0 32).signExtend 64]) ∧
  Gives1 .zextw none 1 (fun a => [a &&& 0xFFFFFFFF#64]) ∧
  (∀ k : BitVec 8,
    Gives1 (fun c => .andi c k) none 1 (fun a => [a &&& k.signExtend 64]) ∧
    Gives1 (fun c => .ori c k) none 1 (fun a => [a ||| k.signExtend 64]) ∧
    Gives1 (fun c => .xori c k) none 1 (fun a => [a ^^^ k.signExtend 64]))

open Sys2Proof Sys2Proof.Machine Sys2Proof.Claims in
/-- Shifts by 64 or more saturate and never mask their count, rotates take it mod 64, and the immediate forms are the register
forms with n = k (R84). -/
def Sys2Proof.Claims.ShiftsSaturateAndRotatesWrap : Prop :=
  Gives2 .shl none 1 (fun a n => [if 64 ≤ n.toNat then 0#64 else BitVec.ofNat 64 (a.toNat * 2 ^ n.toNat)]) ∧
  Gives2 .shr none 1 (fun a n => [if 64 ≤ n.toNat then 0#64 else BitVec.ofNat 64 (a.toNat / 2 ^ n.toNat)]) ∧
  Gives2 .sar none 1 (fun a n => [if 64 ≤ n.toNat then (if a.msb then onesW else 0#64) else BitVec.ofInt 64 (a.toInt / 2 ^ n.toNat)]) ∧
  Gives2 .rol none 1 (fun a n => [a.rotateLeft (n.toNat % 64)]) ∧
  Gives2 .ror none 1 (fun a n => [a.rotateRight (n.toNat % 64)]) ∧
  (∀ k : BitVec 6,
    Gives1 (fun c => .shli c k) none 1 (fun a => [BitVec.ofNat 64 (a.toNat * 2 ^ k.toNat)]) ∧
    Gives1 (fun c => .shri c k) none 1 (fun a => [BitVec.ofNat 64 (a.toNat / 2 ^ k.toNat)]) ∧
    Gives1 (fun c => .sari c k) none 1 (fun a => [BitVec.ofInt 64 (a.toInt / 2 ^ k.toNat)]) ∧
    Gives1 (fun c => .roli c k) none 1 (fun a => [a.rotateLeft k.toNat]))

open Sys2Proof Sys2Proof.Machine Sys2Proof.Claims in
/-- A compare pushes 1 when its relation holds and 0 otherwise; SEL picks by its third operand (R85). -/
def Sys2Proof.Claims.ComparesPushOneOrZero : Prop :=
  Gives2 .eq none 1 (fun a b => truth (a = b)) ∧
  Gives2 .ne none 1 (fun a b => truth (a ≠ b)) ∧
  Gives2 .lt none 1 (fun a b => truth (a.toInt < b.toInt)) ∧
  Gives2 .ge none 1 (fun a b => truth (b.toInt ≤ a.toInt)) ∧
  Gives2 .ltu none 1 (fun a b => truth (a.toNat < b.toNat)) ∧
  Gives2 .geu none 1 (fun a b => truth (b.toNat ≤ a.toNat)) ∧
  Gives2 .gt none 1 (fun a b => truth (b.toInt < a.toInt)) ∧
  Gives2 .le none 1 (fun a b => truth (a.toInt ≤ b.toInt)) ∧
  Gives2 .gtu none 1 (fun a b => truth (b.toNat < a.toNat)) ∧
  Gives2 .leu none 1 (fun a b => truth (a.toNat ≤ b.toNat)) ∧
  Gives1 .eqz none 1 (fun a => truth (a.toInt = 0)) ∧
  Gives1 .nez none 1 (fun a => truth (a.toInt ≠ 0)) ∧
  Gives1 .ltz none 1 (fun a => truth (a.toInt < 0)) ∧
  Gives1 .gez none 1 (fun a => truth (0 ≤ a.toInt)) ∧
  (∀ k : BitVec 8,
    Gives1 (fun c => .eqi c k) none 1 (fun a => truth (a.toInt = k.toInt)) ∧
    Gives1 (fun c => .nei c k) none 1 (fun a => truth (a.toInt ≠ k.toInt)) ∧
    Gives1 (fun c => .lti c k) none 1 (fun a => truth (a.toInt < k.toInt)) ∧
    Gives1 (fun c => .ltui c k) none 1 (fun a => truth (a.toNat < (k.signExtend 64).toNat))) ∧
  Gives3 .sel none 1 (fun x y z => [if z ≠ 0#64 then x else y])

open Sys2Proof Sys2Proof.Machine Sys2Proof.Claims in
/-- LIT pushes its 11-bit value sign-extended (R62). LITX pushes the value whose first immediate parcel is the least significant,
zero-extended where Z = 1 and sign-extended otherwise, and is 2 bytes and 2 for each parcel (R51, R63). -/
def Sys2Proof.Claims.LiteralsPushTheirValues : Prop :=
  (∀ v : BitVec 11, Gives0 (fun c => .lit c v) (fun _ => [v.signExtend 64]) 1) ∧
  (∀ (c : CoreId) (s t : State) (ps : List (List Part)) (p0 p1 p2 p3 : BitVec 16), Ready s c 0 1 none t ps →
    exec (.litx c false [p0]) s = .next (Leaves s t c 4 (Results 0 [p0.signExtend 64]) ps) ∧
    exec (.litx c true [p0]) s = .next (Leaves s t c 4 (Results 0 [p0.setWidth 64]) ps) ∧
    exec (.litx c false [p0, p1]) s = .next (Leaves s t c 6 (Results 0 [(p1 ++ p0).signExtend 64]) ps) ∧
    exec (.litx c true [p0, p1]) s = .next (Leaves s t c 6 (Results 0 [(p1 ++ p0).setWidth 64]) ps) ∧
    exec (.litx c false [p0, p1, p2]) s = .next (Leaves s t c 8 (Results 0 [(p2 ++ p1 ++ p0).signExtend 64]) ps) ∧
    exec (.litx c true [p0, p1, p2]) s = .next (Leaves s t c 8 (Results 0 [(p2 ++ p1 ++ p0).setWidth 64]) ps) ∧
    exec (.litx c false [p0, p1, p2, p3]) s = .next (Leaves s t c 10 (Results 0 [p3 ++ p2 ++ p1 ++ p0]) ps)) ∧
  (∀ (c : CoreId) (z : Bool) (imm : List (BitVec 16)) (s : State),
    imm = [] ∨ 4 < imm.length ∨ (z = true ∧ imm.length = 4) → exec (.litx c z imm) s = .fault .illFormed)

namespace Sys2Proof.Claims

open Sys2Proof.Machine

/-! ### Extensions (R47, R96 to R101) -/

/-- The cluster's last use of AES or CLMUL noted, for the crypto leave (R417). -/
def CryptoNoted (t : State) (c : CoreId) : State := t.modCluster (c.val / 16) (fun k => { k with cryptoUse := t.now })

/-- ( a b -- r ) of an instruction that counts for the crypto leave. -/
def Crypto2 (i : CoreId → Instr) (bit : Nat) (f : Word → Word → Word) : Prop :=
  ∀ c s t ps a b rest, Ready s c 2 1 (some bit) t ps → (t.core c.val).stack = b :: a :: rest →
    exec (i c) s = .next (Leaves s (CryptoNoted t c) c 2 (fun k => { k with stack := f a b :: rest }) ps)

/-- ( s0 s1 k0 k1 -- t0 t1 ): `f` gives the bytes in0 to in15 of the result before the key is added. -/
def AesRound (i : CoreId → Instr) (f : List Nat → List Nat) : Prop :=
  ∀ c s t ps s0 s1 k0 k1 rest, Ready s c 4 2 (some 0) t ps → (t.core c.val).stack = k1 :: k0 :: s1 :: s0 :: rest →
    exec (i c) s = .next (Leaves s (CryptoNoted t c) c 2 (fun k => { k with
      stack := (aesOut (f (aesBytes s0 s1)) k0 k1).2 :: (aesOut (f (aesBytes s0 s1)) k0 k1).1 :: rest }) ps)

/-- Two rotations right and a third one, or a shift, of the low 32 bits. -/
def rot32 (a b c : Nat) (x : Word) : Word :=
  ((x.extractLsb' 0 32).rotateRight a ^^^ (x.extractLsb' 0 32).rotateRight b ^^^ (x.extractLsb' 0 32).rotateRight c).setWidth 64
def shr32 (a b c : Nat) (x : Word) : Word :=
  ((x.extractLsb' 0 32).rotateRight a ^^^ (x.extractLsb' 0 32).rotateRight b ^^^ (x.extractLsb' 0 32) >>> c).setWidth 64

/-- The carry-less product: partial products added without carries. -/
def carryless (a b : Word) : BitVec 128 :=
  (List.range 64).foldl (fun p i => if b.getLsbD i then p ^^^ (a.setWidth 128 <<< i) else p) 0#128

/-- CRC-32C of the low `n` bits of `x`, bit by bit with the reflected polynomial, accumulated into the low 32 bits of `crc`. -/
def crc32c (n : Nat) (crc x : Word) : Word :=
  ((List.range n).foldl
    (fun (r : BitVec 32) i => (r >>> 1) ^^^ (if r.getLsbD 0 ^^ x.getLsbD i then 0x82F63B78#32 else 0#32)) (crc.extractLsb' 0 32)).setWidth 64

/-- BFX (R101): LEN, S and POS of ctl. -/
def bitField (a ctl : Word) : Word :=
  let len := min (ctl.toNat % 128) 64
  let t := a.toNat / 2 ^ (ctl.toNat / 256 % 64) % 2 ^ len
  if ctl.getLsbD 7 = true ∧ 0 < len ∧ len < 64 ∧ t.testBit (len - 1) = true then BitVec.ofInt 64 ((t : Int) - 2 ^ len)
  else BitVec.ofNat 64 t

end Sys2Proof.Claims

open Sys2Proof Sys2Proof.Machine Sys2Proof.Claims in
/-- The AES round instructions apply the steps of FIPS 197 in the order of R97's table to the state held in two entries and add the
key; AESIMC is InvMixColumns; AESKG is SubWord(RotWord(w)) xor rc on 32 bits. -/
def Sys2Proof.Claims.AesInstructionsApplyTheirSteps : Prop :=
  AesRound .aese (fun b => mixColumns (shiftRows (b.map sbox))) ∧
  AesRound .aesel (fun b => shiftRows (b.map sbox)) ∧
  AesRound .aesd (fun b => invMixColumns (invShiftRows (b.map invSbox))) ∧
  AesRound .aesdl (fun b => invShiftRows (b.map invSbox)) ∧
  (∀ (c : CoreId) (s t : State) (ps : List (List Part)) (s0 s1 : Word) (rest : List Word), Ready s c 2 2 (some 0) t ps →
    (t.core c.val).stack = s1 :: s0 :: rest →
    exec (.aesimc c) s = .next (Leaves s (CryptoNoted t c) c 2 (fun k => { k with
      stack := (aesOut (invMixColumns (aesBytes s0 s1)) 0#64 0#64).2 :: (aesOut (invMixColumns (aesBytes s0 s1)) 0#64 0#64).1 :: rest }) ps)) ∧
  Crypto2 .aeskg 0 (fun w rc => ((bytesToWord ((natToBytes 4 ((w.extractLsb' 0 32).rotateRight 8).toNat).map
    (fun y => BitVec.ofNat 8 (sbox y.toNat)))) ^^^ rc) &&& 0xFFFFFFFF#64)

open Sys2Proof Sys2Proof.Machine Sys2Proof.Claims in
/-- The last decryption round undoes the last encryption round for every state and every round key, so the S-box, the row shifts and
the byte numbering of one agree with those of the other (derived from R97). -/
def Sys2Proof.Claims.LastAesRoundsAreInverse : Prop :=
  ∀ s0 s1 k0 k1 : Word,
    aesDecLast ((aesEncLast s0 s1 k0 k1).1 ^^^ k0) ((aesEncLast s0 s1 k0 k1).2 ^^^ k1) 0#64 0#64 = (s0, s1)

open Sys2Proof Sys2Proof.Machine Sys2Proof.Claims in
/-- The SHA-2 functions of R98 and the two halves of the carry-less product of R99. -/
def Sys2Proof.Claims.Sha2FunctionsAndCarrylessMultiply : Prop :=
  Gives1 .sha256sig0 (some 1) 1 (fun x => [shr32 7 18 3 x]) ∧
  Gives1 .sha256sig1 (some 1) 1 (fun x => [shr32 17 19 10 x]) ∧
  Gives1 .sha256sum0 (some 1) 1 (fun x => [rot32 2 13 22 x]) ∧
  Gives1 .sha256sum1 (some 1) 1 (fun x => [rot32 6 11 25 x]) ∧
  Gives1 .sha512sig0 (some 2) 1 (fun x => [x.rotateRight 1 ^^^ x.rotateRight 8 ^^^ x >>> 7]) ∧
  Gives1 .sha512sig1 (some 2) 1 (fun x => [x.rotateRight 19 ^^^ x.rotateRight 61 ^^^ x >>> 6]) ∧
  Gives1 .sha512sum0 (some 2) 1 (fun x => [x.rotateRight 28 ^^^ x.rotateRight 34 ^^^ x.rotateRight 39]) ∧
  Gives1 .sha512sum1 (some 2) 1 (fun x => [x.rotateRight 14 ^^^ x.rotateRight 18 ^^^ x.rotateRight 41]) ∧
  Crypto2 .clmul 3 (fun a b => (carryless a b).extractLsb' 0 64) ∧
  Crypto2 .clmulh 3 (fun a b => (carryless a b).extractLsb' 64 64)

open Sys2Proof Sys2Proof.Machine Sys2Proof.Claims in
/-- The bit-manipulation operations (R100, R101) and the accumulation of CRC-32C (R96). -/
def Sys2Proof.Claims.BitManipulationAndSeal : Prop :=
  Gives1 .clz (some 4) 1 (fun a => [BitVec.ofNat 64 ((List.range 64).takeWhile (fun i => !a.getMsbD i)).length]) ∧
  Gives1 .ctz (some 4) 1 (fun a => [BitVec.ofNat 64 ((List.range 64).takeWhile (fun i => !a.getLsbD i)).length]) ∧
  Gives1 .popc (some 4) 1 (fun a => [BitVec.ofNat 64 ((List.range 64).countP (fun i => a.getLsbD i))]) ∧
  Gives1 .bswap (some 4) 1 (fun a => [a.extractLsb' 0 8 ++ a.extractLsb' 8 8 ++ a.extractLsb' 16 8 ++ a.extractLsb' 24 8 ++
    a.extractLsb' 32 8 ++ a.extractLsb' 40 8 ++ a.extractLsb' 48 8 ++ a.extractLsb' 56 8]) ∧
  Gives1 .brev (some 4) 1 (fun a => [a.reverse]) ∧
  Gives2 .andn (some 4) 1 (fun a b => [a &&& ~~~b]) ∧
  Gives2 .orn (some 4) 1 (fun a b => [a ||| ~~~b]) ∧
  Gives2 .xnor (some 4) 1 (fun a b => [~~~(a ^^^ b)]) ∧
  Gives2 .mins (some 4) 1 (fun a b => [if b.toInt < a.toInt then b else a]) ∧
  Gives2 .maxs (some 4) 1 (fun a b => [if a.toInt < b.toInt then b else a]) ∧
  Gives2 .minu (some 4) 1 (fun a b => [if b.toNat < a.toNat then b else a]) ∧
  Gives2 .maxu (some 4) 1 (fun a b => [if a.toNat < b.toNat then b else a]) ∧
  Gives3 .bch (some 4) 1 (fun e f g => [(e &&& f) ^^^ (~~~e &&& g)]) ∧
  Gives3 .bmaj (some 4) 1 (fun a b c => [(a &&& b) ^^^ (a &&& c) ^^^ (b &&& c)]) ∧
  Gives2 .bfx (some 4) 1 (fun a ctl => [bitField a ctl]) ∧
  Gives2 .sealB (some 5) 1 (fun crc x => [crc32c 8 crc x]) ∧
  Gives2 .sealH (some 5) 1 (fun crc x => [crc32c 16 crc x]) ∧
  Gives2 .sealW (some 5) 1 (fun crc x => [crc32c 32 crc x]) ∧
  Gives2 .sealD (some 5) 1 (fun crc x => [crc32c 64 crc x])

namespace Sys2Proof.Claims

open Sys2Proof.Machine

/-! ### The checks before an instruction, and what register instructions leave alone (R31, R32, R57) -/

/-- The core, the entries popped and pushed, and the FEAT_0 bit of an instruction that works on the stack, the flags and nothing
else. -/
def shape : Instr → Option (CoreId × Nat × Nat × Option Nat)
  | .nop c => some (c, 0, 0, none) | .dup c => some (c, 1, 2, none) | .drop c => some (c, 1, 0, none)
  | .swap c => some (c, 2, 2, none) | .over c => some (c, 2, 3, none) | .rot c => some (c, 3, 3, none)
  | .nrot c => some (c, 3, 3, none) | .nip c => some (c, 2, 1, none) | .tuck c => some (c, 2, 3, none)
  | .dup2 c => some (c, 2, 4, none) | .drop2 c => some (c, 2, 0, none) | .swap2 c => some (c, 4, 4, none)
  | .over2 c => some (c, 4, 6, none) | .depth c => some (c, 0, 1, none) | .pushlr c => some (c, 0, 1, none)
  | .pushfp c => some (c, 0, 1, none) | .pick c k => some (c, k.toNat + 1, k.toNat + 2, none)
  | .put c k => some (c, k.toNat + 2, k.toNat + 1, none) | .roll c k => some (c, k.toNat + 1, k.toNat + 1, none)
  | .add c => some (c, 2, 1, none) | .sub c => some (c, 2, 1, none) | .neg c => some (c, 1, 1, none)
  | .and c => some (c, 2, 1, none) | .or c => some (c, 2, 1, none) | .xor c => some (c, 2, 1, none)
  | .not c => some (c, 1, 1, none) | .shl c => some (c, 2, 1, none) | .shr c => some (c, 2, 1, none)
  | .sar c => some (c, 2, 1, none) | .rol c => some (c, 2, 1, none) | .ror c => some (c, 2, 1, none)
  | .sextb c => some (c, 1, 1, none) | .sexth c => some (c, 1, 1, none) | .sextw c => some (c, 1, 1, none)
  | .zextw c => some (c, 1, 1, none) | .mul c => some (c, 2, 1, none) | .mulhs c => some (c, 2, 1, none)
  | .mulhu c => some (c, 2, 1, none) | .div c => some (c, 2, 1, none) | .divu c => some (c, 2, 1, none)
  | .rem c => some (c, 2, 1, none) | .remu c => some (c, 2, 1, none) | .eq c => some (c, 2, 1, none)
  | .ne c => some (c, 2, 1, none) | .lt c => some (c, 2, 1, none) | .ge c => some (c, 2, 1, none)
  | .ltu c => some (c, 2, 1, none) | .geu c => some (c, 2, 1, none) | .gt c => some (c, 2, 1, none)
  | .le c => some (c, 2, 1, none) | .gtu c => some (c, 2, 1, none) | .leu c => some (c, 2, 1, none)
  | .eqz c => some (c, 1, 1, none) | .nez c => some (c, 1, 1, none) | .ltz c => some (c, 1, 1, none)
  | .gez c => some (c, 1, 1, none) | .sel c => some (c, 3, 1, none) | .lit c _ => some (c, 0, 1, none)
  | .addi c _ => some (c, 1, 1, none) | .andi c _ => some (c, 1, 1, none) | .ori c _ => some (c, 1, 1, none)
  | .xori c _ => some (c, 1, 1, none) | .shli c _ => some (c, 1, 1, none) | .shri c _ => some (c, 1, 1, none)
  | .sari c _ => some (c, 1, 1, none) | .roli c _ => some (c, 1, 1, none) | .eqi c _ => some (c, 1, 1, none)
  | .nei c _ => some (c, 1, 1, none) | .lti c _ => some (c, 1, 1, none) | .ltui c _ => some (c, 1, 1, none)
  | .muli c _ => some (c, 1, 1, none) | .lal c _ => some (c, 0, 1, none)
  | .aese c => some (c, 4, 2, some 0) | .aesel c => some (c, 4, 2, some 0) | .aesd c => some (c, 4, 2, some 0)
  | .aesdl c => some (c, 4, 2, some 0) | .aesimc c => some (c, 2, 2, some 0) | .aeskg c => some (c, 2, 1, some 0)
  | .sha256sig0 c => some (c, 1, 1, some 1) | .sha256sig1 c => some (c, 1, 1, some 1) | .sha256sum0 c => some (c, 1, 1, some 1)
  | .sha256sum1 c => some (c, 1, 1, some 1) | .sha512sig0 c => some (c, 1, 1, some 2) | .sha512sig1 c => some (c, 1, 1, some 2)
  | .sha512sum0 c => some (c, 1, 1, some 2) | .sha512sum1 c => some (c, 1, 1, some 2) | .clmul c => some (c, 2, 1, some 3)
  | .clmulh c => some (c, 2, 1, some 3) | .clz c => some (c, 1, 1, some 4) | .ctz c => some (c, 1, 1, some 4)
  | .popc c => some (c, 1, 1, some 4) | .bswap c => some (c, 1, 1, some 4) | .brev c => some (c, 1, 1, some 4)
  | .andn c => some (c, 2, 1, some 4) | .orn c => some (c, 2, 1, some 4) | .xnor c => some (c, 2, 1, some 4)
  | .mins c => some (c, 2, 1, some 4) | .maxs c => some (c, 2, 1, some 4) | .minu c => some (c, 2, 1, some 4)
  | .maxu c => some (c, 2, 1, some 4) | .bch c => some (c, 3, 1, some 4) | .bmaj c => some (c, 3, 1, some 4)
  | .bfx c => some (c, 2, 1, some 4) | .sealB c => some (c, 2, 1, some 5) | .sealH c => some (c, 2, 1, some 5)
  | .sealW c => some (c, 2, 1, some 5) | .sealD c => some (c, 2, 1, some 5)
  | _ => none

/-- The same for the instructions that reach memory or a register, and need no level. -/
def memShape : Instr → Option (CoreId × Nat × Nat)
  | .poplr c => some (c, 1, 0) | .popfp c => some (c, 1, 0) | .ldl c _ => some (c, 0, 1) | .stl c _ => some (c, 1, 0)
  | .ldb c _ => some (c, 1, 1) | .ldbs c _ => some (c, 1, 1) | .ldh c _ => some (c, 1, 1) | .ldhs c _ => some (c, 1, 1)
  | .ldw c _ => some (c, 1, 1) | .ldws c _ => some (c, 1, 1) | .ldd c _ => some (c, 1, 1) | .stb c _ => some (c, 2, 0)
  | .sth c _ => some (c, 2, 0) | .stw c _ => some (c, 2, 0) | .std c _ => some (c, 2, 0) | .axchg c _ _ => some (c, 2, 1)
  | .acas c _ _ => some (c, 3, 1) | .aadd c _ _ => some (c, 2, 1) | .aand c _ _ => some (c, 2, 1) | .aor c _ _ => some (c, 2, 1)
  | .axor c _ _ => some (c, 2, 1) | .amin c _ _ => some (c, 2, 1) | .amax c _ _ => some (c, 2, 1) | .aminu c _ _ => some (c, 2, 1)
  | .amaxu c _ _ => some (c, 2, 1) | .ret c => some (c, 0, 0) | .jmp c => some (c, 1, 0)
  | .lbar c => some (c, 0, 0) | .sbar c => some (c, 0, 0) | .mbar c => some (c, 0, 0) | .isync c => some (c, 0, 0)
  | .csync c => some (c, 0, 0) | .dclean c => some (c, 1, 0) | .dflush c => some (c, 1, 0) | .iclean c => some (c, 1, 0)
  | .prefr c => some (c, 1, 0) | .prefw c => some (c, 1, 0) | .dcleanR c => some (c, 2, 0) | .dflushR c => some (c, 2, 0)
  | .icleanR c => some (c, 2, 0)
  | _ => none

/-- The state is `s` but for the core `c`, which is `k`, and for the count of open values taken. -/
def OnlyCore (s t : State) (c : CoreId) (k : Core) : Prop :=
  t.core c.val = k ∧ (∀ n, n ≠ c.val → t.core n = s.core n) ∧ { t with cores := s.cores, free := s.free } = s

end Sys2Proof.Claims

open Sys2Proof Sys2Proof.Machine Sys2Proof.Claims in
/-- The stack checks of R31 are exact, with no wrap: underflow is raised exactly where the pops reach below the memory part of the
stack, and overflow, only where more is pushed than popped, exactly where the pushes would pass OSL. -/
def Sys2Proof.Claims.StackChecksAreExact : Prop :=
  ∀ (k : Core) (lvl m n : Nat),
    (k.stackCheck lvl m n = some 0x04 ↔ k.stack.length < m ∧
      ((k.bank lvl).osp.toNat < (k.bank lvl).osb.toNat ∨
        ((k.bank lvl).osp.toNat - (k.bank lvl).osb.toNat) / 8 < m - k.stack.length)) ∧
    (k.stackCheck lvl m n = some 0x03 ↔ k.stackCheck lvl m n ≠ some 0x04 ∧ m < n ∧
      (k.bank lvl).osl.toNat < (k.bank lvl).osp.toNat + 8 * (max k.stack.length m - m + n)) ∧
    (k.stackCheck lvl m n = none ∨ k.stackCheck lvl m n = some 0x03 ∨ k.stackCheck lvl m n = some 0x04)

open Sys2Proof Sys2Proof.Machine Sys2Proof.Claims in
/-- What a boundary has for a core comes before its next instruction: a deferred report or a takeable interrupt is taken, and the
instruction does not start (R122, R128). The checks before an operation, in their order: a hidden extension raises 0x01 whatever the
stack holds (R47, R57); then the stack checks of R31 raise 0x03 or 0x04. The exception is taken from the state as it was before the
instruction, which has had no effect (R32). A core that does not run executes nothing. -/
def Sys2Proof.Claims.FailedChecksRaiseTheirCauses : Prop :=
  ∀ (i : Instr) (c : CoreId) (m n : Nat) (f : Option Nat) (s : State),
    shape i = some (c, m, n, f) ∨ (memShape i = some (c, m, n) ∧ f = none) →
    ((s.core c.val).run = .running → ((s.core c.val).deferred ≠ [] → exec i s = .next (s.takeReport c.val)) ∧
      (∀ id hw, (s.core c.val).deferred = [] → s.pickIrq c.val (s.core c.val).lvl.toNat (s.core c.val).ie = some (id, hw) →
        exec i s = .next (s.takeExc c.val (interruptExc id hw (s.core c.val).pc)))) ∧
    (Starts s c → (s.ctx c.val).gate f = false →
      exec i s = .next ((s.begin c.val).tick.takeSync c.val (plainFault 0x01) false false)) ∧
    (∀ cause, Starts s c → (s.ctx c.val).gate f = true → (s.core c.val).stackCheck (s.ctx c.val).lvl m n = some cause →
      exec i s = .next ((s.begin c.val).tick.takeSync c.val (plainFault cause) false false)) ∧
    ((s.core c.val).run ≠ .running → exec i s = .next s)

open Sys2Proof Sys2Proof.Machine Sys2Proof.Claims in
/-- What an instruction on the stack leaves alone, where its operands are cached, its results fit and no trap of R89 is on: every
other core, memory, the caches, the register atlas and every engine; of its own core LR, FP, the banks, the level, the traps, the
exception, system and timer registers, the store buffer and the task. Only the stack cache, the PC, V, DZ, the counters of events
and of instructions, and the mark of a fresh entry change, and on AES and CLMUL the cluster's time of last use. The first instruction
that runs with another tag charges the old tag's use before it (R46), which changes the meters and the core's own use alone. -/
def Obligations.StackInstructionsLeaveTheRestAlone : Prop :=
  ∀ (i : Instr) (c : CoreId) (m n : Nat) (f : Option Nat) (s : State),
    shape i = some (c, m, n, f) → Starts s c → (s.ctx c.val).gate f = true →
    (s.core c.val).stackCheck (s.ctx c.val).lvl m n = none → m ≤ (s.core c.val).stack.length →
    (s.core c.val).stack.length - m + n ≤ 16 → (s.core c.val).ovtrap = false → (s.core c.val).dztrap = false →
    ∃ t st v dz pf use since,
      exec i s = .next t ∧ st.length = (s.core c.val).stack.length - m + n ∧
      st.drop n = (s.core c.val).stack.drop m ∧
      ((s.core c.val).useTag = (s.ctx c.val).regs.ttag.setWidth 16 →
        t.meters = s.meters ∧ use = (s.core c.val).useInstr + 1 ∧ since = (s.core c.val).chargeTb) ∧
      OnlyCore s { t with clusters := s.clusters, meters := s.meters } c { s.core c.val with
        stack := st, v := v, dz := dz, perf := pf, perfNext := none, entry := none, instrs := (s.core c.val).instrs + 1,
        useTag := (s.ctx c.val).regs.ttag.setWidth 16, useInstr := use, chargeTb := since,
        pc := ((s.core c.val).pc + 2#64) &&& 0xFFFFFFFFFFFFFFFE#64 } ∧
      (∀ x, (t.cluster x) = { s.cluster x with cryptoUse := (t.cluster x).cryptoUse }) ∧
      (∀ a, t.byteAt a = s.byteAt a)

namespace Sys2Proof.Claims

open Sys2Proof.Machine

/-! ### Loads, stores and atomics (R81, R90 to R95, R184 to R186) -/

/-- The state in which an operation runs: its `m` operands popped. -/
def Popped (t : State) (c : CoreId) (m : Nat) : State := t.modCore c.val (fun k => { k with stack := k.stack.drop m })

/-- Operands put back below a fault. -/
def PutBack (w : State) (c : CoreId) (args : List Word) : State := w.modCore c.val (fun k => { k with stack := args ++ k.stack })

/-- ( addr -- x ): the `n` bytes at addr + d * n, extended by `ext`; a fault leaves the address on the stack and is taken. -/
def Loads (i : CoreId → BitVec 9 → Instr) (n : Nat) (ext : Nat → Word) : Prop :=
  ∀ c d s t ps a rest w, Ready s c 1 1 none t ps → (t.core c.val).stack = a :: rest →
    (∀ v, (Popped t c 1).loadVA (s.ctx c.val) (a + d.signExtend 64 * BitVec.ofNat 64 n).toNat n none = (w, .ok v) →
      exec (i c d) s = .next (Leaves s w c 2 (fun k => { k with stack := ext v :: k.stack }) ps)) ∧
    (∀ f, (Popped t c 1).loadVA (s.ctx c.val) (a + d.signExtend 64 * BitVec.ofNat 64 n).toNat n none = (w, .error f) →
      exec (i c d) s = .next ((PutBack w c [a]).tick.takeSync c.val f false false))

/-- ( x addr -- ): the low `n` bytes of x stored at addr + d * n; a fault leaves both operands on the stack and is taken. -/
def Stores (i : CoreId → BitVec 9 → Instr) (n : Nat) : Prop :=
  ∀ c d s t ps x a rest w, Ready s c 2 0 none t ps → (t.core c.val).stack = a :: x :: rest →
    ((Popped t c 2).storeVA (s.ctx c.val) (a + d.signExtend 64 * BitVec.ofNat 64 n).toNat n x = (w, none) →
      exec (i c d) s = .next (Leaves s w c 2 (fun k => k) ps)) ∧
    (∀ f, (Popped t c 2).storeVA (s.ctx c.val) (a + d.signExtend 64 * BitVec.ofNat 64 n).toNat n x = (w, some f) →
      exec (i c d) s = .next ((PutBack w c [a, x]).tick.takeSync c.val f false false))

/-- ( v addr -- old ): the old value pushed, zero-extended; operands of the .W forms are their low 32 bits. -/
def Atomics (i : CoreId → Bool → Bool → Instr) (op : AtomOp) : Prop :=
  ∀ c dbl far s t ps v a rest w, Ready s c 2 1 none t ps → (t.core c.val).stack = a :: v :: rest →
    (∀ old, (Popped t c 2).atomVA (s.ctx c.val) far op a.toNat (if dbl then 8 else 4)
        (if dbl then v.toNat else v.toNat % 2 ^ 32) 0 = (w, .ok old) →
      exec (i c dbl far) s = .next (Leaves s w c 2 (fun k => { k with stack := BitVec.ofNat 64 old :: k.stack }) ps)) ∧
    (∀ f, (Popped t c 2).atomVA (s.ctx c.val) far op a.toNat (if dbl then 8 else 4)
        (if dbl then v.toNat else v.toNat % 2 ^ 32) 0 = (w, .error f) →
      exec (i c dbl far) s = .next ((PutBack w c [a, v]).tick.takeSync c.val f false false))

/-- A core at the top level outside deterministic mode, whose accesses below 2^52 go to the physical address (R160). -/
def TopLevel (s : State) (c : CoreId) : Prop := 2 ≤ (s.ctx c.val).lvl ∧ (s.ctx c.val).dtm = false

/-- The line of an address is held by the core's L1D and its cluster's L2; `excl`: exclusive, with no copy elsewhere. No error is armed
there. -/
def HeldLine (s : State) (c : CoreId) (pa : Nat) (excl : Bool) (x : CLine) (cp : L2Copy) : Prop :=
  s.line (pa / 64) = some x ∧ x.copy (c.val / 16) = some cp ∧ (cp.d.any (fun p => p.1 = c.val)) = true ∧
  (excl = true → cp.st ≠ .s ∧ x.copies.length = 1) ∧
  s.takeInject (pageL2C (c.val / 16)) (s.cid (c.val / 16)) = (none, s)

end Sys2Proof.Claims

open Sys2Proof Sys2Proof.Machine Sys2Proof.Claims in
/-- Loads push the bytes read at the effective address, zero- or sign-extended (R90); LDL reads the double at FP + 8u and LAL pushes
FP + 8u (R81). A load that faults pushes nothing and leaves its operand (R91). -/
def Sys2Proof.Claims.LoadsPushTheBytesRead : Prop :=
  Loads .ldb 1 (fun v => BitVec.ofNat 64 v) ∧ Loads .ldbs 1 (fun v => (BitVec.ofNat 8 v).signExtend 64) ∧
  Loads .ldh 2 (fun v => BitVec.ofNat 64 v) ∧ Loads .ldhs 2 (fun v => (BitVec.ofNat 16 v).signExtend 64) ∧
  Loads .ldw 4 (fun v => BitVec.ofNat 64 v) ∧ Loads .ldws 4 (fun v => (BitVec.ofNat 32 v).signExtend 64) ∧
  Loads .ldd 8 (fun v => BitVec.ofNat 64 v) ∧
  (∀ (c : CoreId) (u : BitVec 10) (s t : State) (ps : List (List Part)), Ready s c 0 1 none t ps →
    exec (.lal c u) s = .next (Leaves s t c 2 (Results 0 [(t.core c.val).fp + BitVec.ofNat 64 (8 * u.toNat)]) ps) ∧
    ∀ w, (∀ v, (Popped t c 0).loadVA (s.ctx c.val) ((t.core c.val).fp + BitVec.ofNat 64 (8 * u.toNat)).toNat 8 none = (w, .ok v) →
        exec (.ldl c u) s = .next (Leaves s w c 2 (fun k => { k with stack := BitVec.ofNat 64 v :: k.stack }) ps)) ∧
      (∀ f, (Popped t c 0).loadVA (s.ctx c.val) ((t.core c.val).fp + BitVec.ofNat 64 (8 * u.toNat)).toNat 8 none = (w, .error f) →
        exec (.ldl c u) s = .next ((PutBack w c []).tick.takeSync c.val f false false)))

open Sys2Proof Sys2Proof.Machine Sys2Proof.Claims in
/-- Stores commit the low bytes of their value at the effective address (R90); STL stores at FP + 8u (R81). A store that faults
leaves its operands (R91). -/
def Sys2Proof.Claims.StoresCommitTheirBytes : Prop :=
  Stores .stb 1 ∧ Stores .sth 2 ∧ Stores .stw 4 ∧ Stores .std 8 ∧
  (∀ (c : CoreId) (u : BitVec 10) (s t : State) (ps : List (List Part)) (x : Word) (rest : List Word) (w : State),
    Ready s c 1 0 none t ps → (t.core c.val).stack = x :: rest →
    ((Popped t c 1).storeVA (s.ctx c.val) ((t.core c.val).fp + BitVec.ofNat 64 (8 * u.toNat)).toNat 8 x = (w, none) →
      exec (.stl c u) s = .next (Leaves s w c 2 (fun k => k) ps)) ∧
    (∀ f, (Popped t c 1).storeVA (s.ctx c.val) ((t.core c.val).fp + BitVec.ofNat 64 (8 * u.toNat)).toNat 8 x = (w, some f) →
      exec (.stl c u) s = .next ((PutBack w c [x]).tick.takeSync c.val f false false)))

open Sys2Proof Sys2Proof.Machine Sys2Proof.Claims in
/-- A store of the top level to normal memory within one line, with room in the store buffer, enters the buffer as its youngest
entry with its address and its low bytes; the operands leave the stack. Its frame: every byte of memory, every line, every other
core and every register stays as it was until the entry drains, and of its own core only the stack cache, the buffer, the PC, the
counters and the mark of a fresh entry change, after what the instruction's beginning charges (R46). A device-strict store in the buffer
would first be waited for (R191). -/
def Sys2Proof.Claims.StoreEntersTheStoreBuffer : Prop :=
  ∀ (c : CoreId) (d : BitVec 9) (s : State) (x a : Word) (rest : List Word) (mt : MemType) (n : Nat) (i : Instr),
    ((n = 1 ∧ i = .stb c d) ∨ (n = 2 ∧ i = .sth c d) ∨ (n = 4 ∧ i = .stw c d) ∨ (n = 8 ∧ i = .std c d)) →
    Starts s c → TopLevel s c → (s.core c.val).stack = a :: x :: rest →
    (s.core c.val).stack.length ≤ 16 → (s.core c.val).sb.length < 16 →
    (∀ e, e ∈ (s.core c.val).sb → ¬(e.kind = .store ∧ e.mt = .devStrict)) →
    (a + d.signExtend 64 * BitVec.ofNat 64 n).toNat < 2 ^ 52 →
    (a + d.signExtend 64 * BitVec.ofNat 64 n).toNat % 64 + n ≤ 64 →
    s.fixedType (a + d.signExtend 64 * BitVec.ofNat 64 n).toNat = some mt → mt.device = false →
    ∃ t pf,
      exec i s = .next t ∧
      OnlyCore (s.begin c.val) t c { (s.begin c.val).core c.val with
        stack := rest, perf := pf, perfNext := none, entry := none, instrs := (s.core c.val).instrs + 1,
        useInstr := ((s.begin c.val).core c.val).useInstr + 1, pc := ((s.core c.val).pc + 2#64) &&& 0xFFFFFFFFFFFFFFFE#64, sbar := false,
        sb := (s.core c.val).sb ++ [{
          kind := .store, pa := (a + d.signExtend 64 * BitVec.ofNat 64 n).toNat, size := n,
          data := BitVec.ofNat 64 (x.toNat % 2 ^ (8 * n)), mt := mt, va := a + d.signExtend 64 * BitVec.ofNat 64 n,
          ipa := none, lvl := (s.core c.val).lvl, bar := (s.core c.val).sbar, tag := (s.ctx c.val).regs.ttag.setWidth 16 }] } ∧
      (∀ b, t.byteAt b = s.byteAt b)

open Sys2Proof Sys2Proof.Machine Sys2Proof.Claims in
/-- A load whose bytes the youngest overlapping store of its core holds whole takes them from there, while the store is still in the
buffer (R186): nothing of the store's line is read. -/
def Sys2Proof.Claims.LoadIsForwardedFromTheStoreBuffer : Prop :=
  ∀ (s : State) (c : CoreId) (older : List SbEntry) (e : SbEntry) (pa n src : Nat) (mt : MemType),
    (s.core c.val).sb = older ++ [e] → e.kind = .store → e.mt.device = false → e.parityBad = false → 0 < n →
    e.pa ≤ pa → pa + n ≤ e.pa + e.size →
    s.getF (Reg.ERR_INJECT (pageL2C (c.val / 16))) Fld.ERR_INJECT_TYPE ≠ 3 →
    s.loadSeg (s.ctx c.val) src mt pa n = (s, .ok (e.data.toNat / 2 ^ (8 * (pa - e.pa)) % 2 ^ (8 * n)))

open Sys2Proof Sys2Proof.Machine Sys2Proof.Claims in
/-- A load of the top level from a line that its core's L1D holds, with an empty store buffer, returns the coherent bytes of memory
at its address, the lowest least significant (R27, R90), and changes no byte. -/
def Sys2Proof.Claims.LoadOfAHeldLineReadsItsBytes : Prop :=
  ∀ (s : State) (c : CoreId) (va n : Nat) (x : CLine) (cp : L2Copy),
    TopLevel s c → va < 2 ^ 52 → 0 < n → n ≤ 8 → va % 64 + n ≤ 64 → s.fixedType va = some .wb → (s.core c.val).sb = [] →
    HeldLine s c va false x cp → x.poison = false →
    ∃ t v, s.loadVA (s.ctx c.val) va n none = (t, .ok v) ∧ v < 2 ^ (8 * n) ∧
      (∀ j, j < n → BitVec.ofNat 8 (v / 2 ^ (8 * j)) = s.byteAt (va + j)) ∧ (∀ a, t.byteAt a = s.byteAt a)

open Sys2Proof Sys2Proof.Machine Sys2Proof.Claims in
/-- The head of the store buffer, a store to a write-back line that its core holds exclusive, is performed and leaves the buffer:
exactly its bytes change, to the data's bytes, the lowest first, and no other byte of memory (R90, R183, R185). -/
def Sys2Proof.Claims.DrainedStoreWritesExactlyItsBytes : Prop :=
  ∀ (s : State) (c : CoreId) (e : SbEntry) (rest : List SbEntry) (x : CLine) (cp : L2Copy),
    (s.ctx c.val).dtm = false → (s.core c.val).sb = e :: rest → e.kind = .store → e.mt = .wb →
    e.parityBad = false → s.getF (Reg.ERR_INJECT (pageL2C (c.val / 16))) Fld.ERR_INJECT_TYPE ≠ 3 →
    e.size ≤ 8 → e.pa % 64 + e.size ≤ 64 → s.fixedType e.pa = some .wb → HeldLine s c e.pa true x cp →
    (e.bar = false ∨ (s.core c.val).posted = []) → s.io.evq = [] →
    ∃ t, exec (.storeBufferDrain c) s = .next t ∧ (t.core c.val).sb = rest ∧
      (∀ a, t.byteAt a = if e.pa ≤ a ∧ a < e.pa + e.size then BitVec.ofNat 8 (e.data.toNat / 2 ^ (8 * (a - e.pa))) else s.byteAt a)

open Sys2Proof Sys2Proof.Machine Sys2Proof.Claims in
/-- The new value of each atomic (R93): for the width `w`, AMIN and AMAX signed, AADD wrapping, a failed ACAS writing nothing. -/
def Sys2Proof.Claims.AtomicsComputeTheirNewValue : Prop :=
  (∀ w old v e : Nat,
    atomNew .axchg w old v e = some v ∧
    atomNew .acas w old v e = (if old = e then some v else none) ∧
    atomNew .aadd w old v e = some ((old + v) % 2 ^ w) ∧
    atomNew .aminu w old v e = some (min old v) ∧ atomNew .amaxu w old v e = some (max old v)) ∧
  (∀ (w : Nat) (old v : BitVec w) (e : Nat), 0 < w →
    atomNew .aand w old.toNat v.toNat e = some (old &&& v).toNat ∧
    atomNew .aor w old.toNat v.toNat e = some (old ||| v).toNat ∧
    atomNew .axor w old.toNat v.toNat e = some (old ^^^ v).toNat ∧
    atomNew .amin w old.toNat v.toNat e = some (if v.toInt < old.toInt then v else old).toNat ∧
    atomNew .amax w old.toNat v.toNat e = some (if old.toInt < v.toInt then v else old).toNat)

open Sys2Proof Sys2Proof.Machine Sys2Proof.Claims in
/-- Every atomic pushes the old value of its location, and a fault leaves its operands (R93, R95); the location is read after the
store buffer has emptied, and the new value written where there is one (R195). -/
def Sys2Proof.Claims.AtomicsPushTheOldValue : Prop :=
  Atomics .axchg .axchg ∧ Atomics .aadd .aadd ∧ Atomics .aand .aand ∧ Atomics .aor .aor ∧ Atomics .axor .axor ∧
  Atomics .amin .amin ∧ Atomics .amax .amax ∧ Atomics .aminu .aminu ∧ Atomics .amaxu .amaxu ∧
  (∀ (c : CoreId) (dbl far : Bool) (s t : State) (ps : List (List Part)) (e v a : Word) (rest : List Word) (w : State),
    Ready s c 3 1 none t ps → (t.core c.val).stack = a :: v :: e :: rest →
    (∀ old, (Popped t c 3).atomVA (s.ctx c.val) far .acas a.toNat (if dbl then 8 else 4)
        (if dbl then v.toNat else v.toNat % 2 ^ 32) (if dbl then e.toNat else e.toNat % 2 ^ 32) = (w, .ok old) →
      exec (.acas c dbl far) s = .next (Leaves s w c 2 (fun k => { k with stack := BitVec.ofNat 64 old :: k.stack }) ps)) ∧
    (∀ f, (Popped t c 3).atomVA (s.ctx c.val) far .acas a.toNat (if dbl then 8 else 4)
        (if dbl then v.toNat else v.toNat % 2 ^ 32) (if dbl then e.toNat else e.toNat % 2 ^ 32) = (w, .error f) →
      exec (.acas c dbl far) s = .next ((PutBack w c [a, v, e]).tick.takeSync c.val f false false))) ∧
  (∀ (s : State) (c : CoreId) (op : AtomOp) (va n v e : Nat) (x : CLine) (cp : L2Copy),
    TopLevel s c → va < 2 ^ 52 → (n = 4 ∨ n = 8) → va % n = 0 → v < 2 ^ (8 * n) → s.fixedType va = some .wb →
    (s.core c.val).sb = [] → (s.core c.val).posted = [] → HeldLine s c va true x cp → x.poison = false →
    ∃ t old, s.atomVA (s.ctx c.val) false op va n v e = (t, .ok old) ∧
      (∀ j, j < n → BitVec.ofNat 8 (old / 2 ^ (8 * j)) = s.byteAt (va + j)) ∧ old < 2 ^ (8 * n) ∧
      (∀ a, t.byteAt a = match atomNew op (8 * n) old v e with
        | some y => if va ≤ a ∧ a < va + n then BitVec.ofNat 8 (y / 2 ^ (8 * (a - va))) else s.byteAt a
        | none => s.byteAt a))

namespace Sys2Proof.Claims

open Sys2Proof.Machine

/-! ### Control flow (R26, R43, R68, R76, R104 to R110, R114 to R124) -/

/-- The displacement in parcels: field d and up to two immediate parcels above it, sign-extended (R68). -/
def parcels7 (d : BitVec 7) : List (BitVec 16) → Word
  | [] => d.signExtend 64
  | [p] => (p ++ d).signExtend 64
  | p :: q :: _ => (q ++ (p ++ d)).signExtend 64

def parcels9 (d : BitVec 9) : List (BitVec 16) → Word
  | [] => d.signExtend 64
  | [p] => (p ++ d).signExtend 64
  | p :: q :: _ => (q ++ (p ++ d)).signExtend 64

/-- An address with bit 0 cleared (R26). -/
def even (a : Word) : Word := a &&& 0xFFFFFFFFFFFFFFFE#64

/-- A transfer that was predicted right has been made: the core `k` with the new PC, one instruction (or `n`) counted; the predictors and
the counters of events may have changed, and `k` holds the changes of LR and of the stack. -/
def Transferred (s t : State) (c : CoreId) (k : Core) (pc : Word) (n : Nat) : Prop :=
  ∃ btb rstack pf, OnlyCore s t c { k with
    pc := even pc, entry := none, btb := btb, rstack := rstack, perf := pf, perfNext := none, instrs := k.instrs + n,
    useInstr := k.useInstr + n }

/-- The instruction is executed to its end: `n` instructions retire in the state `u`, and the next one stands at `pc`. -/
def Goes (i : Instr) (s : State) (c : CoreId) (u : State) (pc : Word) (n : Nat) : Prop :=
  exec i s = .next (u.retireTo c.val n pc) ∧ ((u.retireTo c.val n pc).core c.val).pc = even pc

end Sys2Proof.Claims

open Sys2Proof Sys2Proof.Machine Sys2Proof.Claims in
/-- BR, CALL, RET, JMP and CALLI set the PC to their target with bit 0 clear, and CALL and CALLI set LR to the address after the
instruction's last parcel (R26, R68, R109). Where the branch target buffer or the return stack gave the target, and in deterministic
mode, nothing else changes but the predictors and the counters; a wrong guess also leaves what its wrong path fetched (R148). CALLI's
return address is pushed on the return stack before its checks (R146). -/
def Sys2Proof.Claims.TransfersSetThePcAndLr : Prop :=
  (∀ (c : CoreId) (d : BitVec 9) (imm : List (BitVec 16)) (s t : State), imm.length ≤ 2 → Ready s c 0 0 none t [] →
    (∃ u, exec (.br c d imm) s = .next u ∧ Transferred t u c (t.core c.val) ((t.core c.val).pc + parcels9 d imm * 2#64) 1) ∧
    (∃ u, exec (.call c d imm) s = .next u ∧
      Transferred t u c { t.core c.val with lr := (t.core c.val).pc + BitVec.ofNat 64 (2 + 2 * imm.length) }
        ((t.core c.val).pc + parcels9 d imm * 2#64) 1)) ∧
  (∀ (c : CoreId) (s t : State), Ready s c 0 0 none t [] →
    (∃ u, Goes (.ret c) s c u (t.core c.val).lr 1) ∧
    ((s.ctx c.val).dtm = true ∨ (t.core c.val).rstack.head? = some (even (t.core c.val).lr) →
      ∃ u, exec (.ret c) s = .next u ∧ Transferred t u c (t.core c.val) (t.core c.val).lr 1)) ∧
  (∀ (c : CoreId) (s t : State) (a : Word) (rest : List Word), Ready s c 1 0 none t [] → (t.core c.val).stack = a :: rest →
    (∃ u, Goes (.jmp c) s c u a 1) ∧
    ((s.ctx c.val).dtm = true ∨ (t.core c.val).btbLook (t.core c.val).pc = some (even a) →
      ∃ u, exec (.jmp c) s = .next u ∧ Transferred t u c { t.core c.val with stack := rest } a 1)) ∧
  (∀ (c : CoreId) (s t : State) (a : Word) (rest : List Word), Ready (s.pushInD c.val) c 1 0 none t [] →
    (t.core c.val).stack = a :: rest →
    (∃ u, Goes (.calli c) s c u a 1 ∧ (u.core c.val).lr = (t.core c.val).pc + 2#64) ∧
    ((s.ctx c.val).dtm = true ∨ (t.core c.val).btbLook (t.core c.val).pc = some (even a) →
      ∃ u, exec (.calli c) s = .next u ∧
        Transferred t u c { t.core c.val with stack := rest, lr := (t.core c.val).pc + 2#64 } a 1)) ∧
  (∀ (c : CoreId) (s : State), Starts s c → (s.ctx c.val).dtm = false →
    ((s.pushInD c.val).core c.val).rstack = (((s.core c.val).pc + 2#64) :: (s.core c.val).rstack).take 16) ∧
  (∀ (c : CoreId) (d : BitVec 9) (imm : List (BitVec 16)) (s : State), 2 < imm.length →
    exec (.br c d imm) s = .fault .illFormed ∧ exec (.call c d imm) s = .fault .illFormed)

open Sys2Proof Sys2Proof.Machine Sys2Proof.Claims in
/-- A conditional branch pops its condition, filled if it must be; BZ branches on zero and BNZ on nonzero. Its delay slot runs when
the branch is taken or A = 0, on the stack without the condition, and the PC is then the target or the parcel behind the slot; with
A = 1 and the branch not taken the slot is annulled. An exception of the slot puts the condition back and reports the pair with
ECAUSE.DS = 1 (R76, R104, R105). Where field H foretold the outcome, nothing changes beside the predictors and the counters; otherwise
the wrong path has left its fetches too (R143, R148). -/
def Sys2Proof.Claims.ConditionalBranchesAndTheirDelaySlots : Prop :=
  ∀ (c : CoreId) (onNonzero h a : Bool) (d : BitVec 7) (imm : List (BitVec 16)) (slot : Parcel) (s t : State) (v : Word)
    (rest : List Word) (i : Instr),
    i = (if onNonzero then .bnz c h a d imm slot else .bz c h a d imm slot) → imm.length ≤ 2 →
    Starts s c → parcelUndefined slot = false → slotForbidden slot = false →
    (s.begin c.val).doOp (s.ctx c.val) condOp = (t, .done) → (t.core c.val).stack = v :: rest →
    let taken : Bool := decide (v ≠ 0#64) == onNonzero
    let target := even ((t.core c.val).pc + parcels7 d imm * 2#64)
    let behind := (t.core c.val).pc + BitVec.ofNat 64 (2 + 2 * imm.length) + 2#64
    let p := ((t.modCore c.val (fun k => { k with stack := rest })).tick).begin c.val
    let foretold : Prop := taken = (h && !(s.ctx c.val).dtm)
    (taken = false → a = true →
      (∃ u, Goes i s c u behind 1) ∧
      (foretold → ∃ u, exec i s = .next u ∧ Transferred t u c { t.core c.val with stack := rest } behind 1)) ∧
    (taken = true ∨ a = false → ∀ j, decodeOne c slot = some j →
      (∀ u r, p.doOp (p.ctx c.val) (slotOp j) = (u, r) → (∀ f stk, r ≠ .trap f stk) →
        (∃ w, Goes i s c w (if taken then target else behind) 2) ∧
        (foretold → ∃ w, exec i s = .next w ∧ Transferred u w c (u.core c.val) (if taken then target else behind) 2)) ∧
      (∀ u f stk, p.doOp (p.ctx c.val) (slotOp j) = (u, .trap f stk) →
        exec i s = .next ((u.modCore c.val (fun k => k.pushBack (s.ctx c.val).lvl v)).tick.takeSync c.val f stk true)))

open Sys2Proof Sys2Proof.Machine Sys2Proof.Claims in
/-- A delay slot that is undefined or that may not stand there raises 0x01 at the branch, which has no effect (R55, R77); more than
two immediate parcels are no branch. -/
def Sys2Proof.Claims.ForbiddenDelaySlotsRaiseIllegalParcel : Prop :=
  ∀ (c : CoreId) (h a : Bool) (d : BitVec 7) (imm : List (BitVec 16)) (slot : Parcel) (s : State),
    (imm.length ≤ 2 → Starts s c → parcelUndefined slot = true ∨ slotForbidden slot = true →
      exec (.bz c h a d imm slot) s = .next (s.tick.takeSync c.val (plainFault 0x01) false false) ∧
      exec (.bnz c h a d imm slot) s = .next (s.tick.takeSync c.val (plainFault 0x01) false false)) ∧
    (2 < imm.length → exec (.bz c h a d imm slot) s = .fault .illFormed ∧ exec (.bnz c h a d imm slot) s = .fault .illFormed)

namespace Sys2Proof.Claims

open Sys2Proof.Machine

/-- What step 4 of R116 leaves, seen from the context `s` that it interrupts: EPC, ESR, ECAUSE's cause and level, SR, and the PC at
the vector of R114. LR, FP, the stack and the banks are as they were. -/
def Entered (s t : State) (c : CoreId) (level cause : Nat) (epc : Word) : Prop :=
  ((t.core c.val).exc level).epc = epc ∧
  ((t.core c.val).exc level).esr = s.srOf c.val ∧
  ((t.core c.val).exc level).ecause.toNat % 256 = cause ∧
  ((t.core c.val).exc level).ecause.toNat / 256 % 4 = (s.core c.val).lvl.toNat ∧
  (t.core c.val).lvl.toNat = level ∧ (t.core c.val).ie = false ∧ (t.core c.val).v = false ∧ (t.core c.val).dz = false ∧
  (t.core c.val).ovtrap = false ∧ (t.core c.val).dztrap = false ∧
  (t.core c.val).pc = (if level = 1 then (s.core c.val).sync.evbK else (s.core c.val).sync.evbHW) +
    BitVec.ofNat 64 ((if (s.core c.val).lvl.toNat = level then 0x800 else 0) + 16 * cause) ∧
  (t.core c.val).stack = (s.core c.val).stack ∧ (t.core c.val).lr = (s.core c.val).lr ∧ (t.core c.val).fp = (s.core c.val).fp ∧
  (t.core c.val).bankU = (s.core c.val).bankU ∧ (t.core c.val).bankK = (s.core c.val).bankK ∧
  (t.core c.val).bankHW = (s.core c.val).bankHW ∧
  (∀ n, n ≠ c.val → t.core n = s.core n) ∧ t.mem = s.mem ∧ t.lines = s.lines ∧ t.regs = s.regs

end Sys2Proof.Claims

open Sys2Proof Sys2Proof.Machine Sys2Proof.Claims in
/-- The commit of an exception that is no interrupt writes EPC, ESR and ECAUSE of the handler's level, clears IE, V, DZ and the
traps, changes the level, and puts the PC at the vector, the upper half of the table for a same-level entry (R114, R116, R119); for a
cause with a syndrome it writes FSYN and FADDR too (R177). -/
def Sys2Proof.Claims.ExceptionEntryCommits : Prop :=
  ∀ (s : State) (c : CoreId) (e : Exc) (level : Nat) (esc : Bool),
    e.irq = none → (level = 1 ∨ level = 2 ∨ level = 3) → e.f.cause < 256 →
    Entered s (s.commitEntry c.val e level esc) c level e.f.cause e.epc ∧
    (e.syndrome = true → (((s.commitEntry c.val e level esc).core c.val).exc level).faddr = e.f.addr)

open Sys2Proof Sys2Proof.Machine Sys2Proof.Claims in
/-- TRAP at U enters K of the same world with cause 0x30, and HCALL at K of the normal world enters H with cause 0x31, EPC being the
address after the instruction (R43, R116, R119): every earlier MTS applied and every cached entry spilled, the entry is committed and
the vector fetched. At any other level they raise 0x02 (R43). -/
def Sys2Proof.Claims.TrapAndHcallEnterTheirHandlers : Prop :=
  ∀ (c : CoreId) (s t : State) (ps : List (List Part)), Ready s c 0 0 none t ps →
    (∀ w, (s.core c.val).lvl = 0#2 →
      ((Popped t c 0).tick.syncPoint c.val).spillAll (((Popped t c 0).tick.syncPoint c.val).ctx c.val) = (w, none) →
      (((Popped t c 0).tick.syncPoint c.val).core c.val).lvl = 0#2 → (w.core c.val).lvl = 0#2 →
      ∃ u, Entered w u c 1 0x30 ((t.core c.val).pc + 2#64) ∧
        ∀ x p, u.fetchVA (u.ctx c.val) (u.core c.val).pc.toNat = (x, .ok p) → exec (.trap c) s = .next x) ∧
    (∀ w, (s.core c.val).lvl = 1#2 → s.secure c.val = false →
      ((Popped t c 0).tick.syncPoint c.val).spillAll (((Popped t c 0).tick.syncPoint c.val).ctx c.val) = (w, none) →
      (((Popped t c 0).tick.syncPoint c.val).core c.val).lvl = 1#2 → ((Popped t c 0).tick.syncPoint c.val).secure c.val = false →
      (w.core c.val).lvl = 1#2 →
      ∃ u, Entered w u c 2 0x31 ((t.core c.val).pc + 2#64) ∧
        ∀ x p, u.fetchVA (u.ctx c.val) (u.core c.val).pc.toNat = (x, .ok p) → exec (.hcall c) s = .next x) ∧
    ((s.core c.val).lvl ≠ 0#2 → exec (.trap c) s = .next ((s.begin c.val).tick.takeSync c.val (plainFault 0x02) false false)) ∧
    ((s.core c.val).lvl ≠ 1#2 ∨ s.secure c.val = true →
      exec (.hcall c) s = .next ((s.begin c.val).tick.takeSync c.val (plainFault 0x02) false false))

open Sys2Proof Sys2Proof.Machine Sys2Proof.Claims in
/-- ERET at K or above returns to the context that EPC and ESR of its level name: the flags, IE and the level come from ESR, the PC
from EPC with bit 0 clear, and the stack cache is empty; at the same level its entries are spilled first, otherwise discarded (R26,
R124). An ESR that names a higher level, another world, or no level of the world raises 0x02 and changes nothing else (R124), and so
does ERET at U (R71). -/
def Sys2Proof.Claims.EretRestoresTheSavedContext : Prop :=
  ∀ (c : CoreId) (s b : State) (esr epc : Word), Starts s c → b = s.begin c.val → Ready s c 0 0 none b [] →
    ((s.core c.val).lvl = 0#2 → exec (.eret c) s = .next (b.tick.takeSync c.val (plainFault 0x02) false false)) ∧
    (((s.core c.val).lvl ≠ 0#2) → esr = ((s.core c.val).exc (s.core c.val).lvl.toNat).esr →
      epc = ((s.core c.val).exc (s.core c.val).lvl.toNat).epc →
      let good : Prop := esr.toNat / 256 % 4 ≤ (s.core c.val).lvl.toNat ∧ (esr.getLsbD 10 = s.secure c.val) ∧
        esr.toNat / 256 % 4 ≠ (if s.secure c.val then 2 else 3)
      (¬ good → exec (.eret c) s = .next ((PutBack (Popped b c 0) c []).tick.takeSync c.val (plainFault 0x02) false false)) ∧
      (good → ∀ u, (if esr.toNat / 256 % 4 = (s.core c.val).lvl.toNat
          then ((Popped b c 0).syncPoint c.val).spillChecked (((Popped b c 0).syncPoint c.val).ctx c.val) = (u, none)
          else u = (Popped b c 0).syncPoint c.val) →
        ∃ t pf, exec (.eret c) s = .next t ∧ OnlyCore u t c { u.core c.val with
          pc := even epc, v := esr.getLsbD 0, dz := esr.getLsbD 1, ovtrap := esr.getLsbD 2, dztrap := esr.getLsbD 3,
          lvl := esr.extractLsb' 8 2, ie := esr.getLsbD 11, stack := [], entry := none, perf := pf, perfNext := none,
          instrs := (u.core c.val).instrs + 1, useInstr := (u.core c.val).useInstr + 1 }))

namespace Sys2Proof.Claims

open Sys2Proof.Machine

/-! ### System registers (R44, R45) -/

/-- The plain system registers of R45's table with the lowest level that reads and writes each, the value that MFS pushes and what MTS
does: number, level, read, write. -/
def plainRegs : List (Nat × Nat × (Core → Word) × (Core → Word → Core)) := [
  (0x030, 1, (·.excK.epc), fun k v => { k with excK := { k.excK with epc := v } }),
  (0x034, 1, (·.excK.escr), fun k v => { k with excK := { k.excK with escr := v } }),
  (0x038, 2, (·.excHW.epc), fun k v => { k with excHW := { k.excHW with epc := v } }),
  (0x03C, 2, (·.excHW.escr), fun k v => { k with excHW := { k.excHW with escr := v } }),
  (0x041, 1, (·.tcmpK), fun k v => { k with tcmpK := v }),
  (0x042, 2, (·.tcmpHW), fun k v => { k with tcmpHW := v }),
  (0x059, 1, (·.excK.faddr), fun k v => { k with excK := { k.excK with faddr := v } }),
  (0x05D, 2, (·.excHW.faddr), fun k v => { k with excHW := { k.excHW with faddr := v } }),
  (0x033, 1, (·.sync.evbK), fun k v => { k with sync := { k.sync with evbK := v &&& 0xFFFFFFFFFFFFF000#64 } }),
  (0x03B, 2, (·.sync.evbHW), fun k v => { k with sync := { k.sync with evbHW := v &&& 0xFFFFFFFFFFFFF000#64 } }),
  (0x050, 1, (·.sync.asid), fun k v => { k with sync := { k.sync with asid := v &&& 0xFFFF#64 } }),
  (0x051, 1, (·.sync.ptbS1), fun k v => { k with sync := { k.sync with ptbS1 := v &&& 0xFFFFFFFFFF000#64 } }),
  (0x054, 2, (·.sync.vmid), fun k v => { k with sync := { k.sync with vmid := v &&& 0xFFFF#64 } }),
  (0x056, 2, (·.sync.tctlS2), fun k v => { k with sync := { k.sync with tctlS2 := v &&& 1#64 } }),
  (0x060, 2, (·.sync.coreCtl), fun k v => { k with sync := { k.sync with coreCtl := v &&& 1#64 } }),
  (0x0F8, 2, (·.sync.fmask), fun k v => { k with sync := { k.sync with fmask := v &&& 0x3F#64 } })]

end Sys2Proof.Claims

open Sys2Proof Sys2Proof.Machine Sys2Proof.Claims in
/-- MFS pushes a system register's value as it is before the push, and MTS pops a value into it, at the levels of R45's table: the
registers listed, the read-only identities (TB, CID, QID), and FEAT_0 as K and U see it through FMASK (R44, R45, R47). What MTS writes to a
register marked "yes" is in effect only from the next synchronising point: `eff` stays (R45). -/
def Sys2Proof.Claims.SystemRegistersAreReadAndWritten : Prop :=
  (∀ (c : CoreId) (s t : State) (ps : List (List Part)), Ready s c 0 1 none t ps →
    (∀ r ∈ plainRegs, r.2.1 ≤ (s.ctx c.val).lvl →
      exec (.mfs c (BitVec.ofNat 12 r.1)) s = .next (Leaves s t c 2 (Results 0 [r.2.2.1 (t.core c.val)]) ps)) ∧
    exec (.mfs c 0x040#12) s = .next (Leaves s t c 2 (Results 0 [t.tb]) ps) ∧
    exec (.mfs c 0x048#12) s = .next (Leaves s t c 2 (Results 0 [BitVec.ofNat 64 (t.cid (c.val / 16))]) ps) ∧
    exec (.mfs c 0x04A#12) s = .next (Leaves s t c 2 (Results 0 [(t.core c.val).sync.ttag]) ps) ∧
    (1 ≤ (s.ctx c.val).lvl → exec (.mfs c 0x04B#12) s = .next (Leaves s t c 2 (Results 0 [(t.core c.val).qid.setWidth 64]) ps)) ∧
    ((s.ctx c.val).lvl < 2 → exec (.mfs c 0x0F0#12) s =
      .next (Leaves s t c 2 (Results 0 [0x343904FF#64 &&& ((t.core c.val).sync.fmask ||| 0xFFFFFFFFFFFFFFC0#64)]) ps)) ∧
    (2 ≤ (s.ctx c.val).lvl → exec (.mfs c 0x0F0#12) s = .next (Leaves s t c 2 (Results 0 [0x343904FF#64]) ps))) ∧
  (∀ (c : CoreId) (s t : State) (ps : List (List Part)) (v : Word) (rest : List Word), Ready s c 1 0 none t ps →
    (t.core c.val).stack = v :: rest → ∀ r ∈ plainRegs, r.2.1 ≤ (s.ctx c.val).lvl →
      exec (.mts c (BitVec.ofNat 12 r.1)) s =
        .next (Leaves s t c 2 (fun k => { r.2.2.2 { k with stack := rest } v with eff := k.eff }) ps))

open Sys2Proof Sys2Proof.Machine Sys2Proof.Claims in
/-- The checks of MFS and MTS (R44): a number that names no register raises 0x01 at every level; a level below the register's, and a
write of a read-only register, raise 0x02. Nothing is pushed or popped. -/
def Sys2Proof.Claims.SystemRegisterChecks : Prop :=
  ∀ (c : CoreId) (n : BitVec 12) (s b : State), Starts s c → b = s.begin c.val →
    (sysLevels (s.uen c.val) n.toNat = none →
      exec (.mfs c n) s = .next (b.tick.takeSync c.val (plainFault 0x01) false false) ∧
      exec (.mts c n) s = .next (b.tick.takeSync c.val (plainFault 0x01) false false)) ∧
    (∀ r w, sysLevels (s.uen c.val) n.toNat = some (r, w) →
      ((s.ctx c.val).lvl < r → exec (.mfs c n) s = .next (b.tick.takeSync c.val (plainFault 0x02) false false)) ∧
      (w = none ∨ (∃ l, w = some l ∧ (s.ctx c.val).lvl < l) →
        exec (.mts c n) s = .next (b.tick.takeSync c.val (plainFault 0x02) false false)))

open Sys2Proof Sys2Proof.Machine Sys2Proof.Claims in
/-- A write of a stack register of the current level first spills every remaining cached entry, then writes the register with bits [2:0]
clear (R30, R39); a write of SR by U changes V, DZ, OVTRAP and DZTRAP only, and by a higher level IE too (R42, R44). -/
def Sys2Proof.Claims.StackRegisterAndStatusWrites : Prop :=
  ∀ (c : CoreId) (s t : State) (ps : List (List Part)) (v : Word) (rest : List Word), Ready s c 1 0 none t ps →
    (t.core c.val).stack = v :: rest →
    (∀ w, (Popped t c 1).spillChecked (s.ctx c.val) = (w, none) →
      exec (.mts c 0x001#12) s = .next (Leaves s w c 2
        (fun k => k.setBank (s.ctx c.val).lvl { k.bank (s.ctx c.val).lvl with osb := v &&& 0xFFFFFFFFFFFFFFF8#64 }) ps) ∧
      exec (.mts c 0x002#12) s = .next (Leaves s w c 2
        (fun k => k.setBank (s.ctx c.val).lvl { k.bank (s.ctx c.val).lvl with osl := v &&& 0xFFFFFFFFFFFFFFF8#64 }) ps) ∧
      exec (.mts c 0x003#12) s = .next (Leaves s w c 2
        (fun k => k.setBank (s.ctx c.val).lvl { k.bank (s.ctx c.val).lvl with osp := v &&& 0xFFFFFFFFFFFFFFF8#64 }) ps)) ∧
    exec (.mts c 0x000#12) s = .next (Leaves s t c 2 (fun k => { k with
      stack := rest, v := v.getLsbD 0, dz := v.getLsbD 1, ovtrap := v.getLsbD 2, dztrap := v.getLsbD 3,
      ie := if (s.ctx c.val).lvl = 0 then k.ie else v.getLsbD 11 }) ps)

/-! ### Barriers, cache and TLB maintenance (R73, R135, R136, R179, R180, R194, R215 to R219) -/

/-- No load of the core is outstanding: the misses that are left are prefetches. -/
def Sys2Proof.Claims.NoLoads : Sys2Proof.Machine.Core → Sys2Proof.Machine.Core :=
  fun k => { k with misses := k.misses.filter (fun m => !m.demand) }

open Sys2Proof Sys2Proof.Machine Sys2Proof.Claims in
/-- LBAR leaves no load of the core outstanding; SBAR marks the next buffer entry where earlier entries or device-posted stores
are outstanding; MBAR drains the buffer, has every device-posted store accepted and leaves no load outstanding (R194). CSYNC puts every
earlier MTS into effect (R135); ISYNC does so too, completes the earlier ICLEANs and leaves the fetch line buffer invalid (R136). -/
def Sys2Proof.Claims.BarriersAndSynchronisation : Prop :=
  ∀ (c : CoreId) (s t : State) (ps : List (List Part)), Ready s c 0 0 none t ps →
    exec (.lbar c) s = .next (Leaves s t c 2 NoLoads ps) ∧
    exec (.sbar c) s = .next (Leaves s t c 2
      (fun k => { k with sbar := if k.sb = [] ∧ k.posted = [] then k.sbar else true }) ps) ∧
    exec (.mbar c) s = .next (Leaves s ((State.drainN (s.ctx c.val) (t.core c.val).sb.length (Popped t c 0)).acceptAll (s.ctx c.val)) c 2
      NoLoads ps) ∧
    exec (.csync c) s = .next (Leaves s ((Popped t c 0).syncPoint c.val) c 2 (fun k => k) ps) ∧
    exec (.isync c) s = .next (Leaves s ((Popped t c 0).isyncOp (s.ctx c.val)) c 2 (fun k => k) ps) ∧
    ((t.core c.val).useTag = (t.core c.val).sync.ttag.setWidth 16 → (t.core c.val).sync.coreCtl = (t.core c.val).eff.coreCtl →
      exec (.csync c) s = .next (Leaves s t c 2 (fun k => { k with eff := k.sync }) ps) ∧
      ((∀ e ∈ (t.core c.val).sb, e.kind ≠ .iclean) →
        exec (.isync c) s = .next (Leaves s t c 2 (fun k => { k with eff := k.sync, lineBuf := none }) ps)))

namespace Sys2Proof.Claims

open Sys2Proof.Machine

/-- ( addr -- ): once a device-strict store before it has drained, a maintenance entry for the line at the address's PA commits, with
the address and its IPA for a report; it acts on no line of device memory. A translation that faults leaves the operand. -/
def LineOps (i : CoreId → Instr) (k : SbKind) (acc : AccKind) (low : Nat) : Prop :=
  ∀ c s t ps a rest w, Ready s c 1 0 none t ps → low ≤ (s.ctx c.val).lvl → (t.core c.val).stack = a :: rest →
    (∀ x, ((Popped t c 1).strictFirst (s.ctx c.val)).translate (s.ctx c.val) acc a.toNat = (w, .ok x) →
      let ipa := if (s.ctx c.val).lvl < 2 then some x.ipa else none
      exec (i c) s = .next (Leaves s (w.commit1 (s.ctx c.val) {
        kind := k, lines := [⟨x.pa / 64, a, ipa, decide (x.mt ≠ some .devStrict ∧ x.mt ≠ some .devPosted)⟩], va := a,
        ipa := ipa, lvl := BitVec.ofNat 2 (s.ctx c.val).lvl }) c 2 (fun k => k) ps)) ∧
    (∀ f, ((Popped t c 1).strictFirst (s.ctx c.val)).translate (s.ctx c.val) acc a.toNat = (w, .error f) →
      exec (i c) s = .next ((PutBack w c [a]).tick.takeSync c.val f false false))

/-- ( addr len -- ): a length of 0 does nothing; otherwise every page is checked first, and one entry holds every line, each with the
lowest address of the range in it and that address's IPA, which a report names. -/
def RangeOps (i : CoreId → Instr) (k : SbKind) (low : Nat) : Prop :=
  ∀ c s t ps a n rest w, Ready s c 2 0 none t ps → low ≤ (s.ctx c.val).lvl → (t.core c.val).stack = n :: a :: rest →
    (n = 0#64 → exec (i c) s = .next (Leaves s t c 2 (fun k => { k with stack := rest }) ps)) ∧
    (∀ l : List MaintLine, n ≠ 0#64 →
      State.rangeLines (s.ctx c.val) k (n.toNat / 4096 + 2) ((Popped t c 2).strictFirst (s.ctx c.val)) a.toNat n.toNat [] = (w, .ok l) →
      exec (i c) s = .next (Leaves s (w.commit1 (s.ctx c.val) {
        kind := k, lines := l, va := a, ipa := (match l with | x :: _ => x.ipa | [] => none),
        lvl := BitVec.ofNat 2 (s.ctx c.val).lvl }) c 2 (fun k => k) ps)) ∧
    (∀ f, n ≠ 0#64 →
      State.rangeLines (s.ctx c.val) k (n.toNat / 4096 + 2) ((Popped t c 2).strictFirst (s.ctx c.val)) a.toNat n.toNat [] = (w, .error f) →
      exec (i c) s = .next ((PutBack w c [n, a]).tick.takeSync c.val f false false))

end Sys2Proof.Claims

open Sys2Proof Sys2Proof.Machine Sys2Proof.Claims in
/-- The maintenance operations by line and by range commit one entry for the line, or for every line of the range, after the
translation of every page has passed; a length of 0 does nothing (R215, R216). DINV and DINV.R are for the top level only (R73). -/
def Sys2Proof.Claims.CacheMaintenanceCommitsItsLines : Prop :=
  LineOps .dclean .clean .load 0 ∧ LineOps .dflush .flush .load 0 ∧ LineOps .dinv .inv .load 2 ∧ LineOps .iclean .iclean .iclean 0 ∧
  RangeOps .dcleanR .clean 0 ∧ RangeOps .dflushR .flush 0 ∧ RangeOps .dinvR .inv 2 ∧ RangeOps .icleanR .iclean 0 ∧
  (∀ (c : CoreId) (s : State), Starts s c → (s.ctx c.val).lvl < 2 →
    exec (.dinv c) s = .next ((s.begin c.val).tick.takeSync c.val (plainFault 0x02) false false) ∧
    exec (.dinvR c) s = .next ((s.begin c.val).tick.takeSync c.val (plainFault 0x02) false false))

open Sys2Proof Sys2Proof.Machine Sys2Proof.Claims in
/-- What a maintenance entry does to a line when it is performed: a flush leaves no copy in any cache and every byte as it was, and an
invalidation leaves no copy; a clean leaves no dirty copy and the data in place (R215). -/
def Sys2Proof.Claims.PerformedMaintenanceOfALine : Prop :=
  ∀ (s : State) (key : Option (Nat × Nat)) (l : Nat) (x : CLine), s.line l = some x →
    ((s.lineFlush key l).line l = none) ∧ ((s.lineInv l).line l = none) ∧
    (∃ y, (s.lineClean key l).line l = some y ∧ y.anyDirty = false ∧ y.data = x.data) ∧
    (∀ k, k ≠ l → (s.lineInv l).line k = s.line k ∧ (s.lineFlush key l).line k = s.line k ∧ (s.lineClean key l).line k = s.line k)

open Sys2Proof Sys2Proof.Machine Sys2Proof.Claims in
/-- PREFR and PREFW pop their address and never raise an exception of their own: a failing translation, a type other than normal
write-back, eight outstanding misses or deterministic mode drop them; otherwise a miss is outstanding, and LOAD_RETURN brings its line
in (R142, R176, R219). -/
def Sys2Proof.Claims.PrefetchesNeverFault : Prop :=
  (∀ (c : CoreId) (s t : State) (ps : List (List Part)) (a : Word) (rest : List Word), Ready s c 1 0 none t ps →
    (t.core c.val).stack = a :: rest →
    exec (.prefr c) s = .next (Leaves s ((Popped t c 1).prefetchVA (s.ctx c.val) false a.toNat) c 2 (fun k => k) ps) ∧
    exec (.prefw c) s = .next (Leaves s ((Popped t c 1).prefetchVA (s.ctx c.val) true a.toNat) c 2 (fun k => k) ps)) ∧
  (∀ (s u : State) (x : Ctx) (excl : Bool) (va : Nat),
    (x.dtm = true → s.prefetchVA x excl va = s) ∧
    (∀ f, x.dtm = false → (s.strictFirst x).translate x .prefetch va = (u, .error f) → s.prefetchVA x excl va = s.strictFirst x) ∧
    (∀ y, x.dtm = false → (s.strictFirst x).translate x .prefetch va = (u, .ok y) →
      (y.mt ≠ some .wb ∨ 8 ≤ (u.core x.core).misses.length → s.prefetchVA x excl va = u) ∧
      (y.mt = some .wb → (u.core x.core).misses.length < 8 → u.l1dServes x.core (y.pa / 64) excl = false →
        ((s.prefetchVA x excl va).core x.core).misses = (u.core x.core).misses ++ [⟨y.pa, excl, false⟩]))) ∧
  (∀ (c : CoreId) (s : State), (s.core c.val).run ≠ .off →
    ∃ t, exec (.loadReturn c) s = .next t ∧ (∀ m rest, (s.core c.val).misses = m :: rest →
      ((s.ctx c.val).dtm = true → t = s.modCore c.val (fun k => { k with misses := rest })) ∧
      (m.demand = false → m.excl = false → ∀ x cp, HeldLine s c m.pa false x cp →
        (t.core c.val).misses = rest ∧ (∀ a, t.byteAt a = s.byteAt a))))

namespace Sys2Proof.Claims

open Sys2Proof.Machine

/-- ( -- ) or ( arg -- ): the invalidation takes effect in the issuing cluster after the core's earlier stores have drained, and the
core's TLBSYNC waits for the cluster. -/
def Tlbis (i : CoreId → Instr) (m low : Nat) (op : Ctx → Word → TlbInv) : Prop :=
  ∀ c s t ps a rest, Ready s c m 0 none t ps → low ≤ (s.ctx c.val).lvl → (m = 0 ∨ (t.core c.val).stack = a :: rest) →
    exec (i c) s = .next (Leaves s
      (State.invPend (State.invCluster (State.drainAll (Popped t c m) (s.ctx c.val)) (c.val / 16) (op (s.ctx c.val) a)) c.val (c.val / 16))
      c 2 (fun k => k) ps)

/-- The same in every working cluster of the compartment: the others receive it. -/
def Tlbibs (i : CoreId → Instr) (m low : Nat) (op : Ctx → Word → TlbInv) : Prop :=
  ∀ c s t ps a rest, Ready s c m 0 none t ps → low ≤ (s.ctx c.val).lvl → (m = 0 ∨ (t.core c.val).stack = a :: rest) →
    exec (i c) s = .next (Leaves s ((Popped t c m).tlbib (s.ctx c.val) (op (s.ctx c.val) a)) c 2 (fun k => k) ps)

/-- The level check of an instruction: below `low` it raises 0x02 and does nothing else. -/
def NeedsLevel (i : CoreId → Instr) (low : Nat) : Prop :=
  ∀ (c : CoreId) (s : State), Starts s c → (s.ctx c.val).lvl < low →
    exec (i c) s = .next ((s.begin c.val).tick.takeSync c.val (plainFault 0x02) false false)

end Sys2Proof.Claims

open Sys2Proof Sys2Proof.Machine Sys2Proof.Claims in
/-- The TLBI and TLBIB operations with their operands, at K and above or at the top level, and the levels that raise 0x02 (R73, R179). -/
def Sys2Proof.Claims.TlbInvalidationInstructions : Prop :=
  Tlbis .tlbiVa 1 1 (fun x a => .va x.vmid16 x.asid16 a) ∧ Tlbis .tlbiAsid 1 1 (fun x a => .asid x.vmid16 (a.extractLsb' 0 16)) ∧
  Tlbis .tlbiAll 0 1 (fun x _ => .all x.vmid16) ∧ Tlbis .tlbiIpa 1 2 (fun x a => .ipa x.vmid16 (a.extractLsb' 0 52)) ∧
  Tlbis .tlbiVmid 1 2 (fun _ a => .vmid (a.extractLsb' 0 16)) ∧ Tlbis .tlbiHall 0 2 (fun _ _ => .hall) ∧
  Tlbibs .tlbibVa 1 1 (fun x a => .va x.vmid16 x.asid16 a) ∧ Tlbibs .tlbibAsid 1 1 (fun x a => .asid x.vmid16 (a.extractLsb' 0 16)) ∧
  Tlbibs .tlbibAll 0 1 (fun x _ => .all x.vmid16) ∧ Tlbibs .tlbibIpa 1 2 (fun x a => .ipa x.vmid16 (a.extractLsb' 0 52)) ∧
  Tlbibs .tlbibVmid 1 2 (fun _ a => .vmid (a.extractLsb' 0 16)) ∧ Tlbibs .tlbibHall 0 2 (fun _ _ => .hall) ∧
  NeedsLevel .tlbiVa 1 ∧ NeedsLevel .tlbiAsid 1 ∧ NeedsLevel .tlbiAll 1 ∧ NeedsLevel .tlbiIpa 2 ∧ NeedsLevel .tlbiVmid 2 ∧
  NeedsLevel .tlbiHall 2 ∧ NeedsLevel .tlbibVa 1 ∧ NeedsLevel .tlbibAsid 1 ∧ NeedsLevel .tlbibAll 1 ∧ NeedsLevel .tlbibIpa 2 ∧
  NeedsLevel .tlbibVmid 2 ∧ NeedsLevel .tlbibHall 2 ∧ NeedsLevel .tlbsync 1

open Sys2Proof Sys2Proof.Machine Sys2Proof.Claims in
/-- What an invalidation leaves in a cluster's TLBs: no entry that it names, and every other entry (R179); after TLBSYNC the core waits
for no cluster, and after a received broadcast the cluster has none left to complete and no entry that one of them named (R180). -/
def Sys2Proof.Claims.InvalidationsRemoveTheirEntries : Prop :=
  (∀ (s : State) (n : Nat) (i : TlbInv), (∀ x y v, i = .va x y v → canonical v.toNat = true) →
    ∀ e, e ∈ ((s.invCluster n i).cluster n).tlb ↔ e ∈ (s.cluster n).tlb ∧ invHits i e = false) ∧
  (∀ (vmid : BitVec 16) (e : TlbEntry), invHits .hall e = true ∧ (invHits (.vmid vmid) e = true ↔ e.vmid = vmid.toNat) ∧
    (invHits (.all vmid) e = true ↔ e.vmid = vmid.toNat ∧ (e.kind = .combined ∨ ∃ l, e.kind = .table 1 l))) ∧
  (∀ (c : CoreId) (s t : State) (ps : List (List Part)), Ready s c 0 0 none t ps → 1 ≤ (s.ctx c.val).lvl →
    (t.core c.val).tlbPend = [] → exec (.tlbsync c) s = .next (Leaves s t c 2 (fun k => k) ps)) ∧
  (∀ (n : ClusterId) (s : State) (i : TlbInv), (s.cluster n.val).inv = [i] → (∀ x y v, i = .va x y v → canonical v.toNat = true) →
    (∀ c, c ∈ clusterCores n.val → (s.core c).sb = []) →
    ∃ t, exec (.tlbBroadcastReceived n) s = .next t ∧ (t.cluster n.val).inv = [] ∧
      (∀ e, e ∈ (t.cluster n.val).tlb ↔ e ∈ (s.cluster n.val).tlb ∧ invHits i e = false) ∧
      (∀ c, (s.cores.any (fun e => e.1 = c)) = true → n.val ∉ (t.core c).tlbPend)) ∧
  (∀ (n : ClusterId) (s : State), (s.cluster n.val).inv = [] → exec (.tlbBroadcastReceived n) s = .next s)

/-! ### Queue instructions and WCALL (R238, R240, R299) -/

open Sys2Proof Sys2Proof.Machine Sys2Proof.Claims in
/-- QPUSH and QPOP with an unaligned frame, a local queue outside the compartment's range, or, for QPOP, a remote queue raise the queue
fault 0x50 with its reason in DSP_QFAULT and leave their operands (R240); otherwise QPUSH reads the frame and pushes it or sends it, and
pushes its status, and QPOP claims the head frame and pushes its status (R238). -/
def Sys2Proof.Claims.QueuePushAndPop : Prop :=
  ∀ (c : CoreId) (s t : State) (ps : List (List Part)) (q a : Word) (rest : List Word), Ready s c 2 1 none t ps →
    (t.core c.val).stack = q :: a :: rest →
    (∀ n, (a.toNat % 64 ≠ 0 ∧ n = 4) ∨ (a.toNat % 64 = 0 ∧ q.getLsbD 36 = false ∧ t.inRange (t.cid (c.val / 16)) (q.toNat % 2 ^ 18) = false ∧ n = 1) →
      let w := PutBack ((Popped t c 2).wr (Reg.DSP_QFAULT (c.val / 16) (c.val % 16)) (BitVec.ofNat 64 (n + q.toNat % 2 ^ 18 * 256))) c [q, a]
      exec (.qpush c) s = .next (w.tick.takeSync c.val (plainFault 0x50) false false).settle ∧
      exec (.qpop c) s = .next (w.tick.takeSync c.val (plainFault 0x50) false false).settle) ∧
    (a.toNat % 64 = 0 → q.getLsbD 36 = true →
      exec (.qpop c) s = .next ((PutBack ((Popped t c 2).wr (Reg.DSP_QFAULT (c.val / 16) (c.val % 16))
        (BitVec.ofNat 64 (6 + q.toNat % 2 ^ 18 * 256))) c [q, a]).tick.takeSync c.val (plainFault 0x50) false false).settle) ∧
    (a.toNat % 64 = 0 → q.getLsbD 36 = false → t.inRange (t.cid (c.val / 16)) (q.toNat % 2 ^ 18) = true →
      (∀ u1 l u2 d u3 f w st,
        State.xlatParts (s.ctx c.val) .load (Popped t c 2) (pageParts a.toNat 256) = (u1, .ok l) →
        u1.checkDesc (s.ctx c.val) (q.toNat % 2 ^ 18) true = (u2, .ok d) →
        State.readBuf (s.ctx c.val) l (u2.fullBarrier (s.ctx c.val)) (bufLines a.toNat) = (u3, .ok f) →
        u3.pushLocal (s.ctx c.val) (q.toNat % 2 ^ 18) d f = (w, st) →
        exec (.qpush c) s = .next (Leaves s w c 2 (fun k => { k with stack := st :: k.stack }) ps).settle) ∧
      (∀ u1 l u2 d w st,
        State.xlatParts (s.ctx c.val) .store (Popped t c 2) (pageParts a.toNat 256) = (u1, .ok l) →
        (u1.fullBarrier (s.ctx c.val)).checkDesc (s.ctx c.val) (q.toNat % 2 ^ 18) false = (u2, .ok d) →
        u2.qpopRun (s.ctx c.val) a q d l = (w, .ok [st]) →
        exec (.qpop c) s = .next (Leaves s w c 2 (fun k => { k with stack := st :: k.stack }) ps).settle))

open Sys2Proof Sys2Proof.Machine Sys2Proof.Claims in
/-- WAIT performs the core's earlier stores and, with nothing to wake the core, holds its context: the core is waiting with DSP_STAT.STATE = 2 and retires nothing; WAIT_END
completes it, with the PC behind the WAIT, once a frame has come, an interrupt is takeable or a preemption is due, and does nothing
before (R238). A WAIT whose cause is there completes at once. -/
def Sys2Proof.Claims.WaitHoldsTheContext : Prop :=
  (∀ (c : CoreId) (s t : State) (ps : List (List Part)), Ready s c 0 0 none t ps →
    let w := (Popped t c 0).fullBarrier (s.ctx c.val)
    ((w.irqTakeable c.val || w.preemptDue c.val) = false →
      exec (.wait c) s = .next ((w.modCore c.val (fun k => { k with run := .waiting, homeFrame := false, entry := none })).setF
        (dspStat c.val) Fld.DSP_STAT_STATE 2)) ∧
    ((w.irqTakeable c.val || w.preemptDue c.val) = true →
      exec (.wait c) s = .next (Leaves s w c 2 (fun k => k) ps))) ∧
  (∀ (c : CoreId) (s : State), (s.core c.val).run = .waiting →
    ((s.core c.val).homeFrame = true ∨ s.irqTakeable c.val = true ∨ s.preemptDue c.val = true →
      ∃ t, exec (.waitEnd c) s = .next t ∧ (t.core c.val).run = .running ∧ (t.core c.val).stack = (s.core c.val).stack ∧
        (t.core c.val).pc = even ((s.core c.val).pc + 2#64) ∧ t.getF (dspStat c.val) Fld.DSP_STAT_STATE = 1 ∧
        (∀ a, t.byteAt a = s.byteAt a)) ∧
    ((s.core c.val).homeFrame = false → s.irqTakeable c.val = false → s.preemptDue c.val = false → exec (.waitEnd c) s = .next s))

open Sys2Proof Sys2Proof.Machine Sys2Proof.Claims in
/-- QDONE of a running task ends it: its queue's QD_DONE is counted, the use is charged, and the core dispatches its next task. YIELD
saves the task to its queue and dispatches; where the save fails the task runs on behind the YIELD (R238, R246). Both do so too from a
level above whose return leads to the task (R251). At HW without a task both go to dispatch; below HW without one, and from a level above
whose return does not lead to the task, they raise 0x50, reason 5 (R240, R251). -/
def Sys2Proof.Claims.QdoneAndYieldEndTheTask : Prop :=
  ∀ (c : CoreId) (s t : State), Ready s c 0 0 none t [] →
    (∀ x, (t.core c.val).task = some x → (t.core c.val).lvl = x.lvl →
      exec (.qdone c) s = .next ((((((Popped t c 0).fullBarrier ((Popped t c 0).ctx c.val)).retire c.val 2).countDone c.val).endTask c.val).seekWork
        c.val).settle ∧
      (∀ w, ((Popped t c 0).retire c.val 2).saveTask c.val x false false = (w, true) →
        exec (.yield c) s = .next ((w.endTask c.val).seekWork c.val).settle) ∧
      (∀ w, ((Popped t c 0).retire c.val 2).saveTask c.val x false false = (w, false) → exec (.yield c) s = .next w.settle)) ∧
    ((t.core c.val).task = none → 2 ≤ (t.core c.val).lvl.toNat →
      exec (.qdone c) s = .next (((((Popped t c 0).fullBarrier (s.ctx c.val)).retire c.val 2).park c.val).seekWork c.val).settle ∧
      exec (.yield c) s = exec (.qdone c) s) ∧
    (∀ x, (t.core c.val).task = some x → (t.core c.val).lvl ≠ x.lvl →
      let esr := ((t.core c.val).exc (t.core c.val).lvl.toNat).esr
      let back := x.lvl.toNat < (t.core c.val).lvl.toNat ∧ esr.toNat / 2 ^ 8 % 4 = x.lvl.toNat ∧
        eretOk (t.core c.val).lvl.toNat (t.secure c.val) esr = true
      (back → exec (.qdone c) s = .next ((((((Popped t c 0).fullBarrier ((Popped t c 0).ctx c.val)).retire c.val 2).countDone
          c.val).endTask c.val).seekWork c.val).settle ∧
        (∀ w, ((Popped t c 0).retire c.val 2).saveTask c.val x true false = (w, true) →
          exec (.yield c) s = .next ((w.endTask c.val).seekWork c.val).settle) ∧
        (∀ w, ((Popped t c 0).retire c.val 2).saveTask c.val x true false = (w, false) → exec (.yield c) s = .next w.settle)) ∧
      (¬back → ∃ v, exec (.qdone c) s = .next ((PutBack ((Popped t c 0).tick.wr (Reg.DSP_QFAULT (c.val / 16) (c.val % 16)) v) c
          []).tick.takeSync c.val (plainFault 0x50) false false).settle ∧ v.toNat % 256 = 5 ∧
        exec (.yield c) s = exec (.qdone c) s)) ∧
    ((t.core c.val).task = none → (t.core c.val).lvl.toNat < 2 →
      ∃ v, exec (.qdone c) s = .next ((PutBack ((Popped t c 0).tick.wr (Reg.DSP_QFAULT (c.val / 16) (c.val % 16)) v) c []).tick.takeSync
          c.val (plainFault 0x50) false false).settle ∧ v.toNat % 256 = 5 ∧
        exec (.yield c) s = exec (.qdone c) s)

open Sys2Proof Sys2Proof.Machine Sys2Proof.Claims in
/-- WCALL at K or H of the normal world pops fn and arg and queues a request of its compartment, level and core; the core
then retires nothing until WCALL_COMPLETE pushes res and st and goes on behind the call (R299). A call that is refused pushes 0 and its
status at once. At U and in the secure world WCALL raises 0x02 (R43). -/
def Sys2Proof.Claims.WcallQueuesItsRequest : Prop :=
  (∀ (c : CoreId) (s t : State) (ps : List (List Part)) (fn arg : Word) (rest : List Word) (w : State), Ready s c 2 2 none t ps →
    1 ≤ (s.ctx c.val).lvl → s.secure c.val = false → (t.core c.val).stack = fn :: arg :: rest →
    ((Popped t c 2).wcallRefusal (t.cid (c.val / 16)) = (w, none) →
      ∃ u r, exec (.wcall c) s = .next u ∧ u.warden.q = w.warden.q ++ [r] ∧ r.arg = arg ∧ r.fn = fn ∧ r.delivered = none ∧
        r.cid = w.cid (c.val / 16) ∧ r.cluster = c.val / 16 ∧ r.core = c.val % 16 ∧ r.lvl = BitVec.ofNat 2 (s.ctx c.val).lvl ∧
        (u.core c.val).run = .wcalling ∧ (u.core c.val).wcall = some r.id ∧ (u.core c.val).stack = (w.core c.val).stack ∧
        (u.core c.val).pc = (w.core c.val).pc) ∧
    (∀ st, (Popped t c 2).wcallRefusal (t.cid (c.val / 16)) = (w, some st) →
      exec (.wcall c) s = .next (Leaves s w c 2 (fun k => { k with stack := BitVec.ofNat 64 st :: 0#64 :: k.stack }) ps))) ∧
  (∀ (c : CoreId) (s : State), Starts s c → (s.ctx c.val).lvl < 1 ∨ s.secure c.val = true →
    exec (.wcall c) s = .next ((s.begin c.val).tick.takeSync c.val (plainFault 0x02) false false)) ∧
  (∀ (c : CoreId) (s : State) (res st : Word), (s.core c.val).run = .wcalling → (s.core c.val).wresult = some (res, st) →
    ∃ t pf, exec (.wcallComplete c) s = .next t ∧ OnlyCore s t c { s.core c.val with
      run := .running, wcall := none, wresult := none, stack := st :: res :: (s.core c.val).stack, perf := pf, perfNext := none,
      entry := none, instrs := (s.core c.val).instrs + 1, useInstr := (s.core c.val).useInstr + 1, pc := even ((s.core c.val).pc + 2#64) })


namespace Sys2Proof.Claims

open Sys2Proof.Machine

/-! ### Accesses to the register atlas (R490 to R499) -/

/-- A 64-bit write of a register by an agent passes every check before the register's own rule (R493): the agent runs, and its access
is neither refused nor answered by an asleep block, at an offset that holds a register. -/
def Performed (s : State) (a : Agent) (w : Who) (key : Nat) : Prop :=
  s.who a = some w ∧ s.gate w (regAddr key) 8 true = (s, .serve)

end Sys2Proof.Claims

namespace Sys2Proof.Claims

open Sys2Proof.Machine

/-! ### What happens on a core beside its instructions (R36, R55, R116, R122, R126 to R133, R156, R249) -/

/-- A data error raised on a core with an open address (R36, R457): its error summary, ID 6, is pending, and the core stands as it
stood when the error was found. -/
def DataError (s t : State) (c : CoreId) : Prop :=
  ∃ (u : State) (a : Word), t = u.takeSync c.val { cause := 0x20, typ := 10, addr := a } false false ∧ u.core c.val = s.core c.val ∧
    (u.rd (Reg.CII_PEND (c.val / 16) (c.val % 16))).getLsbD 6 = true ∧ u.mem = s.mem ∧ u.lines = s.lines

end Sys2Proof.Claims

open Sys2Proof Sys2Proof.Machine Sys2Proof.Claims in
/-- An exception outside the instructions' own rows is recognised on a running core: an undefined parcel raises 0x01 (R55), a faulting
fetch of the instruction raises its fault (R111), and a stack entry, a system register or the core's own state that fails its parity
raises a data error (R36, R457). What the boundary has for the core, a deferred report or an interrupt, comes first (R122, R128). A core
that does not run has none. -/
def Sys2Proof.Claims.ExceptionsOutsideTheInstructions : Prop :=
  ∀ (c : CoreId) (s : State),
    (∀ t, (s.core c.val).run = .running → s.boundary c.val = some t → ∀ e, exec (.exceptionEntry c e) s = .next t) ∧
    (Starts s c →
      (∀ p, parcelUndefined p = true →
        exec (.exceptionEntry c (.parcel p)) s = .next (s.takeSync c.val (plainFault 0x01) false false)) ∧
      (∀ u f, s.fetchVA (s.ctx c.val) (s.core c.val).pc.toNat = (u, .error f) →
        exec (.exceptionEntry c (.fetch (s.core c.val).pc)) s = .next (u.takeSync c.val f false false)) ∧
      ((s.core c.val).stack ≠ [] → ∃ t, exec (.exceptionEntry c .stackParity) s = .next t ∧ DataError s t c) ∧
      (∀ n : BitVec 12, sysLevels false n.toNat ≠ none →
        ∃ t, exec (.exceptionEntry c (.registerParity n)) s = .next t ∧ DataError s t c) ∧
      (∃ t, exec (.exceptionEntry c .coreParity) s = .next t ∧ DataError s t c)) ∧
    ((s.core c.val).run ≠ .running → ∀ e, exec (.exceptionEntry c e) s = .next s)

open Sys2Proof Sys2Proof.Machine Sys2Proof.Claims in
/-- The interrupt that a core takes is pending, enabled and takeable at its level, HW before K and then the lowest ID (R128); a running
core enters at its PC, a waiting one behind its WAIT (R238), a parked one at DSP_PARK (R249), a core whose WCALL has ended behind the call
(R304). Without such an interrupt nothing happens. -/
def Sys2Proof.Claims.InterruptsAreTakenInTheirOrder : Prop :=
  (∀ (s : State) (core l i : Nat) (ie hw : Bool), s.pickIrq core l ie = some (i, hw) →
    i < 64 ∧ s.armed core i = true ∧ s.idHW core i = hw ∧ takeableAt (if hw then s.topLvl core else 1) l ie = true ∧
    (∀ j, j < i → s.armed core j = true → s.idHW core j ≠ hw) ∧
    (hw = false → ∀ j, j < 64 → s.armed core j = true → s.idHW core j = true → takeableAt (s.topLvl core) l ie = false)) ∧
  (∀ (c : CoreId) (s : State) (id : Nat) (hw : Bool), s.nextIrq c.val = some (id, hw) → s.coreAwake c.val = true →
    ((s.core c.val).run = .running →
      exec (.interruptEntry c) s = .next (s.takeExc c.val (interruptExc id hw (s.core c.val).pc))) ∧
    ((s.core c.val).run = .waiting →
      exec (.interruptEntry c) s = .next ((s.endWait c.val).takeExc c.val (interruptExc id hw ((s.endWait c.val).core c.val).pc))) ∧
    ((s.core c.val).run = .parked → ∃ u : State, exec (.interruptEntry c) s = .next (State.takeExc u c.val (interruptExc id hw (u.core c.val).pc)) ∧
      (u.core c.val).pc = even (s.forced (Reg.DSP_PARK (c.val / 16) (c.val % 16))) ∧ (u.core c.val).ie = true ∧
      (u.core c.val).lvl.toNat = s.topLvl c.val ∧ (u.core c.val).run = .running) ∧
    ((s.core c.val).run = .wcalling → (s.core c.val).wresult ≠ none →
      exec (.interruptEntry c) s = .next ((s.wcallDone c.val).takeExc c.val (interruptExc id hw ((s.wcallDone c.val).core c.val).pc)))) ∧
  (∀ (c : CoreId) (s : State), s.nextIrq c.val = none → exec (.interruptEntry c) s = .next s)

open Sys2Proof Sys2Proof.Machine Sys2Proof.Claims in
/-- An interrupt that takes over an entry in progress finds the interrupted context put back, its exception registers, level and SR as
they were, and enters with ECAUSE.TKO; the address saved is that of the interrupted context, or of the TRAP or HCALL itself (R133). A
deferred report is taken oldest first and leaves the list (R122). The timers' pending bits follow TB (R126), doorbells set the bits of
CII_SET (R129), and a counter's overflow interrupt is ID 8 (R156). -/
def Sys2Proof.Claims.LateArrivalsReportsAndPendingBits : Prop :=
  (∀ (c : CoreId) (s : State) (r : EntryRec) (i : Nat × Bool), (s.core c.val).entry = some r → s.lateIrq c.val r = some i →
    let epc := if r.cause = 0x30 ∨ r.cause = 0x31 then r.opAddr else r.epc
    ∃ u : State, exec (.lateArrival c) s =
        .next (u.takeExc c.val { f := plainFault 0x40, irq := some i, tko := true, epc := epc, opAddr := r.opAddr }) ∧
      (u.core c.val).exc r.level.toNat = r.saved ∧ (u.core c.val).pc = r.opAddr ∧ (u.core c.val).stack = (s.core c.val).stack ∧
      (u.core c.val).lvl.toNat = (((s.core c.val).exc r.level.toNat).esr).toNat / 256 % 4 ∧
      (u.core c.val).ie = (((s.core c.val).exc r.level.toNat).esr).getLsbD 11 ∧ u.mem = s.mem) ∧
  (∀ (c : CoreId) (s : State), (s.core c.val).entry = none → exec (.lateArrival c) s = .next s) ∧
  (∀ (c : CoreId) (s : State) (d : Deferred) (l : List Deferred), (s.core c.val).deferred = d :: l → (s.core c.val).run = .running →
    s.coreAwake c.val = true →
    exec (.deferredReport c) s = .next ((s.modCore c.val (fun k => { k with deferred := l })).takeExc c.val
      { f := d.fault, dfr := some d, epc := (s.core c.val).pc, opAddr := (s.core c.val).pc })) ∧
  (∀ (c : CoreId) (s : State), (s.core c.val).deferred = [] → exec (.deferredReport c) s = .next s) ∧
  (∀ (c : CoreId) (s : State), ∃ v, exec (.timerCompare c) s = .next (s.wr (Reg.CII_PEND (c.val / 16) (c.val % 16)) v) ∧
    v.getLsbD 0 = decide ((s.core c.val).tcmpHW.toNat ≤ s.tb.toNat) ∧ v.getLsbD 1 = decide ((s.core c.val).tcmpK.toNat ≤ s.tb.toNat) ∧
    ∀ j, 2 ≤ j → v.getLsbD j = (s.rd (Reg.CII_PEND (c.val / 16) (c.val % 16))).getLsbD j) ∧
  (∀ (a : Agent) (c : CoreId) (v : Word) (s : State) (w : Who), Performed s a w (Reg.CII_SET (c.val / 16) (c.val % 16)) →
    exec (.ciiSet a c v) s = .next (s.wr (Reg.CII_PEND (c.val / 16) (c.val % 16))
      (s.rd (Reg.CII_PEND (c.val / 16) (c.val % 16)) ||| (v &&& 0xFFFFFFFFFFFFFF7C#64))).settle) ∧
  (∀ (c : CoreId) (n : Fin 8) (s : State), timedEvent (((s.core c.val).perf.pmsel.getD n.val 0#64).toNat % 256) = false →
    ((s.core c.val).perf.irq.getLsbD n.val = true → ∃ t, exec (.pmcOverflow c n) s = .next t ∧
      (t.rd (Reg.CII_PEND (c.val / 16) (c.val % 16))).getLsbD 8 = true ∧ (t.core c.val).perf.irq.getLsbD n.val = false ∧
      (t.core c.val).perf.pmc = (s.core c.val).perf.pmc) ∧
    ((s.core c.val).perf.irq.getLsbD n.val = false → exec (.pmcOverflow c n) s = .next s))

namespace Sys2Proof.Claims

open Sys2Proof.Machine

/-! ### The cache protocol and the home slice (R183, R192, R209 to R212, R226) -/

/-- A request finds line `l` present in the L3 as `x`: every check on its way to the home slice passes (R268, R275), and no error is
armed there (R467). -/
def AtSlice (s : State) (r : Req) (l : Nat) (x : CLine) : Prop :=
  s.line l = some x ∧ s.toSlice r (l * 64) = (s, none) ∧ s.takeInject (pageL3S (sliceOf (l * 64))) r.cid = (none, s)

/-- Every modified copy of a line finds a slot of the line's owner on its way to the home slice (R274). -/
def Reaches (s : State) (l : Nat) (x : CLine) : Prop :=
  ∀ k ∈ x.copies, k.st = .m →
    s.firstNoSlot (pathWheels (k.cl / 12) (sliceDie (sliceOf (l * 64))) ++ [wheelL3S (sliceOf (l * 64))]) (s.lineOwner l) false = none

/-- No byte of memory changes. -/
def SameBytes (s t : State) : Prop := ∀ a, t.byteAt a = s.byteAt a

end Sys2Proof.Claims

open Sys2Proof Sys2Proof.Machine Sys2Proof.Claims in
/-- A read at the home slice of a line that the core's cluster does not hold leaves every copy shared, the cluster's among them, and
the data of a modified copy with the slice; an ownership request leaves the cluster's copy, exclusive, as the only one (R209, R210).
Neither changes a byte of memory as every agent reads it. -/
def Sys2Proof.Claims.HomeSliceGrantsSharedAndExclusiveCopies : Prop :=
  ∀ (c : CoreId) (pa : BitVec 52) (s : State) (x : CLine),
    (s.ctx c.val).dtm = false → AtSlice s (s.coreReq (s.ctx c.val) 0) (pa.toNat / 64) x → x.copy (c.val / 16) = none →
    (∃ t y, exec (.l3Read c pa) s = .next t ∧ t.line (pa.toNat / 64) = some y ∧ y.data = x.data ∧ (∀ k ∈ y.copies, k.st = .s) ∧
      (∃ k ∈ y.copies, k.cl = c.val / 16 ∧ k.d = [(c.val, .s)]) ∧ y.dirty = x.anyDirty ∧ SameBytes s t) ∧
    (∃ t y, exec (.ownershipRequest c pa) s = .next t ∧ t.line (pa.toNat / 64) = some y ∧ y.data = x.data ∧
      y.copies = [⟨c.val / 16, .e, [(c.val, .e)], []⟩] ∧ y.dirty = x.anyDirty ∧ SameBytes s t)

open Sys2Proof Sys2Proof.Machine Sys2Proof.Claims in
/-- An L2 gives a modified line back by a write-back and a clean one by an eviction notice or at the slice's invalidation; a recall takes
either, and a downgrade leaves every copy shared. The data goes to the slice in the owner's slots (R274), the line stays dirty where a
copy was modified, and what every agent reads does not change (R209). Modified data without a slot leaves poison (R275;
log 156). -/
def Sys2Proof.Claims.CopiesReturnToTheHomeSlice : Prop :=
  (∀ (n : ClusterId) (pa : BitVec 52) (s : State) (x : CLine) (k : L2Copy), s.line (pa.toNat / 64) = some x → x.copy n.val = some k →
    Reaches s (pa.toNat / 64) x →
    (k.st = .m → exec (.writeBack n pa) s = .next (s.setLine (pa.toNat / 64) (some (x.dropCopy n.val))) ∧
      exec (.evictionNotice n pa) s = .next s ∧ exec (.invalidate n pa) s = .next s) ∧
    (k.st ≠ .m → exec (.evictionNotice n pa) s = .next (s.setLine (pa.toNat / 64) (some (x.dropCopy n.val))) ∧
      exec (.invalidate n pa) s = .next (s.setLine (pa.toNat / 64) (some (x.dropCopy n.val))) ∧ exec (.writeBack n pa) s = .next s) ∧
    exec (.recall n pa) s = .next (s.setLine (pa.toNat / 64) (some (x.dropCopy n.val))) ∧
    exec (.downgrade n pa) s = .next (s.setLine (pa.toNat / 64) (some x.downgrade))) ∧
  (∀ (n : ClusterId) (pa : BitVec 52) (s : State) (x : CLine) (k : L2Copy) (w : Nat), let l := pa.toNat / 64
    s.line l = some x → x.copies = [k] → k.cl = n.val → k.st = .m →
    s.firstNoSlot (pathWheels (n.val / 12) (sliceDie (sliceOf (l * 64))) ++ [wheelL3S (sliceOf (l * 64))]) (s.lineOwner l) false = some w →
    exec (.writeBack n pa) s = .next ((s.logNoSlot w (l * 64)).setLine l (some { x.dropCopy n.val with poison := true }))) ∧
  (∀ (s : State) (l n : Nat) (x : CLine), s.line l = some x →
    (x.dropCopy n).data = x.data ∧ (x.dropCopy n).copy n = none ∧ (x.dropCopy n).anyDirty = x.anyDirty ∧
    (∀ m, m ≠ n → (x.dropCopy n).copy m = x.copy m) ∧
    x.downgrade.data = x.data ∧ x.downgrade.dirty = x.anyDirty ∧ (∀ k ∈ x.downgrade.copies, k.st = .s) ∧
    SameBytes s (s.setLine l (some (x.dropCopy n))) ∧ SameBytes s (s.setLine l (some x.downgrade)))

open Sys2Proof Sys2Proof.Machine Sys2Proof.Claims in
/-- At a line present in the L3, its modified copies finding their slots: a far atomic, once its core's store buffer is empty (R195), recalls
every copy, keeps the old value for its core and writes its new value, and no
other byte changes (R226); a DMA read downgrades the copies and reads the line; a DMA write recalls them and changes exactly the bytes
of its mask (R212). -/
def Sys2Proof.Claims.FarAtomicsAndDmaAtTheHomeSlice : Prop :=
  (∀ (c : CoreId) (op : AtomOp) (dbl : Bool) (pa : BitVec 52) (v e : Word) (s u : State) (x : CLine) (n : Nat),
    n = (if dbl then 8 else 4) → pa.toNat % n = 0 → s.inDram pa.toNat = true → (s.ctx c.val).dtm = false → x.poison = false →
    u = s.fullBarrier (s.ctx c.val) → AtSlice u (u.coreReq (s.ctx c.val) 0) (pa.toNat / 64) x → Reaches u (pa.toNat / 64) x →
    ∃ t old y, exec (.farAtomic c op dbl pa v e) s = .next t ∧ (t.core c.val).farOld = BitVec.ofNat 64 old ∧ old < 2 ^ (8 * n) ∧
      (∀ j, j < n → BitVec.ofNat 8 (old / 2 ^ (8 * j)) = u.byteAt (pa.toNat + j)) ∧
      t.line (pa.toNat / 64) = some y ∧ y.copies = [] ∧
      (∀ a, t.byteAt a = match atomNew op (8 * n) old (v.toNat % 2 ^ (8 * n)) (e.toNat % 2 ^ (8 * n)) with
        | some z => if pa.toNat ≤ a ∧ a < pa.toNat + n then BitVec.ofNat 8 (z / 2 ^ (8 * (a - pa.toNat))) else u.byteAt a
        | none => u.byteAt a)) ∧
  (∀ (cid : CompId) (pa : BitVec 52) (s : State) (x : CLine), AtSlice s (ioAgent cid.val) (pa.toNat / 64) x →
    Reaches s (pa.toNat / 64) x → s.io.evq = [] →
    (∃ t, exec (.dmaMemoryRead cid pa) s = .next t ∧ t.line (pa.toNat / 64) = some x.downgrade ∧ t.mem = s.mem ∧
      (∀ l, l ≠ pa.toNat / 64 → t.line l = s.line l) ∧ SameBytes s t) ∧
    (s.dmaRead (ioAgent cid.val) (pa.toNat / 64)).2 = .ok (x.data, x.poison) ∧
    ∀ (d : BitVec 512) (m : BitVec 64), m ≠ 0#64 → ∃ t y, exec (.dmaMemoryWrite cid pa d m) s = .next t ∧
      t.line (pa.toNat / 64) = some y ∧ y.copies = [] ∧ y.dirty = true ∧
      (∀ a, t.byteAt a = if a / 64 = pa.toNat / 64 ∧ m.getLsbD (a % 64) = true then BitVec.ofNat 8 (d.toNat / 2 ^ (8 * (a % 64))) else s.byteAt a))

open Sys2Proof Sys2Proof.Machine Sys2Proof.Claims in
/-- A device-posted store leaves the buffer when the hub or its mesh stop takes it, and its target performs and accepts it later, the
oldest for that target first (R191, R192); which target goes first is open. No other head leaves so. A walk answers as the translation of its address does, and one for a prefetch that fails leaves no trace (R173, R176). A
flit lost after its retries gives a load a data error at once and a store a deferred report (R458, R122); where it belonged to the walk
before the access, that ends with the data error 0x1D of a table (R175). -/
def Sys2Proof.Claims.PostedStoresWalksAndLostFlits : Prop :=
  (∀ (c : CoreId) (s : State) (e : SbEntry) (rest : List SbEntry), (s.core c.val).sb = e :: rest →
    (e.kind = .store → e.mt = .devPosted → s.fixedType e.pa = some .devPosted → e.parityBad = false →
      s.getF (Reg.ERR_INJECT (pageL2C (c.val / 16))) Fld.ERR_INJECT_TYPE ≠ 3 → (e.bar = false ∨ (s.core c.val).posted = []) →
      ∃ u : State, exec (.devicePostedAccept c) s = .next u.settle ∧ (u.core c.val).sb = rest ∧
        (u.core c.val).posted = (s.core c.val).posted ++ [e] ∧ SameBytes s u) ∧
    (e.kind ≠ .store ∨ e.mt ≠ .devPosted → exec (.devicePostedAccept c) s = .next s)) ∧
  (∀ (c : CoreId) (s : State),
    ((s.core c.val).posted = [] → exec (.targetAcceptance c) s = .next s) ∧
    (∀ e, (s.core c.val).posted = [e] → exec (.targetAcceptance c) s = .next (s.acceptAll (s.ctx c.val)).settle) ∧
    (2 ≤ (s.core c.val).posted.length → ∃ x ∈ (s.core c.val).posted,
      (s.core c.val).posted.find? (fun y => decide (postTarget y.pa = postTarget x.pa)) = some x ∧
      let u := s.tick.modCore c.val (fun k => { k with posted := k.posted.erase x })
      exec (.targetAcceptance c) s = .next (u.performStore ((u.ctx c.val).charging x.tag) x).settle)) ∧
  (∀ (c : CoreId) (k : AccKind) (va : Word) (s t : State),
    (∀ x, s.translate (s.ctx c.val) k va.toNat = (t, .ok x) → exec (.tableWalk c k va) s = .next t) ∧
    (∀ f, s.translate (s.ctx c.val) k va.toNat = (t, .error f) → exec (.tableWalk c k va) s = .next (if k = .prefetch then s else t))) ∧
  (∀ (c : CoreId) (va : Word) (s : State), Starts s c →
    (s.ctx c.val).en1 = false → (s.ctx c.val).en2 = false → ∀ k, s.walkFlit (s.ctx c.val) k va = none) ∧
  (∀ (c : CoreId) (va : Word) (s : State), Starts s c →
    (match s.walkFlit (s.ctx c.val) .load va with
    | some (u, f) => f.cause = 0x1D ∧
      exec (.meshFlitCrcFail c va false) s = .next ((u.errSummary c.val).takeSync c.val f false false)
    | none => ∀ t p l, s.checkAccess (s.ctx c.val) .load va.toNat 1 = (t, .ok (p :: l)) →
      ∃ u : State, ∃ f : FaultInfo, exec (.meshFlitCrcFail c va false) s = .next (u.takeSync c.val f false false) ∧
        f.cause = 0x20 ∧ u.core c.val = t.core c.val ∧ (u.rd (Reg.CII_PEND (c.val / 16) (c.val % 16))).getLsbD 6 = true) ∧
    (match s.walkFlit (s.ctx c.val) .store va with
    | some (u, f) => f.cause = 0x1D ∧
      exec (.meshFlitCrcFail c va true) s = .next ((u.errSummary c.val).takeSync c.val f false false)
    | none => ∀ t p l, s.checkAccess (s.ctx c.val) .store va.toNat 1 = (t, .ok (p :: l)) →
      ∃ u d, exec (.meshFlitCrcFail c va true) s = .next u ∧ (u.core c.val).deferred = (t.core c.val).deferred ++ [d] ∧
        d.cause = 0x20 ∧ d.addr = va ∧ d.wnr = true ∧ (u.rd (Reg.CII_PEND (c.val / 16) (c.val % 16))).getLsbD 6 = true))

open Sys2Proof Sys2Proof.Machine Sys2Proof.Claims in
/-- A load from a PCIe window with a link, of the top level and aligned, gets the device's answer, extended, in place of its address
(R356). Where the device answers with an error, the link's end or a timeout, the load gets all ones, and where RDERR asks for it or the
data is poisoned a data error, its address back on the stack (R357). -/
def Sys2Proof.Claims.LoadsFromDeviceWindows : Prop :=
  ∀ (c : CoreId) (width : Fin 4) (sx : Bool) (s : State) (a : Word) (rest : List Word) (n p : Nat), n = 2 ^ width.val →
    Starts s c → TopLevel s c → (s.core c.val).stack = a :: rest → (s.core c.val).stack.length ≤ 16 →
    (s.core c.val).sb = [] → (s.core c.val).posted = [] → pciePort a.toNat = some p → s.fixedType a.toNat = some .devPosted → a.toNat % n = 0 →
    s.deviceWay (s.coreReq (s.ctx c.val) 0) a.toNat = (s, true) → s.portUp p = true →
    (∀ data : Word, s.io.evq = [] → ∃ t pf, exec (.coreDeviceRead c width sx data) s = .next t ∧ OnlyCore (s.begin c.val) t c {
      (s.begin c.val).core c.val with
      stack := (if sx then sextN (8 * n) data.toNat else BitVec.ofNat 64 (data.toNat % 2 ^ (8 * n))) :: rest, perf := pf,
      perfNext := none, entry := none, posted := [], misses := (s.core c.val).misses.filter (fun m => !m.demand),
      instrs := (s.core c.val).instrs + 1, useInstr := ((s.begin c.val).core c.val).useInstr + 1,
      pc := even ((s.core c.val).pc + 2#64) }) ∧
    (∀ e : DevReadEnd, e ≠ .poisoned → s.isF (Reg.PCIE_CFG p) Fld.PCIE_CFG_RDERR = false →
      ∃ u : State, exec (.coreDeviceReadError c width sx e) s = .next u.settle ∧
        (u.core c.val).stack = (if sx then onesW else BitVec.ofNat 64 (2 ^ (8 * n) - 1)) :: rest ∧
        (u.core c.val).pc = even ((s.core c.val).pc + 2#64)) ∧
    (∀ e : DevReadEnd, e = .poisoned ∨ s.isF (Reg.PCIE_CFG p) Fld.PCIE_CFG_RDERR = true →
      ∃ u : State, ∃ f : FaultInfo, exec (.coreDeviceReadError c width sx e) s = .next (u.takeSync c.val f false false).settle ∧
        f.cause = 0x20 ∧ f.addr = a ∧ (u.core c.val).stack = a :: rest ∧ (u.core c.val).pc = (s.core c.val).pc) ∧
    (s.isF (Reg.PCIE_CFG p) Fld.PCIE_CFG_RDERR = false → ∃ u : State, exec (.completionTimeout c width sx) s = .next u.settle ∧
      (u.core c.val).stack = (if sx then onesW else BitVec.ofNat 64 (2 ^ (8 * n) - 1)) :: rest ∧
      (u.core c.val).pc = even ((s.core c.val).pc + 2#64)) ∧
    exec (.completionTimeout c width sx) s = exec (.coreDeviceReadError c width sx .timeout) s

namespace Sys2Proof.Claims

open Sys2Proof.Machine

/-! ### Tasks and the warden (chapters 10 and 12) -/

/-- What a dispatch leaves on a core (R236): the context of the frame `f` of queue `q` with descriptor `d`. -/
def Runs (t : State) (c : CoreId) (q : Nat) (d : Desc) (f : QFrame) (stolen : Bool) : Prop :=
  (t.core c.val).run = .running ∧ (t.core c.val).pc = even (f.at 0x00) ∧ (t.core c.val).lr = f.at 0x08 ∧
  (t.core c.val).fp = f.at 0x10 ∧ (t.core c.val).lvl = BitVec.ofNat 2 d.lvl ∧ (t.core c.val).qid = BitVec.ofNat 18 ((f.at 0x38).toNat / 2 ^ 16 % 2 ^ 18) ∧
  (t.core c.val).v = (f.at 0x18).getLsbD 0 ∧ (t.core c.val).dz = (f.at 0x18).getLsbD 1 ∧ (t.core c.val).ie = (f.at 0x18).getLsbD 11 ∧
  (t.core c.val).stack.length = min 16 ((f.at 0x18).toNat / 2 ^ 16 % 32) ∧
  (t.core c.val).sync.ttag = BitVec.ofNat 64 ((f.at 0x38).toNat % 2 ^ 16) ∧
  (f.at 0x28 ≠ 0#64 → (t.core c.val).bank d.lvl = ⟨f.at 0x20 &&& 0xFFFFFFFFFFFFFFF8#64,
    f.at 0x28 &&& 0xFFFFFFFFFFFFFFF8#64, f.at 0x30 &&& 0xFFFFFFFFFFFFFFF8#64⟩) ∧
  t.rd (dspStat c.val) = BitVec.ofNat 64 (q % 2 ^ 18 + 2 ^ 18 + (if stolen then 2 ^ 20 else 0))

/-- A core without work has tried its candidates in their order, DSP_HOME as software has written it last: the first frame that it claims
is dispatched. -/
def Searches (i : CoreId → Instr) (p : Core → Prop) : Prop :=
  ∀ (c : CoreId) (s b : State), p (s.core c.val) → b = s.unlatch (Reg.DSP_HOME (c.val / 16) (c.val % 16)) →
    (s.maySeek c.val = false → exec (i c) s = .next s.settle) ∧
    (s.maySeek c.val = true → b.candidates c.val = [] →
      exec (i c) s = .next (b.modCore c.val (fun k => { k with woken := false })).settle) ∧
    (∀ q qs u d w idx f, s.maySeek c.val = true → b.candidates c.val = q :: qs → b.inRange (b.cid (c.val / 16)) q = true →
      b.readDesc (b.seqReq c.val none) (b.cid (c.val / 16)) q = (u, .ok d) → d.valid = true → d.cid = b.cid (c.val / 16) →
      d.kindDma = false → (d.ctl.getLsbD 6 = false ∨ b.isHome c.val q = true) → u.claimFor c.val q d = (w, .frame idx f) →
      (∀ p ∈ f.p, p = false) →
      ∃ t : State, exec (i c) s = .next t.settle ∧ Runs t c q d f (!b.isHome c.val q))

end Sys2Proof.Claims

open Sys2Proof Sys2Proof.Machine Sys2Proof.Claims in
/-- A parked core looks for work among its candidates, its own home queues first, and runs the first frame that it claims with the
frame's context (R236, R247); PARK_WAKE does so where something has woken the core, and nothing otherwise (R248). A cluster's work mask
reaches the compartment's other working clusters, and bits that rise there wake their parked cores (R253). -/
def Sys2Proof.Claims.DispatchLoadsTheFramesContext : Prop :=
  Searches .taskDispatch (fun _ => True) ∧ Searches .parkWake (fun k => k.woken = true) ∧
  (∀ (c : CoreId) (s : State), (s.core c.val).woken = false → exec (.parkWake c) s = .next s) ∧
  (∀ (s : State) (core : Nat), ∃ l, s.candidates core = (s.homeQ core 0).toList ++ (s.homeQ core 1).toList ++ l) ∧
  (∀ (n : ClusterId) (s : State), s.isF (Reg.CMT_CLUSTER n.val) Fld.CMT_CLUSTER_FAILED = false →
    ∃ t, exec (.workMaskBroadcast n) s = .next t ∧
      ∀ m, m ∈ s.workingClusters (s.cid n.val) → m ≠ n.val → t.peerMask m n.val = (s.cluster n.val).mask ∧
        ((s.cluster n.val).mask &&& ~~~(s.peerMask m n.val) ≠ 0#32 →
          ∀ c, c ∈ clusterCores m → (s.core c).run = .parked → (t.core c).woken = true))

open Sys2Proof Sys2Proof.Machine Sys2Proof.Claims in
/-- A preemption that is due saves the task at its boundary and the core looks for work; a save that fails leaves it running (R246,
R250). The frame of a save holds the PC, LR, FP, SR, the bank and the cached entries, bottom first (R235, R237), and the core that ends
its task is parked without one. A slot that its agent left is broken with its queue's SEQ put back (R245), and a remote push that gets
no answer ends with st = 3 (R239). -/
def Sys2Proof.Claims.PreemptionSavesTheTask : Prop :=
  (∀ (c : CoreId) (s w : State) (x : Task), s.atTaskBoundary c.val = some x → s.preemptDue c.val = true → (s.core c.val).run = .running →
    (s.saveTask c.val x false true = (w, true) → exec (.preemption c) s = .next ((w.endTask c.val).seekWork c.val).settle) ∧
    (s.saveTask c.val x false true = (w, false) → exec (.preemption c) s = .next (w.seekWork c.val).settle)) ∧
  (∀ (c : CoreId) (s : State), s.atTaskBoundary c.val = none ∨ s.preemptDue c.val = false → exec (.preemption c) s = .next s) ∧
  (∀ (s : State) (core : Nat) (x : Task) (preempted : Bool),
    let f := s.taskFrame core x false preempted
    let k := s.core core
    f.at 0x00 = k.pc ∧ f.at 0x08 = k.lr ∧ f.at 0x10 = k.fp ∧ f.at 0x18 = s.srOf core ∧ f.at 0x20 = (k.bank x.lvl.toNat).osb ∧
    f.at 0x28 = (k.bank x.lvl.toNat).osl ∧ f.at 0x30 = (k.bank x.lvl.toNat).osp ∧ (f.at 0x38).getLsbD 36 = preempted ∧
    (∀ i, i < 16 → f.at (0x40 + 8 * i) = k.stack.reverse.getD i 0#64)) ∧
  (∀ (s : State) (core : Nat), ((s.endTask core).core core).task = none ∧ ((s.endTask core).core core).run = .parked ∧
    ((s.endTask core).core core).stack = []) ∧
  (∀ (c : CoreId) (q : BitVec 18) (idx : BitVec 32) (claimer : Bool) (s u w : State) (d : Desc) (v : Nat),
    s.inRange (s.cid (c.val / 16)) q.toNat = true → s.readDesc (s.seqReq c.val none) (s.cid (c.val / 16)) q.toNat = (u, .ok d) →
    d.valid = true → d.cid = s.cid (c.val / 16) →
    ((if claimer then d.head else d.tail) + 2 * 2 ^ 32 - idx.toNat - 1) % 2 ^ 32 < d.depth →
    u.readSeq (s.seqReq c.val none) (s.cid (c.val / 16)) d idx.toNat = (w, .ok v) →
    let back := if claimer then idx.toNat + d.depth else idx.toNat
    (v ≠ (idx.toNat + 1) % 2 ^ 32 → v ≠ back % 2 ^ 32 →
      exec (.slotBreak c q idx claimer) s = .next ((w.slotBroken (s.seqReq c.val none) (some (c.val / 16)) c.val q.toNat d
        idx.toNat).writeSeq (s.seqReq c.val none) (s.cid (c.val / 16)) d idx.toNat back).1.settle) ∧
    (v = (idx.toNat + 1) % 2 ^ 32 ∨ v = back % 2 ^ 32 → exec (.slotBreak c q idx claimer) s = .next w)) ∧
  (∀ (c : CoreId) (s : State), (s.core c.val).run = .pushing → (s.core c.val).remote ≠ none →
    exec (.remotePushTimeout c) s = .next (s.modCore c.val (fun k =>
      { k with run := .running, remote := none, stack := 3#64 :: k.stack }))) ∧
  (∀ (c : CoreId) (s : State), (s.core c.val).run ≠ .pushing → exec (.remotePushTimeout c) s = .next s)

open Sys2Proof Sys2Proof.Machine Sys2Proof.Claims in
/-- A queued request is delivered to a warden core by the entry with cause 0x32, which then pushes SRC, arg and fn, fn on top (R301,
R302); the reply of that core ends it with WDN_WRES as the result and the status, any other is counted late (R303), as is the reply to a
caller that no longer waits (R304), and a request past its allowance ends with st 4 (R300). -/
def Sys2Proof.Claims.WardenRequestsAreDeliveredAndAnswered : Prop :=
  (∀ (s w : State) (r : WReq) (core : Nat), s.nextRequest = some r → s.islandState (s.getF Reg.WDN_CTL Fld.WDN_CTL_WCL) < 2 →
    s.wardenCore = some core → (s.core core).run = .running → (s.core core).lvl = 3#2 →
    (s.syncPoint core).takeExc core { f := plainFault 0x32, epc := (s.core core).pc, opAddr := (s.core core).pc } = w →
    (w.core core).run = .running → (w.core core).stack.length ≤ 13 →
    overflow ((w.core core).bank (w.ctx core).lvl) (w.core core).stack.length 0 3 = false →
    ∃ t : State, exec .wcallDelivery s = .next t.settle ∧ (t.core core).stack = r.fn :: r.arg :: r.src :: (w.core core).stack ∧
      (t.core core).pc = (w.core core).pc ∧ t.warden.lastComp = r.cid ∧
      (∀ x, x ∈ t.warden.q → x.id = r.id → x.delivered = some core)) ∧
  (∀ s : State, s.nextRequest = none → exec .wcallDelivery s = .next s) ∧
  (∀ (c : CoreId) (v : Word) (s : State) (w : Who), Performed s (.core c) w (Reg.WDN_WRPL (c.val % 16)) → w.isW = true →
    c.val / 16 = s.getF Reg.WDN_CTL Fld.WDN_CTL_WCL →
    (∀ r, s.warden.q.find? (fun r => decide (r.id.toNat = v.toNat % 2 ^ 16) && decide (r.delivered = some (c.val / 16 * 16 + c.val % 16))) =
        some r →
      ∃ t : State, exec (.wcallReply c v) s = .next t.settle ∧ t.warden.q = s.warden.q.erase r ∧
        ((s.core (r.cluster * 16 + r.core)).wcall = some r.id → (t.core (r.cluster * 16 + r.core)).wresult =
          some (s.rd (Reg.WDN_WRES (c.val % 16)), BitVec.ofNat 64 (min 2 (v.toNat / 2 ^ 16 % 256)))) ∧
        ((s.core (r.cluster * 16 + r.core)).wcall ≠ some r.id → t.getF Reg.WDN_STAT Fld.WDN_STAT_LATE =
          (s.addF Reg.WDN_STAT Fld.WDN_STAT_LATE 1).getF Reg.WDN_STAT Fld.WDN_STAT_LATE)) ∧
    ((∀ r ∈ s.warden.q, r.id.toNat ≠ v.toNat % 2 ^ 16) →
      exec (.wcallReply c v) s = .next (s.addF Reg.WDN_STAT Fld.WDN_STAT_LATE 1).settle)) ∧
  (∀ (id : BitVec 16) (s : State) (r : WReq), s.warden.q.find? (fun x => decide (x.id = id)) = some r →
    (s.getF Reg.WDN_CTL Fld.WDN_CTL_TMO_US ≠ 0 → r.tb + s.getF Reg.WDN_CTL Fld.WDN_CTL_TMO_US * 1000 ≤ s.now →
      ∃ t, exec (.wcallTimeout id) s = .next t ∧ t.warden.q = s.warden.q.erase r ∧
        ((s.core (r.cluster * 16 + r.core)).wcall = some r.id → (t.core (r.cluster * 16 + r.core)).wresult = some (0#64, 4#64))) ∧
    (s.now < r.tb + s.getF Reg.WDN_CTL Fld.WDN_CTL_TMO_US * 1000 → exec (.wcallTimeout id) s = .next s))

open Sys2Proof Sys2Proof.Machine Sys2Proof.Claims in
/-- RESTART or the first expiry of the secure watchdog starts a warden partial reset, which ends every request with st 5 and closes
OPEN; its end starts the warden again (R305 to R307). EN starts stage 1 with the count SWD_P1, at least 4,096 ticks, the key reloads it
and any other value is a denial; the count runs down with the timebase (log 166), and the second expiry resets the device (R305). -/
def Sys2Proof.Claims.WardenRestartsAndTheSecureWatchdog : Prop :=
  (∀ (a : Agent) (v : Word) (s : State) (w : Who), Performed s a w Reg.WDN_CTL →
    (v.getLsbD 8 = true → s.getF Reg.WDN_STAT Fld.WDN_STAT_STATE ≠ 2 →
      ∃ t : State, exec (.wdnRestart a v) s = .next t.settle ∧ t.warden.q = [] ∧ t.warden.restarted = true ∧
        t.getF Reg.WDN_STAT Fld.WDN_STAT_STATE = 2 ∧ t.getF Reg.WDN_STAT Fld.WDN_STAT_CAUSE = 1 ∧
        t.isF Reg.WDN_CTL Fld.WDN_CTL_OPEN = false) ∧
    (v.getLsbD 8 = false → v.getLsbD 7 = false → exec (.wdnRestart a v) s = .next (s.putFields Reg.WDN_CTL v).settle)) ∧
  (∀ s : State, s.getF Reg.WDN_STAT Fld.WDN_STAT_STATE ≠ 2 → exec .wardenReloadEnd s = .next s) ∧
  (∀ s : State, s.getF Reg.WDN_STAT Fld.WDN_STAT_STATE = 2 →
    let u : State := (s.clustersOf 63).foldl (fun s n => s.endClusterReset n) s
    let w : State := { u with io := { u.io with dmaStop := u.io.dmaStop.filter (fun n => !(u.enginesOf 63).contains n) } }
    exec .wardenReloadEnd s = .next w.loadWarden.1.settle ∧
    ((w.loadWarden.1.getF Reg.WDN_STAT Fld.WDN_STAT_STATE = 1 ∧ w.loadWarden.1.warden.down = false) ∨
      (w.wardenImage 0 = none ∧ w.wardenImage 1 = none ∧ w.loadWarden.1.warden.down = true ∧ w.loadWarden.1.warden.q = []))) ∧
  (∀ (a : Agent) (v : Word) (s : State) (w : Who), Performed s a w Reg.SWD_CTL →
    s.isF Reg.SWD_CTL Fld.SWD_CTL_EN = false → v.getLsbD 0 = true →
    ∃ t : State, exec (.swdCtlEn a v) s = .next t.settle ∧ t.isF Reg.SWD_CTL Fld.SWD_CTL_EN = true ∧
      t.getF Reg.SWD_STAT Fld.SWD_STAT_STAGE = 1 ∧
      t.getF Reg.SWD_STAT Fld.SWD_STAT_COUNT = max 4096 ((s.rd Reg.SWD_P1).toNat % 2 ^ 24)) ∧
  (∀ (a : Agent) (v : Word) (s : State) (w : Who), Performed s a w Reg.SWD_KICK →
    (v.toNat % 2 ^ 16 ≠ 0x5EC1 → exec (.swdKick a v) s = .next (s.denyAt Reg.SWD_KICK).settle) ∧
    (v.toNat % 2 ^ 16 = 0x5EC1 → s.getF Reg.SWD_STAT Fld.SWD_STAT_STAGE ≠ 0 →
      ∃ t : State, exec (.swdKick a v) s = .next t.settle ∧ t.getF Reg.SWD_STAT Fld.SWD_STAT_STAGE = 1 ∧
        t.getF Reg.SWD_STAT Fld.SWD_STAT_COUNT = max 4096 ((s.rd Reg.SWD_P1).toNat % 2 ^ 24)) ∧
    (v.toNat % 2 ^ 16 = 0x5EC1 → s.getF Reg.SWD_STAT Fld.SWD_STAT_STAGE = 0 → exec (.swdKick a v) s = .next s.settle)) ∧
  (∀ s : State, s.getF Reg.SWD_STAT Fld.SWD_STAT_STAGE = 1 → s.swdLeft = 0 → s.getF Reg.WDN_STAT Fld.WDN_STAT_STATE ≠ 2 →
    ∃ t : State, exec .swdStage1Expiry s = .next t.settle ∧ t.warden.q = [] ∧ t.getF Reg.WDN_STAT Fld.WDN_STAT_STATE = 2 ∧
      t.getF Reg.WDN_STAT Fld.WDN_STAT_CAUSE = 0 ∧ t.getF Reg.SWD_STAT Fld.SWD_STAT_STAGE = 2) ∧
  (∀ s : State, (s.getF Reg.SWD_STAT Fld.SWD_STAT_STAGE = 1 → s.swdLeft = 0 → s.getF Reg.WDN_STAT Fld.WDN_STAT_STATE = 2 →
      exec .swdStage1Expiry s = .next (((s.deviceReset 2).setF Reg.SWD_STAT Fld.SWD_STAT_DEVRST 1).setFail 10)) ∧
    (s.getF Reg.SWD_STAT Fld.SWD_STAT_STAGE = 2 → s.swdLeft = 0 →
      exec .swdStage2Expiry s = .next (((s.deviceReset 2).setF Reg.SWD_STAT Fld.SWD_STAT_DEVRST 1).setFail 10)) ∧
    (s.getF Reg.SWD_STAT Fld.SWD_STAT_STAGE ≠ 1 ∨ s.swdLeft ≠ 0 → exec .swdStage1Expiry s = .next s) ∧
    (s.getF Reg.SWD_STAT Fld.SWD_STAT_STAGE ≠ 2 ∨ s.swdLeft ≠ 0 → exec .swdStage2Expiry s = .next s) ∧
    (s.swdLeft = s.getF Reg.SWD_STAT Fld.SWD_STAT_COUNT - (s.tb.toNat - s.warden.swdTb) * 32768 / 1000000000))

/-! ### Compartments, beat wheels, arbiters (chapter 11), and the L3's bands and ways (chapter 9) -/

open Sys2Proof Sys2Proof.Machine Sys2Proof.Claims in
/-- Clearing EN starts a cluster's drain, which ends DRAINED or, at its timeout, busy with EN set again; a drained cluster is given a
new CID with EN = 1 (R264). A drain of a cluster that a test or a patch has ends busy at once (R18). A write that the rule of R263 does not allow, or a new CID for a cluster that is not drained, is a denial.
A band changes hands only while CLEAN reads 1 (R265). -/
def Obligations.ClustersAndBandsChangeHands : Prop :=
  (∀ (s : State) (w : Who) (old v : Word), s.tableWrite w old v = true ↔
    s.platHOrW w = true ∧ ((v.toNat % 64 ≠ 63 ∧ old.toNat % 64 ≠ 63) ∨ w.wOrBoot = true)) ∧
  (∀ (a : Agent) (n : ClusterId) (v : Word) (s : State) (w : Who), Performed s a w (Reg.CMT_CLUSTER n.val) →
    (s.tableWrite w (s.rd (Reg.CMT_CLUSTER n.val)) v = false →
      exec (.cmtClusterDrain a n v) s = .next (s.denyAt (Reg.CMT_CLUSTER n.val)).settle) ∧
    (s.tableWrite w (s.rd (Reg.CMT_CLUSTER n.val)) v = true → s.getF (Reg.CMT_CLUSTER n.val) Fld.CMT_CLUSTER_RESULT ≠ 1 →
      (s.isF (Reg.CMT_CLUSTER n.val) Fld.CMT_CLUSTER_EN = true → v.getLsbD 6 = false →
        v.toNat % 64 = s.cid n.val → (s.cluster n.val).drain = none → ∃ t : State, exec (.cmtClusterDrain a n v) s = .next t.settle ∧
          t.isF (Reg.CMT_CLUSTER n.val) Fld.CMT_CLUSTER_EN = false ∧ t.isF (Reg.CMT_CLUSTER n.val) Fld.CMT_CLUSTER_DRAINED = false ∧
          t.getF (Reg.CMT_CLUSTER n.val) Fld.CMT_CLUSTER_RESULT = 1 ∧ (t.cluster n.val).drain = some .cmt ∧ t.cid n.val = s.cid n.val) ∧
      (s.isF (Reg.CMT_CLUSTER n.val) Fld.CMT_CLUSTER_EN = true → v.getLsbD 6 = false →
        v.toNat % 64 = s.cid n.val → (s.cluster n.val).drain ≠ none → ∃ t : State, exec (.cmtClusterDrain a n v) s = .next t.settle ∧
          t.isF (Reg.CMT_CLUSTER n.val) Fld.CMT_CLUSTER_EN = true ∧ t.getF (Reg.CMT_CLUSTER n.val) Fld.CMT_CLUSTER_RESULT = 3 ∧
          t.clusters = s.clusters ∧ t.cores = s.cores) ∧
      (v.toNat % 64 ≠ s.cid n.val → s.isF (Reg.CMT_CLUSTER n.val) Fld.CMT_CLUSTER_EN = true ∨
          s.isF (Reg.CMT_CLUSTER n.val) Fld.CMT_CLUSTER_DRAINED = false →
        exec (.cmtClusterAssign a n v) s = .next (s.denyAt (Reg.CMT_CLUSTER n.val)).settle) ∧
      (s.isF (Reg.CMT_CLUSTER n.val) Fld.CMT_CLUSTER_EN = false → s.isF (Reg.CMT_CLUSTER n.val) Fld.CMT_CLUSTER_DRAINED = true →
        s.isF (Reg.CMT_CLUSTER n.val) Fld.CMT_CLUSTER_FAILED = false → v.getLsbD 6 = true →
        ∃ t : State, exec (.cmtClusterAssign a n v) s = .next t.settle ∧ t.isF (Reg.CMT_CLUSTER n.val) Fld.CMT_CLUSTER_EN = true ∧
          t.isF (Reg.CMT_CLUSTER n.val) Fld.CMT_CLUSTER_DRAINED = false ∧ t.cid n.val = v.toNat % 64 ∧
          (t.cluster n.val).ranAs = v.toNat % 64 ∧
          ((s.cluster n.val).ranAs ≠ v.toNat % 64 → ∀ c, c ∈ clusterCores n.val → (s.core c).retired = false →
            (t.core c).task = none ∧ ((s.core c).run ≠ .halted → (t.core c).run = .parked))))) ∧
  (∀ (n : ClusterId) (s : State), (s.cluster n.val).drain = some .cmt →
    (∃ t, exec (.clusterDrainEnd n true) s = .next t ∧ t.isF (Reg.CMT_CLUSTER n.val) Fld.CMT_CLUSTER_EN = true ∧
      t.getF (Reg.CMT_CLUSTER n.val) Fld.CMT_CLUSTER_RESULT = 3 ∧ (t.cluster n.val).drain = none) ∧
    ((∀ c, c ∈ clusterCores n.val → (s.core c).task = none ∧ (s.core c).run ≠ .wcalling ∧ (s.core c).run ≠ .pushing) →
      ∃ t : State, exec (.clusterDrainEnd n false) s = .next t.settle ∧ t.isF (Reg.CMT_CLUSTER n.val) Fld.CMT_CLUSTER_DRAINED = true ∧
        t.getF (Reg.CMT_CLUSTER n.val) Fld.CMT_CLUSTER_RESULT = 2 ∧ (t.cluster n.val).drain = none)) ∧
  (∀ (n : ClusterId) (b : Bool) (s : State), (s.cluster n.val).drain ≠ some .cmt → exec (.clusterDrainEnd n b) s = .next s) ∧
  (∀ (a : Agent) (k : Fin 64) (v : Word) (s : State) (w : Who), Performed s a w (Reg.CMT_BAND k.val) →
    s.tableWrite w (s.rd (Reg.CMT_BAND k.val)) v = true → v.toNat % 128 ≠ (s.rd (Reg.CMT_BAND k.val)).toNat % 128 →
    (s.isF (Reg.CMT_BAND k.val) Fld.CMT_BAND_CLEAN = true → ∃ t : State, exec (.cmtBandWrite a k v) s = .next t.settle ∧
      t.getF (Reg.CMT_BAND k.val) Fld.CMT_BAND_CID = v.toNat % 64 ∧ t.isF (Reg.CMT_BAND k.val) Fld.CMT_BAND_EN = v.getLsbD 6) ∧
    (s.isF (Reg.CMT_BAND k.val) Fld.CMT_BAND_CLEAN = false →
      exec (.cmtBandWrite a k v) s = .next (s.denyAt (Reg.CMT_BAND k.val)).settle))

open Sys2Proof Sys2Proof.Machine Sys2Proof.Claims in
/-- A change of a color's owner sweeps the color where it had one and leave is granted: BUSY until the sweep's end, when no line of the
color is left in the caches and the new owner takes effect (R266). A new steering entry over a band that its compartment owns takes effect
set by set, in ascending order, with STEER_BUSY until the re-steer has taken the last set of the old band (R270, R271). -/
def Sys2Proof.Claims.ColorsAndSteeringChangeInPlace : Prop :=
  (∀ (a : Agent) (k : Fin 64) (v : Word) (s : State) (w : Who), Performed s a w (Reg.CMT_COLOR k.val) →
    s.tableWrite w (s.rd (Reg.CMT_COLOR k.val)) v = true → v.toNat % 128 ≠ (s.rd (Reg.CMT_COLOR k.val)).toNat % 128 →
    s.isF (Reg.CMT_COLOR k.val) Fld.CMT_COLOR_BUSY = false →
    (s.isF (Reg.CMT_COLOR k.val) Fld.CMT_COLOR_EN = false → ∃ t : State, exec (.colorSweep a k v) s = .next t.settle ∧
      t.getF (Reg.CMT_COLOR k.val) Fld.CMT_COLOR_CID = v.toNat % 64 ∧ t.isF (Reg.CMT_COLOR k.val) Fld.CMT_COLOR_EN = v.getLsbD 6 ∧
      t.getF (Reg.CMT_COLOR k.val) Fld.CMT_COLOR_RESULT = 2) ∧
    (∀ u, s.isF (Reg.CMT_COLOR k.val) Fld.CMT_COLOR_EN = true →
      (s.askLeave (.colorSweep (BitVec.ofNat 6 ((s.rd (Reg.CMT_COLOR k.val)).toNat % 64)).toFin) = (u, true) →
        ∃ t : State, exec (.colorSweep a k v) s = .next t.settle ∧ t.isF (Reg.CMT_COLOR k.val) Fld.CMT_COLOR_BUSY = true ∧
          t.getF (Reg.CMT_COLOR k.val) Fld.CMT_COLOR_RESULT = 1 ∧ t.comp.sweeps = s.comp.sweeps ++ [(k.val, v)]) ∧
      (s.askLeave (.colorSweep (BitVec.ofNat 6 ((s.rd (Reg.CMT_COLOR k.val)).toNat % 64)).toFin) = (u, false) →
        exec (.colorSweep a k v) s = .next (u.setF (Reg.CMT_COLOR k.val) Fld.CMT_COLOR_RESULT 4).settle))) ∧
  (∀ (k : Fin 64) (v : Word) (s : State), s.comp.sweeps.find? (fun e => decide (e.1 = k.val)) = some (k.val, v) →
    ∃ t : State, exec (.colorSweepEnd k) s = .next t.settle ∧ t.getF (Reg.CMT_COLOR k.val) Fld.CMT_COLOR_CID = v.toNat % 64 ∧
      t.isF (Reg.CMT_COLOR k.val) Fld.CMT_COLOR_EN = v.getLsbD 6 ∧ t.isF (Reg.CMT_COLOR k.val) Fld.CMT_COLOR_BUSY = false ∧
      t.getF (Reg.CMT_COLOR k.val) Fld.CMT_COLOR_RESULT = 2 ∧ (∀ e ∈ t.lines, colorOf (e.1 * 64) ≠ k.val) ∧
      t.comp.sweeps = s.comp.sweeps.erase (k.val, v)) ∧
  (∀ (k : Fin 64) (s : State), (∀ e ∈ s.comp.sweeps, e.1 ≠ k.val) → exec (.colorSweepEnd k) s = .next s) ∧
  (∀ (a : Agent) (c : CompId) (j : Fin 64) (v : Word) (s : State) (w : Who), Performed s a w (Reg.CMP_STEER c.val j.val) →
    s.isF (Reg.CMP_STAT c.val) Fld.CMP_STAT_STEER_BUSY = false →
    (s.ownsBand c.val (v.toNat % 64) = true → s.getF (Reg.CMP_STEER c.val j.val) Fld.CMP_STEER_BAND ≠ v.toNat % 64 →
      ∃ t : State, exec (.cmpSteerWrite a c j v) s = .next t.settle ∧
        t.getF (Reg.CMP_STEER c.val j.val) Fld.CMP_STEER_BAND = v.toNat % 64 ∧
        t.isF (Reg.CMP_STEER c.val j.val) Fld.CMP_STEER_VOID = false ∧ t.isF (Reg.CMP_STAT c.val) Fld.CMP_STAT_STEER_BUSY = true ∧
        t.comp.resteer = s.comp.resteer ++ [(c.val * 64 + j.val, s.getF (Reg.CMP_STEER c.val j.val) Fld.CMP_STEER_BAND, 0)]) ∧
    (s.ownsBand c.val (v.toNat % 64) = false →
      exec (.cmpSteerWrite a c j v) s = .next (s.denyAt (Reg.CMP_STEER c.val j.val)).settle)) ∧
  (∀ (c : CompId) (j : Fin 64) (s : State), (∀ e ∈ s.comp.resteer, e.1 ≠ c.val * 64 + j.val) → exec (.resteerEnd c j) s = .next s) ∧
  (∀ (c : CompId) (j : Fin 64) (b done : Nat) (s : State),
    s.comp.resteer.find? (fun e => decide (e.1 = c.val * 64 + j.val)) = some (c.val * 64 + j.val, b, done) →
    (∀ w, s.steerBand c.val j.val w = if w < done then s.getF (Reg.CMP_STEER c.val j.val) Fld.CMP_STEER_BAND else b) ∧
    ∃ t : State, exec (.resteerEnd c j) s = .next t.settle ∧ t.comp.resteer = s.comp.resteer.erase (c.val * 64 + j.val, b, done) ∧
      (∀ e ∈ t.lines, ¬ (e.2.band = b ∧ steerIdx (e.1 * 64) = j.val ∧ s.placeComp (e.1 * 64) = some c.val)) ∧
      t.isF (Reg.CMP_STAT c.val) Fld.CMP_STAT_STEER_BUSY = t.comp.resteer.any (fun e => decide (e.1 / 64 = c.val)))

open Sys2Proof Sys2Proof.Machine Sys2Proof.Claims in
/-- A write of a beat map is staged, and takes effect with all others when the wheel reaches slot 0 (R276). A slot goes to its owner
where that has a request ready, else, where it is lent, to the next borrower whose use ends within the slot, and the wheel moves on (R273,
R278, R279). LENDOK and
BORROW change at once (R280), and a deterministic slot is reserved only where it qualifies (R277). -/
def Sys2Proof.Claims.BeatWheelsGrantTheirSlots : Prop :=
  (∀ (a : Agent) (x : Fin 142) (i : Fin 64) (v : Word) (s : State) (w : Who), Performed s a w (Reg.BEAT_MAP (wheelPage x.val) i.val) →
    (s.tableWrite w (s.rd (Reg.BEAT_MAP (wheelPage x.val) i.val)) v = true → v.toNat % 64 ≠ 63 ∨ v.getLsbD 7 = false →
      ∃ t : State, exec (.beatMapWrite a x i v) s = .next t.settle ∧ t.isF (Reg.BW_STAT (wheelPage x.val)) Fld.BW_STAT_PENDING = true ∧
        (t.rd (Reg.BEAT_MAP (wheelPage x.val) i.val)).toNat % 256 = v.toNat % 256 ∧ t.comp.maps = s.comp.maps) ∧
    (v.toNat % 64 = 63 → v.getLsbD 7 = true →
      exec (.beatMapWrite a x i v) s = .next (s.denyAt (Reg.BEAT_MAP (wheelPage x.val) i.val)).settle)) ∧
  (∀ (x : Fin 142) (s : State), s.isF (Reg.BW_STAT (wheelPage x.val)) Fld.BW_STAT_PENDING = true →
    ∃ t : State, exec (.beatMapApply x) s = .next t.settle ∧
      (∀ i, i < 64 → t.slotNow x.val i = s.rd (Reg.BEAT_MAP (wheelPage x.val) i)) ∧
      t.isF (Reg.BW_STAT (wheelPage x.val)) Fld.BW_STAT_PENDING = false ∧ t.getF (Reg.BW_STAT (wheelPage x.val)) Fld.BW_STAT_POS = 0) ∧
  (∀ (x : Fin 142) (s : State) (ready fits : List Nat),
    let e := s.slotNow x.val (s.getF (Reg.BW_STAT (wheelPage x.val)) Fld.BW_STAT_POS)
    (e.getLsbD 6 = false → s.slotGrant x.val ready fits = none) ∧
    (e.getLsbD 6 = true → e.toNat % 64 ∈ ready → s.slotGrant x.val ready fits = some (e.toNat % 64, false)) ∧
    (e.getLsbD 6 = true → e.toNat % 64 ∉ ready → e.getLsbD 7 = false ∨ s.isF (Reg.CMP_CTL (e.toNat % 64)) Fld.CMP_CTL_LENDOK = false →
      s.slotGrant x.val ready fits = none) ∧
    (∀ b, s.slotGrant x.val ready fits = some (b, true) → b ∈ ready ∧ b ∈ fits ∧ s.isF (Reg.CMP_CTL b) Fld.CMP_CTL_BORROW = true ∧
      e.getLsbD 7 = true ∧ e.toNat % 64 ∉ ready)) ∧
  (∀ (x : Fin 142) (ready fits : List CompId) (s : State), ∃ t : State, exec (.slotGrant x ⟨ready, fits⟩) s = .next t.settle ∧
    t.getF (Reg.BW_STAT (wheelPage x.val)) Fld.BW_STAT_POS = (s.getF (Reg.BW_STAT (wheelPage x.val)) Fld.BW_STAT_POS + 1) % 64 ∧
    (∀ b, s.slotGrant x.val (ready.map Fin.val) (fits.map Fin.val) = some (b, true) → smGet (fun _ => 63) t.comp.lastBorrow x.val = b ∧
      t.getF (Reg.BW_STAT (wheelPage x.val)) Fld.BW_STAT_BORROWED =
        min (2 ^ 48 - 1) (s.getF (Reg.BW_STAT (wheelPage x.val)) Fld.BW_STAT_BORROWED + 1))) ∧
  (∀ (a : Agent) (c : CompId) (v : Word) (s : State) (w : Who),
    (Performed s a w (Reg.CMP_CTL c.val) → ∃ t : State, exec (.cmpCtlWrite a c v) s = .next t.settle ∧
      t.isF (Reg.CMP_CTL c.val) Fld.CMP_CTL_LENDOK = v.getLsbD 0 ∧ t.isF (Reg.CMP_CTL c.val) Fld.CMP_CTL_BORROW = v.getLsbD 1) ∧
    (Performed s a w (Reg.CMP_DTM c.val) →
      (v.getLsbD 6 = false ∨ s.dtmQualifies c.val (v.toNat % 64) = true →
        exec (.cmpDtmWrite a c v) s = .next (s.putFields (Reg.CMP_DTM c.val) v).settle) ∧
      (v.getLsbD 6 = true → s.dtmQualifies c.val (v.toNat % 64) = false →
        exec (.cmpDtmWrite a c v) s = .next ((s.setF (Reg.CMP_DTM c.val) Fld.CMP_DTM_EN 0).denyAt (Reg.CMP_DTM c.val)).settle)))

open Sys2Proof Sys2Proof.Machine Sys2Proof.Claims in
/-- EN starts the first generation of a compartment's barrier with its working clusters; a store to BAR_ARRIVE counts an arrival of its
cluster, and where every cluster that takes part then has PER_CLUSTER arrivals, BAR_GEN rises by 1 (R281). -/
def Sys2Proof.Claims.BarrierReleasesWhenAllHaveArrived : Prop :=
  (∀ (a : Agent) (c : CompId) (v : Word) (s : State) (w : Who), Performed s a w (Reg.CMP_BAR_CTL c.val) →
    (v.getLsbD 5 = true → (s.bar c.val).running = false → ∃ t : State, exec (.cmpBarCtlWrite a c v) s = .next t.settle ∧
      t.bar c.val = { parts := s.barParts c.val, counts := [], per := max 1 (min 16 (v.toNat % 32)), running := true }) ∧
    (v.getLsbD 5 = false → ∃ t : State, exec (.cmpBarCtlWrite a c v) s = .next t.settle ∧ t.bar c.val = {})) ∧
  (∀ (k : CoreId) (c : CompId) (s : State) (w : Who), Performed s (.core k) w (Reg.BAR_ARRIVE c.val) →
    let b := s.bar c.val
    let n : Nat → Nat := fun m => b.count m + (if m = k.val / 16 then 1 else 0)
    (b.running = false → exec (.barArrive k c) s = .next s.settle) ∧
    (b.running = true → (∃ m ∈ b.parts, n m < b.per) → ∃ t : State, exec (.barArrive k c) s = .next t.settle ∧
      (∀ m, (t.bar c.val).count m = n m) ∧ t.getF (Reg.BAR_GEN c.val) Fld.BAR_GEN_GEN = s.getF (Reg.BAR_GEN c.val) Fld.BAR_GEN_GEN) ∧
    (b.running = true → b.parts ≠ [] → b.parts.Nodup → s.barParts c.val = b.parts → s.barPer c.val = b.per →
      (∀ m ∈ b.parts, b.per ≤ n m) → (∃ m ∈ b.parts, n m < 2 * b.per) → ∃ t : State, exec (.barArrive k c) s = .next t.settle ∧
      (∀ m ∈ b.parts, (t.bar c.val).count m = n m - b.per) ∧
      t.getF (Reg.BAR_GEN c.val) Fld.BAR_GEN_GEN = (s.getF (Reg.BAR_GEN c.val) Fld.BAR_GEN_GEN + 1) % 2 ^ 32))

open Sys2Proof Sys2Proof.Machine Sys2Proof.Claims in
/-- At a grant opportunity of an arbiter that holds and parks no grant, the requester of the highest priority is granted, among equals
the next in turn (R284); a grant held longer than HOLD_MAX is cut off and its requester penalised for PENALTY opportunities, which pass
with the decisions of an arbiter that is not frozen (R286); a frozen arbiter makes no new grant (R290); new priorities stand from the next decision on (R289). -/
def Sys2Proof.Claims.ArbitersGrantByPriorityAndTurn : Prop :=
  (∀ (b : ArbId) (ask : BitVec 32) (s : State) (r : Nat), (s.arb (arbPage b)).held = false → (s.arb (arbPage b)).parked = false →
    s.arbFrozen (arbPage b) = false →
    r ∈ arbAsk (arbPage b) ask → (s.arb (arbPage b)).penalised r = false →
    (∀ q, q ∈ arbAsk (arbPage b) ask → q ≠ r → (s.arb (arbPage b)).penalised q = false →
      s.arbPrio (arbPage b) q < s.arbPrio (arbPage b) r ∨ (s.arbPrio (arbPage b) q = s.arbPrio (arbPage b) r ∧
        (s.arb (arbPage b)).turn (arbCount (arbPage b)) (s.arbPrio (arbPage b) r) r <
          (s.arb (arbPage b)).turn (arbCount (arbPage b)) (s.arbPrio (arbPage b) r) q)) →
    ∃ t, exec (.arbiterDecision b ask) s = .next t ∧ (t.arb (arbPage b)).owner = r ∧ (t.arb (arbPage b)).held = true ∧
      (t.arb (arbPage b)).hold = 0) ∧
  (∀ (b : ArbId) (ask : BitVec 32) (s : State), (s.arb (arbPage b)).held = true → (s.arb (arbPage b)).owner ∈ arbAsk (arbPage b) ask →
    ∃ t, exec (.arbiterDecision b ask) s = .next t ∧ (t.arb (arbPage b)).owner = (s.arb (arbPage b)).owner ∧
      (t.arb (arbPage b)).held = true) ∧
  (∀ (b : ArbId) (ask : BitVec 32) (s : State), (s.arb (arbPage b)).held = false → s.arbFrozen (arbPage b) = true →
    ∃ t, exec (.arbiterDecision b ask) s = .next t ∧ (t.arb (arbPage b)).held = false) ∧
  (∀ (b : ArbId) (ask : BitVec 32) (s : State), (s.arb (arbPage b)).owner < arbCount (arbPage b) →
    let m := s.getF (Reg.ARB_CTL (arbPage b)) Fld.ARB_CTL_HOLD_MAX
    let p := s.getF (Reg.ARB_CTL (arbPage b)) Fld.ARB_CTL_PENALTY
    ((s.arb (arbPage b)).held = true → m ≠ 0 → m < (s.arb (arbPage b)).hold → p ≠ 0 →
      ∃ t, exec (.hogCutoff b ask) s = .next t ∧ (t.rd (Reg.ARB_HOG (arbPage b))).getLsbD (s.arb (arbPage b)).owner = true ∧
        t.getF (Reg.ARB_HOG (arbPage b)) Fld.ARB_HOG_LAST = (s.arb (arbPage b)).owner ∧
        (t.arb (arbPage b)).penal = ((s.arb (arbPage b)).penal ++ [((s.arb (arbPage b)).owner, p)]).map
          (fun e => (e.1, if s.arbFrozen (arbPage b) = true then e.2 else e.2 - 1))) ∧
    ((s.arb (arbPage b)).held = false ∨ m = 0 ∨ (s.arb (arbPage b)).hold ≤ m → exec (.hogCutoff b ask) s = .next s)) ∧
  (∀ (b : ArbId) (ask : BitVec 32) (s : State), s.arbFrozen (arbPage b) = false →
    ∃ t, exec (.arbiterDecision b ask) s = .next t ∧
      (t.arb (arbPage b)).penal = (s.arb (arbPage b)).penal.map (fun e => (e.1, e.2 - 1))) ∧
  (∀ (b : ArbId) (r : Fin 32) (s : State),
    (s.arbFrozen (arbPage b) = false → ∃ t, exec (.penaltyEnd b r) s = .next t ∧ (r.val, 0) ∉ (t.arb (arbPage b)).penal ∧
      ∀ q, (t.arb (arbPage b)).penalised q = (s.arb (arbPage b)).penalised q) ∧
    (s.arbFrozen (arbPage b) = true → exec (.penaltyEnd b r) s = .next s)) ∧
  (∀ (a : Agent) (b : ArbId) (hi : Bool) (v : Word) (s : State) (w : Who), Performed s a w (Reg.ARB_PRIO (arbPage b) (if hi then 1 else 0)) →
    ∃ t : State, exec (.arbPrioWrite a b hi v) s = .next t.settle ∧ ∀ r, r < arbCount (arbPage b) →
      t.arbPrio (arbPage b) r = if r / 16 = (if hi then 1 else 0) then v.toNat / 2 ^ (4 * (r % 16)) % 16 else s.arbPrio (arbPage b) r) ∧
  (∀ (a : Agent) (b : ArbId) (v : Word) (s : State) (w : Who), Performed s a w (Reg.BLK_FREEZE (arbPage b)) →
    ∃ t : State, exec (.blkFreezeWrite a b v) s = .next t.settle ∧
      t.isF (Reg.BLK_FREEZE (arbPage b)) Fld.BLK_FREEZE_FREEZE = v.getLsbD 0 ∧ (v.getLsbD 0 = true → (t.arb (arbPage b)).parked = false))

open Sys2Proof Sys2Proof.Machine Sys2Proof.Claims in
/-- GO starts the bring-in of a slice's spare way for the named way, and each set is taken in ascending order, its lines leaving the way,
until after the last the spare serves (R222, R223); where it serves already or has failed, the way is disabled, and a way that the spare
serves stands for the spare itself (R224). GO of a band flush asks leave and at its end no line of the band is left and the
result is done, or the timeout (R225). MAX of the prefetcher lowers CUR at once (R228). -/
def Sys2Proof.Claims.SpareWaysBandFlushesAndPrefetchDegree : Prop :=
  (∀ (a : Agent) (sl : Fin 64) (v : Word) (s : State) (w : Who), Performed s a w (Reg.L3S_SPARE_CTL sl.val) →
    smGet (fun _ => []) s.comp.spare sl.val = [] → s.getF (Reg.L3S_SPARE_STAT sl.val) Fld.L3S_SPARE_STAT_STATE ≠ 1 → v.getLsbD 4 = true →
    ∃ t : State, exec (.l3sSpareGo a sl v) s = .next t.settle ∧ smGet (fun _ => []) t.comp.spare sl.val =
        [if s.isF (Reg.L3S_WAYS sl.val) Fld.L3S_WAYS_SPARE_IN = true ∧ s.getF (Reg.L3S_WAYS sl.val) Fld.L3S_WAYS_SPARE_FOR = v.toNat % 16
          then 16 else v.toNat % 16] ∧
      t.getF (Reg.L3S_SPARE_STAT sl.val) Fld.L3S_SPARE_STAT_STATE = 1 ∧
      t.getF (Reg.L3S_SPARE_STAT sl.val) Fld.L3S_SPARE_STAT_SETS_DONE = 0) ∧
  (∀ (sl : Fin 64) (s : State) (n : Nat) (rest : List Nat), smGet (fun _ => []) s.comp.spare sl.val = n :: rest →
    let set := s.getF (Reg.L3S_SPARE_STAT sl.val) Fld.L3S_SPARE_STAT_SETS_DONE
    (set < 2047 → ∃ t : State, exec (.spareWaySet sl) s = .next t.settle ∧
      t.getF (Reg.L3S_SPARE_STAT sl.val) Fld.L3S_SPARE_STAT_SETS_DONE = set + 1 ∧
      ∀ e ∈ t.lines, ¬ (sliceOf (e.1 * 64) = sl.val ∧ e.2.way = n ∧ e.2.band * 32 + setInBand (e.1 * 64) = set)) ∧
    (set = 2047 → rest = [] → n < 16 → s.isF (Reg.L3S_WAYS sl.val) Fld.L3S_WAYS_SPARE_IN = false →
      (s.rd (Reg.L3S_WAYS sl.val)).getLsbD 16 = false → ∃ t : State, exec (.spareWaySet sl) s = .next t.settle ∧
      t.isF (Reg.L3S_WAYS sl.val) Fld.L3S_WAYS_SPARE_IN = true ∧ t.getF (Reg.L3S_WAYS sl.val) Fld.L3S_WAYS_SPARE_FOR = n ∧
      (t.rd (Reg.L3S_WAYS sl.val)).getLsbD n = true ∧ t.getF (Reg.L3S_SPARE_STAT sl.val) Fld.L3S_SPARE_STAT_STATE = 2 ∧
      smGet (fun _ => []) t.comp.spare sl.val = []) ∧
    (set = 2047 → rest = [] → n ≤ 16 → n = 16 ∨ s.isF (Reg.L3S_WAYS sl.val) Fld.L3S_WAYS_SPARE_IN = true ∨
      (s.rd (Reg.L3S_WAYS sl.val)).getLsbD 16 = true → ∃ t : State, exec (.spareWaySet sl) s = .next t.settle ∧
      (t.rd (Reg.L3S_WAYS sl.val)).getLsbD n = true ∧ t.getF (Reg.L3S_SPARE_STAT sl.val) Fld.L3S_SPARE_STAT_STATE = 3 ∧
      (n = 16 → t.isF (Reg.L3S_WAYS sl.val) Fld.L3S_WAYS_SPARE_IN = false) ∧ smGet (fun _ => []) t.comp.spare sl.val = [])) ∧
  (∀ (sl : Fin 64) (s : State), smGet (fun _ => []) s.comp.spare sl.val = [] → exec (.spareWaySet sl) s = .next s) ∧
  (∀ (a : Agent) (v : Word) (s : State) (w : Who), Performed s a w Reg.L3BM_FLUSH → v.getLsbD 6 = true →
    s.getF Reg.L3BM_FLUSH_STAT Fld.L3BM_FLUSH_STAT_RESULT ≠ 1 →
    let own := s.isF (Reg.CMT_BAND (v.toNat % 64)) Fld.CMT_BAND_EN
    let c := s.getF (Reg.CMT_BAND (v.toNat % 64)) Fld.CMT_BAND_CID
    (w.wOrBoot = false → own = false ∨ w.isH c = false → ∃ t : State, exec (.l3bmFlushGo a v) s = .next t.settle ∧
      t.getF Reg.L3BM_FLUSH_STAT Fld.L3BM_FLUSH_STAT_RESULT = 5 ∧ t.comp = s.comp) ∧
    (own = false → w.wOrBoot = true → ∃ t : State, exec (.l3bmFlushGo a v) s = .next t.settle ∧
      t.getF Reg.L3BM_FLUSH_STAT Fld.L3BM_FLUSH_STAT_RESULT = 2 ∧ t.comp = s.comp) ∧
    (own = true → w.wOrBoot = true ∨ w.isH c = true → ∃ t : State, exec (.l3bmFlushGo a v) s = .next t.settle ∧
      ((s.askLeave (.bandFlush (BitVec.ofNat 6 c).toFin)).2 = true → t.getF Reg.L3BM_FLUSH_STAT Fld.L3BM_FLUSH_STAT_RESULT = 1 ∧
        t.comp.bandFlush = some (v.toNat % 64, 0)) ∧
      ((s.askLeave (.bandFlush (BitVec.ofNat 6 c).toFin)).2 = false → t.getF Reg.L3BM_FLUSH_STAT Fld.L3BM_FLUSH_STAT_RESULT = 4))) ∧
  (∀ (s : State) (b : Nat), s.comp.bandFlush = some (b, 0) →
    (∃ t : State, exec (.bandFlushEnd none) s = .next t.settle ∧ t.getF Reg.L3BM_FLUSH_STAT Fld.L3BM_FLUSH_STAT_RESULT = 2 ∧
      t.comp.bandFlush = none ∧ ∀ e ∈ t.lines, e.2.band ≠ b) ∧
    (∀ n, ∃ t : State, exec (.bandFlushEnd (some n)) s = .next t.settle ∧ t.getF Reg.L3BM_FLUSH_STAT Fld.L3BM_FLUSH_STAT_RESULT = 3 ∧
      t.comp.bandFlush = none)) ∧
  (∀ (a : Agent) (n : ClusterId) (v : Word) (s : State) (w : Who), Performed s a w (Reg.L2C_PF n.val) →
    ∃ t : State, exec (.l2cPfWrite a n v) s = .next t.settle ∧ t.getF (Reg.L2C_PF n.val) Fld.L2C_PF_MAX = v.toNat % 4 ∧
      t.getF (Reg.L2C_PF n.val) Fld.L2C_PF_CUR = min (s.getF (Reg.L2C_PF n.val) Fld.L2C_PF_CUR) (v.toNat % 4))

/-! ### Writes of registers (chapters 12, 15, 19, 21) -/

open Sys2Proof Sys2Proof.Machine Sys2Proof.Claims in
/-- The order of the checks on an atlas access (R493, R495, R499): an undefined page, an access narrower than 32 bits, a refused
requester, an asleep block, a reserved offset, and only then the register. A performed 64-bit write of a register without a rule of its
own writes its RW fields, and a 32-bit write changes only its half (R496); a write that does not pass is dropped. -/
def Obligations.RegisterAccessesPassTheirChecksInOrder : Prop :=
  (∀ (s : State) (w : Who) (pa size : Nat) (wr : Bool),
    let key := pa - 0xFF00000000000 - (pa - 0xFF00000000000) % 8
    let page := key / 4096
    (Blk.ofPage page = none → s.gate w pa size wr = (s.strayBy 2 wr pa w, .error)) ∧
    (∀ b i, Blk.ofPage page = some (b, i) →
      (size < 4 → s.blockAsleep page = true → s.gate w pa size wr = (s.strayBy 3 wr pa w, .error)) ∧
      (size < 4 → s.blockAsleep page = false → s.gate w pa size wr = ((s.strayBy 3 wr pa w).logDeny page pa, .error)) ∧
      (4 ≤ size → s.refused w page b i key wr = true → (wr = false ∨ key % 4096 ≠ 0x028) →
        s.gate w pa size wr = (if s.blockAsleep page then s.strayBy 5 wr pa w else s.logDeny page pa, .zero)) ∧
      (4 ≤ size → s.refused w page b i key wr = false → shadowOff (key % 4096) = true → s.gate w pa size wr = (s, .serve)) ∧
      (4 ≤ size → s.refused w page b i key wr = false → shadowOff (key % 4096) = false →
        s.isF (Reg.BLK_PWR page) Fld.BLK_PWR_AUTOWAKE = false →
        (s.blockAsleep page = true → s.gate w pa size wr = (s.strayBy 0 wr pa w, .ones)) ∧
        (s.blockAsleep page = false → b.row (key % 4096) = none →
          s.gate w pa size wr = ((s.strayBy 1 wr pa w).logDeny page pa, .zero)) ∧
        (s.blockAsleep page = false → b.row (key % 4096) ≠ none → s.gate w pa size wr = (s, .serve))))) ∧
  (∀ (a : Agent) (pa : BitVec 52) (w32 : Bool) (v : Word) (s t : State) (w : Who) (g : Gate),
    0xFF00000000000 ≤ pa.toNat → pa.toNat < 0xFF00010000000 → pa.toNat % (if w32 then 4 else 8) = 0 → s.who a = some w →
    s.gate w pa.toNat (if w32 then 4 else 8) true = (t, g) → g ≠ .serve → exec (.registerWrite a pa w32 v) s =
      .next (if g = .zero then t.flushRefused w (pa.toNat - 0xFF00000000000) v else t).settle) ∧
  (∀ (s : State) (w : Who) (key : Nat) (v : Word), (key ≠ Reg.L3BM_FLUSH → s.flushRefused w key v = s) ∧
    (w.wOrBoot = false → s.isF (Reg.CMT_BAND (v.toNat % 64)) Fld.CMT_BAND_EN = false → v.getLsbD 6 = true →
      s.getF Reg.L3BM_FLUSH_STAT Fld.L3BM_FLUSH_STAT_RESULT ≠ 1 → s.blockAsleep (Reg.L3BM_FLUSH / 4096) = false →
      s.flushRefused w Reg.L3BM_FLUSH v = s.setF Reg.L3BM_FLUSH_STAT Fld.L3BM_FLUSH_STAT_RESULT 5)) ∧
  (∀ (a : Agent) (pa : BitVec 52) (v : Word) (s : State) (w : Who) (page : Nat), pa.toNat = regAddr (Reg.IRQ_ROUTE page) →
    pa.toNat < 0xFF00010000000 → s.who a = some w →
    (s.gate w pa.toNat 8 true = (s, .serve) → ∃ t : State, exec (.registerWrite a pa false v) s = .next t.settle ∧
      t.rd (Reg.IRQ_ROUTE page) = (s.rd (Reg.IRQ_ROUTE page) &&& ~~~0x3FFF#64) ||| (v &&& 0x3FFF#64)) ∧
    (s.gate w pa.toNat 4 true = (s, .serve) → ∃ t : State, exec (.registerWrite a pa true v) s = .next t.settle ∧
      t.rd (Reg.IRQ_ROUTE page) = (s.rd (Reg.IRQ_ROUTE page) &&& ~~~0x3FFF#64) ||| (v &&& 0x3FFF#64))) ∧
  (∀ (a : Agent) (pa : BitVec 52) (w32 : Bool) (v : Word) (s : State), s.who a = none → exec (.registerWrite a pa w32 v) s = .next s)

open Sys2Proof Sys2Proof.Machine Sys2Proof.Claims in
/-- A write of BLK_OWNER follows the attribute rule where the owner is neither derived nor fixed, and is a denial elsewhere (R491); a
write of a vector's secure attribute that R294 does not allow is a denial, and one it allows takes effect for the next event. An
injection for compartment 63, or for another compartment by a requester that is not H of the platform compartment, needs W (R467). -/
def Sys2Proof.Claims.OwnersAndSecureAttributesFollowTheirRule : Prop :=
  (∀ (s : State) (w : Who) (old new : Nat), s.attrMayChange w old new = true ↔
    ((new / 64 % 2 = 1) ↔ (new % 64 = 63)) ∧ s.platHOrW w = true ∧
      ((old % 64 ≠ 63 ∧ old / 128 % 2 ≠ 1 ∧ new % 64 ≠ 63 ∧ new / 128 % 2 ≠ 1) ∨ w.wOrBoot = true)) ∧
  (∀ (a : Agent) (page : BitVec 12) (v : Word) (s : State) (w : Who) (b : Blk) (i : Nat), Performed s a w (Reg.BLK_OWNER page.toNat) →
    Blk.ofPage page.toNat = some (b, i) →
    (b.derivedOwner = true ∨ s.attrMayChange w ((s.rd (Reg.BLK_OWNER page.toNat)).toNat % 256) (v.toNat % 256) = false →
      exec (.blkOwnerWrite a page v) s = .next (s.denyAt (Reg.BLK_OWNER page.toNat)).settle) ∧
    (b.derivedOwner = false → s.attrMayChange w ((s.rd (Reg.BLK_OWNER page.toNat)).toNat % 256) (v.toNat % 256) = true →
      (b = .rst ∨ b = .lg ∨ b = .gpio ∨ b = .dmg ∨ b = .hub ∨ b = .pcie ∨ b = .fabg) →
      ∃ t : State, exec (.blkOwnerWrite a page v) s = .next t.settle ∧ (t.rd (Reg.BLK_OWNER page.toNat)).toNat % 256 = v.toNat % 256)) ∧
  (∀ (a : Agent) (d : Fin 2) (n : Fin 4096) (v : BitVec 8) (s : State) (w : Who),
    let key := irtKey (d.val * 4096 + n.val)
    let old := s.getF key Fld.IRT_ATTR
    Performed s a w key → s.platHOrW w = true →
    (s.attrMayChange w old v.toNat = false →
      exec (.secureAttributeWrite a (.vector d n) v) s = .next (s.denyAt key).settle) ∧
    (s.attrMayChange w old v.toNat = true → s.isF key Fld.IRT_MODE = true ∨ 9 ≤ s.getF key Fld.IRT_ID →
      ∃ t : State, exec (.secureAttributeWrite a (.vector d n) v) s = .next t.settle ∧ t.getF key Fld.IRT_ATTR = v.toNat ∧
        t.getF key Fld.IRT_ID = s.getF key Fld.IRT_ID ∧ t.isF key Fld.IRT_MODE = s.isF key Fld.IRT_MODE)) ∧
  (∀ (a : Agent) (n : Fin 16) (v : BitVec 8) (s : State) (w : Who),
    let key := Reg.GPIO_PIN n.val
    let old := s.getF key Fld.GPIO_PIN_ATTR
    Performed s a w key → v.toNat ≠ old →
    (s.attrMayChange w old v.toNat = false → exec (.secureAttributeWrite a (.pin n) v) s = .next (s.denyAt key).settle) ∧
    (s.attrMayChange w old v.toNat = true → ∃ t : State, exec (.secureAttributeWrite a (.pin n) v) s = .next t.settle ∧
      t.getF key Fld.GPIO_PIN_ATTR = v.toNat)) ∧
  (∀ (a : Agent) (page : BitVec 12) (v : Word) (s : State) (w : Who), Performed s a w (Reg.ERR_INJECT page.toNat) →
    let c := v.toNat / 4 % 64
    (w.wOrBoot = false → c = 63 ∨ (c ≠ w.cid ∧ w.isH s.platform = false) →
      exec (.errInject a page v) s = .next (s.denyAt (Reg.ERR_INJECT page.toNat)).settle) ∧
    (w.wOrBoot = true ∨ (c ≠ 63 ∧ (c = w.cid ∨ w.isH s.platform = true)) → ∃ t : State, exec (.errInject a page v) s = .next t.settle ∧
      t.getF (Reg.ERR_INJECT page.toNat) Fld.ERR_INJECT_TYPE = v.toNat % 4 ∧ t.getF (Reg.ERR_INJECT page.toNat) Fld.ERR_INJECT_CID = c ∧
      t.isF (Reg.ERR_INJECT page.toNat) Fld.ERR_INJECT_ARM = (s.isF (Reg.ERR_INJECT page.toNat) Fld.ERR_INJECT_ARM || v.getLsbD 8)))

open Sys2Proof Sys2Proof.Machine Sys2Proof.Claims in
/-- IRQ_SET sets the defined bits of IRQ_STAT it names, IRQ_EN takes the defined bits written, and a block raises one event towards its
vector when a bit of (IRQ_STAT AND IRQ_EN) changes from 0 to 1 while its route is enabled (R492). -/
def Sys2Proof.Claims.BlockInterruptsRaiseOneEvent : Prop :=
  let ev : State → Nat → Word → Ev := fun s page st => ⟨s.getF (Reg.IRQ_ROUTE page) Fld.IRQ_ROUTE_VEC, s.owner page % 128, 1, page, 0, st⟩
  let after : State → Nat → Word → Word → State → Prop := fun s page st en t =>
    t.rd (Reg.IRQ_STAT page) = st ∧ t.rd (Reg.IRQ_EN page) = en ∧
    t.io.evq = (if (st &&& en) &&& ~~~(s.rd (Reg.IRQ_STAT page) &&& s.rd (Reg.IRQ_EN page)) ≠ 0#64 ∧
        s.isF (Reg.IRQ_ROUTE page) Fld.IRQ_ROUTE_EN = true then s.io.evq ++ [ev s page st] else s.io.evq)
  (∀ (a : Agent) (page : BitVec 12) (v : Word) (s : State) (w : Who), Performed s a w (Reg.IRQ_SET page.toNat) →
    ∃ t : State, exec (.irqSet a page v) s = .next t.settle ∧
      after s page.toNat (s.rd (Reg.IRQ_STAT page.toNat) ||| (v &&& irqDefined page.toNat)) (s.rd (Reg.IRQ_EN page.toNat)) t) ∧
  (∀ (a : Agent) (page : BitVec 12) (v : Word) (s : State) (w : Who), Performed s a w (Reg.IRQ_EN page.toNat) →
    ∃ t : State, exec (.irqEnWrite a page v) s = .next t.settle ∧
      after s page.toNat (s.rd (Reg.IRQ_STAT page.toNat)) (v &&& irqDefined page.toNat) t) ∧
  (∀ page b i, Blk.ofPage page = some (b, i) → irqDefined page =
    if b = .lg then 0x800000000000003F#64 else if b = .dmc then 0x8000000000000007#64 else 0x8000000000000000#64)

/-! ### Faults (R15, R448, R457 to R462), tests (R468 to R472), patches (R482 to R487), the TAP (R515) -/

open Sys2Proof Sys2Proof.Machine Sys2Proof.Claims in
/-- A failed core's spare takes its place, or, with the spare used, the core is retired and its task is gone; a failed cluster is marked,
its modified lines carry poison, its mask reads all ones in its peers and its compartment is told that it has shrunk; a second phase
fault in an island marks it failed (R15, R261, R437); a fault in a unit without a spare asserts FAULT_N at severity 4 (R462). -/
def Obligations.SingleFaultsAreCovered : Prop :=
  (∀ (c : CoreId) (bad : Bool) (s : State), (s.core c.val).run = .off ∨ (s.core c.val).retired = true →
    exec (.coreFault c bad) s = .next s) ∧
  (∀ (c : CoreId) (bad lost : Bool) (s d : State), (s.core c.val).run ≠ .off → (s.core c.val).retired = false →
    s.failDrain c.val = (d, lost) →
    let u := (d.freshUnit c.val).recallWcall c.val
    ((u.cluster (c.val / 16)).spareUsed = true → ∃ t : State, exec (.coreFault c bad) s = .next t.settle ∧
      (t.core c.val).retired = true ∧ (t.core c.val).run = .off ∧ (t.core c.val).task = none) ∧
    ((u.cluster (c.val / 16)).spareUsed = false → ∃ t : State, exec (.coreFault c bad) s = .next t.settle ∧
      (t.cluster (c.val / 16)).spareUsed = true ∧ (t.core c.val).retired = (u.core c.val).retired ∧
      (t.core c.val).task = if (bad || lost) = true ∧ (u.core c.val).run ≠ .halted then none else (u.core c.val).task)) ∧
  (∀ (c : CoreId) (s : State), (s.core c.val).sb = [] → s.failDrain c.val = (s, false)) ∧
  (∀ (n : ClusterId) (s : State),
    (s.isF (Reg.CMT_CLUSTER n.val) Fld.CMT_CLUSTER_FAILED = true → exec (.clusterFault n) s = .next s) ∧
    (s.isF (Reg.CMT_CLUSTER n.val) Fld.CMT_CLUSTER_FAILED = false → (s.cluster n.val).drain = none → ∃ t : State, exec (.clusterFault n) s = .next t.settle ∧
      t.isF (Reg.CMT_CLUSTER n.val) Fld.CMT_CLUSTER_FAILED = true ∧ t.isF (Reg.PWC_ISL n.val) Fld.PWC_ISL_FAILED = true ∧
      (∀ c ∈ clusterCores n.val, (t.core c).run = .off ∧ (t.core c).task = none) ∧
      (∀ e ∈ s.lines, (∃ x ∈ e.2.copies, x.cl = n.val ∧ x.st = .m) → ∃ e' ∈ t.lines, e'.1 = e.1 ∧ e'.2.poison = true) ∧
      (∀ m ∈ s.clustersOf (s.cid n.val), m ≠ n.val → smGet (fun _ => 0#32) (t.cluster m).peer n.val = 0xFFFFFFFF#32) ∧
      t.rd (Reg.ANN_KIND (s.cid n.val) (s.getF (Reg.ANN_HEAD (s.cid n.val)) Fld.ANN_HEAD_HEAD % 16)) = BitVec.ofNat 64 (5 + n.val * 256)) ∧
    (s.isF (Reg.CMT_CLUSTER n.val) Fld.CMT_CLUSTER_FAILED = false → (s.cluster n.val).drain = some .cmt →
      ∃ t : State, exec (.clusterFault n) s = .next t.settle ∧ t.isF (Reg.CMT_CLUSTER n.val) Fld.CMT_CLUSTER_FAILED = true ∧
        t.isF (Reg.CMT_CLUSTER n.val) Fld.CMT_CLUSTER_DRAINED = true ∧ t.getF (Reg.CMT_CLUSTER n.val) Fld.CMT_CLUSTER_RESULT = 2 ∧
        (t.cluster n.val).drain = none)) ∧
  (∀ (i : Fin 136) (s : State),
    (s.isF (Reg.PWC_ISL i.val) Fld.PWC_ISL_PHASE = false → exec (.ivrPhaseFault i) s = .next (s.setF (Reg.PWC_ISL i.val) Fld.PWC_ISL_PHASE 1)) ∧
    (s.isF (Reg.PWC_ISL i.val) Fld.PWC_ISL_PHASE = true → s.islandFailed i.val = false →
      ∃ t : State, exec (.ivrPhaseFault i) s = .next t.settle ∧ t.islandFailed i.val = true ∧
        (i.val < 96 → t.isF (Reg.CMT_CLUSTER i.val) Fld.CMT_CLUSTER_FAILED = true) ∧
        (96 ≤ i.val → t.pins.faultN = true ∧ t.getF (Reg.ERR_STAT (leadPage i.val)) Fld.ERR_STAT_SEV = 4))) ∧
  (∀ (i : Fin 136) (s : State), ∃ t : State, exec (.unsparedUnitFault i) s = .next t.settle ∧ t.pins.faultN = true ∧
    t.getF (Reg.ERR_STAT (leadPage i.val)) Fld.ERR_STAT_SEV = 4 ∧ t.isF (Reg.ERR_STAT (leadPage i.val)) Fld.ERR_STAT_UE = true ∧
    t.isF (Reg.IRQ_STAT (leadPage i.val)) Fld.IRQ_STAT_ERR = true) ∧
  (∀ (l : Fin 18) (b : Bool) (s : State), ∃ t : State, exec (.d2dReplay l b) s = .next t.settle ∧ t.pins = s.pins ∧
    t.getF (Reg.ERR_STAT (d2dPage l.val)) Fld.ERR_STAT_SEV = 0 ∧ t.isF (Reg.ERR_STAT (d2dPage l.val)) Fld.ERR_STAT_CE = true) ∧
  (∀ (s : State),
    (∀ q, ∃ t, exec (.mramUncorrectable (.record q)) s = .next t ∧ t.ledger.records.map (fun r => (r.seq, r.sig)) =
      s.ledger.records.map (fun r => (r.seq, r.sig)) ∧ t.regs = s.regs ∧ ∀ r ∈ t.ledger.records, r.seq = q → r.bad = true) ∧
    (∃ t, exec (.mramUncorrectable .checkpoint) s = .next t ∧ t.ledger.checkpoint = none ∧ t.ledger.nextPartial = true) ∧
    (∀ b, ∃ t : State, exec (.mramUncorrectable (.wardenImage b)) s = .next t ∧ t.wardenImage (if b then 1 else 0) = none) ∧
    (∀ b, ∃ t, exec (.mramUncorrectable (.indexImage b)) s = .next t ∧ ∀ e ∈ t.boot.ifw, e.1 ≠ if b then 1 else 0) ∧
    (∀ k : Fin 4, ∃ t : State, exec (.mramUncorrectable (.antiRollback k)) s = .next t ∧
      t.getF (Reg.RST_ARB k.val) Fld.RST_ARB_MIN = 0xFFFFFFFF))

open Sys2Proof Sys2Proof.Machine Sys2Proof.Claims in
/-- A test starts only as R468 allows; while one is draining or runs, GO is refused busy; a target that needs W and another writer gives
"owner". Its drain ends at its timeout with "busy", or leave is asked and the test runs, or "power" (R469). Its end records the result
of the finding, and the leave and the target are back (R471). -/
def Obligations.InServiceTestsRunTheirSteps : Prop :=
  (∀ (a : Agent) (c : CompId) (v : Word) (s : State) (w : Who), Performed s a w (Reg.IST_REQ c.val) →
    let kind := v.toNat % 4
    let tg := v.toNat / 4 % 128
    let res := s.getF (Reg.IST_STAT c.val) Fld.IST_STAT_RESULT
    (s.istAllowed w c.val kind tg = false → exec (.istReqGo a c v) s = .next (s.denyAt (Reg.IST_REQ c.val)).settle) ∧
    (s.istAllowed w c.val kind tg = true → v.getLsbD 12 = true →
      (res = 1 ∨ res = 2 → ∃ t : State, exec (.istReqGo a c v) s = .next t.settle ∧
        t.getF (Reg.IST_STAT c.val) Fld.IST_STAT_RESULT = 6 ∧ t.ist = s.ist) ∧
      (res ≠ 1 → res ≠ 2 → s.istRun c.val = none →
        (kind = 2 → s.channelHas63 = true → w.wOrBoot = false → ∃ t : State, exec (.istReqGo a c v) s = .next t.settle ∧
          t.getF (Reg.IST_STAT c.val) Fld.IST_STAT_RESULT = 7 ∧ t.ist = s.ist) ∧
        (kind = 0 → s.cid tg ≠ 63 → s.istBusy 0 tg = false → ∃ t : State, exec (.istReqGo a c v) s = .next t.settle ∧
          t.getF (Reg.IST_STAT c.val) Fld.IST_STAT_RESULT = 1 ∧ t.istRun c.val = some ⟨0, tg, v.toNat / 512 % 8, false⟩ ∧
          (t.cluster tg).drain = some (.test c.val)) ∧
        (kind = 0 → s.cid tg ≠ 63 → s.istBusy 0 tg = true → ∃ t : State, exec (.istReqGo a c v) s = .next t.settle ∧
          t.getF (Reg.IST_STAT c.val) Fld.IST_STAT_RESULT = 6 ∧ t.ist = s.ist)))) ∧
  (∀ (c : CompId) (us : BitVec 16) (b : Bool) (s : State), s.istRun c.val = none → exec (.istDrainEnd c us b) s = .next s) ∧
  (∀ (c : CompId) (us : BitVec 16) (s : State) (r : IstRun), s.istRun c.val = some r → r.running = false →
    (∃ t : State, exec (.istDrainEnd c us true) s = .next t.settle ∧ t.getF (Reg.IST_STAT c.val) Fld.IST_STAT_RESULT = 6 ∧
      t.getF (Reg.IST_STAT c.val) Fld.IST_STAT_DRAIN_US = us.toNat ∧ t.istRun c.val = none ∧
      (r.kind = 0 → (t.cluster r.target).drain = none)) ∧
    (r.kind = 2 → s.channelHeld r.target = true → ∃ t : State, exec (.istDrainEnd c us false) s = .next t.settle ∧
      t.getF (Reg.IST_STAT c.val) Fld.IST_STAT_DRAIN_US = us.toNat ∧
      (s.committed none + 40 ≤ s.poolSize none → t.getF (Reg.IST_STAT c.val) Fld.IST_STAT_RESULT = 2 ∧
        t.istRun c.val = some { r with running := true } ∧ t.committed none = s.committed none + 40) ∧
      (s.poolSize none < s.committed none + 40 → t.getF (Reg.IST_STAT c.val) Fld.IST_STAT_RESULT = 8 ∧ t.istRun c.val = none))) ∧
  (∀ (c : CompId) (us : BitVec 32) (k : BitVec 8) (f : TestFinding) (s : State) (r : IstRun), s.istRun c.val = some r →
    (r.running = false → exec (.istTestEnd c us k f) s = .next s) ∧
    (r.running = true → istFits r f = true → ∃ t : State, exec (.istTestEnd c us k f) s = .next t.settle ∧ t.istRun c.val = none ∧
      t.getF (Reg.IST_STAT c.val) Fld.IST_STAT_RUN_US = us.toNat ∧
      let res := t.getF (Reg.IST_STAT c.val) Fld.IST_STAT_RESULT
      (f = .clean → (r.kind = 0 → r.sel.testBit 2 = true → k.msb = true → res = 4) ∧
        ((r.kind ≠ 0 ∨ r.sel.testBit 2 = false ∨ k.msb = false) → res = 3) ∧
        (r.kind = 0 → ∀ x ∈ clusterCores r.target, (s.core x).retired = false → (t.core x).run = .parked)) ∧
      (∀ x, f = .coreFails x → ((s.cluster r.target).spareUsed = false → res = 4 ∧ (t.cluster r.target).spareUsed = true) ∧
        ((s.cluster r.target).spareUsed = true → res = 5 ∧ t.isF (Reg.CMT_CLUSTER r.target) Fld.CMT_CLUSTER_FAILED = true) ∧
        t.getF (Reg.IST_STAT c.val) Fld.IST_STAT_DETAIL = x.val) ∧
      (f = .secondCoreFails ∨ f = .l2WayFails → res = 5 ∧ t.isF (Reg.CMT_CLUSTER r.target) Fld.CMT_CLUSTER_FAILED = true) ∧
      (∀ sl y, f = .l3WayFails sl y → res = 4 ∧ t.getF (Reg.IST_STAT c.val) Fld.IST_STAT_DETAIL = sl.val) ∧
      (∀ sc rk, f = .centringFails sc rk → res = 4 ∧ t.getF (Reg.IST_STAT c.val) Fld.IST_STAT_DETAIL = sc.val + 2 * rk.val ∧
        t.isF (Reg.DMC_STAT r.target) Fld.DMC_STAT_DEGRADED = true) ∧
      (f = .realFault → (r.kind = 0 → res = 5 ∧ t.isF (Reg.CMT_CLUSTER r.target) Fld.CMT_CLUSTER_FAILED = true) ∧ (r.kind ≠ 0 → res = 9)) ∧
      (∀ sc rk, f = .deviceFails sc rk → res = 4 ∧ t.getF Reg.DMG_SPARE_STAT Fld.DMG_SPARE_STAT_STATE = 3) ∧
      (f = .overTime → res = 9)))

open Sys2Proof Sys2Proof.Machine Sys2Proof.Claims in
/-- STAGE verifies a container into the pending image and COMMIT makes it the in-service image (R482, R485); an apply checks that an
image is pending and who asks, drains, freezes the unit's arbiters, loads it and ends done, or ends with the result of the step that
failed (R483). -/
def Obligations.PatchesAreStagedAppliedAndCommitted : Prop :=
  (∀ (a : Agent) (v : Word) (s : State) (w : Who), Performed s a w Reg.UPT_CTL →
    (v.getLsbD 0 = true → v.getLsbD 1 = false →
      (s.apply ≠ none → exec (.uptStage a v) s = .next (s.setUpt 6).settle) ∧
      (∀ u : State, s.apply = none → ∀ x, s.readPacked w.cid (s.getF Reg.UPT_SRC Fld.UPT_SRC_BASE * 2 ^ 18) (512 + 0xA200) = (u, x) →
        ∃ t : State, exec (.uptStage a v) s = .next t.settle ∧ t.units = u.units ∧ t.boot.inService = u.boot.inService ∧
          (x = none → t.uptResult = 8) ∧
          (∀ b, x = some b → match verifyCont b 2 (u.arbMin 2) with
            | .error _ => t.uptResult = 8 ∧ t.boot.pending = u.boot.pending
            | .ok p => if payCheck p = 0 then t.uptResult = 2 ∧ t.boot.pending = some ⟨contVersion b, p⟩
                       else t.uptResult = 9 ∧ t.boot.pending = u.boot.pending))) ∧
    (v.getLsbD 0 = false → v.getLsbD 1 = true →
      (s.apply ≠ none → exec (.uptCommit a v) s = .next (s.setUpt 6).settle) ∧
      (∀ u, s.apply = none → s.boot.pending = some u → ∃ t : State, exec (.uptCommit a v) s = .next t.settle ∧
        t.boot.inService = some u ∧ t.boot.pending = none ∧ t.units = s.units))) ∧
  (∀ (a : Agent) (v : Word) (s : State) (w : Who), Performed s a w Reg.UPT_APPLY →
    let kind := v.toNat % 2
    let tg := v.toNat / 2 % 128
    (s.platHOrW w = false → v.getLsbD 8 = false → exec (.uptApply a v) s = .next (s.denyAt Reg.UPT_APPLY).settle) ∧
    (s.platHOrW w = false → v.getLsbD 8 = true → s.uptResult ∉ [1, 3, 4] → s.apply = none →
      ∃ t : State, exec (.uptApply a v) s = .next t.settle ∧ t.apply = none ∧ t.uptResult = if s.boot.pending = none then 10 else 7) ∧
    (s.platHOrW w = true → v.getLsbD 8 = true →
      (s.uptResult = 3 ∨ s.uptResult = 4 ∨ s.apply ≠ none → ∃ t : State, exec (.uptApply a v) s = .next t.settle ∧
        t.uptResult = 6 ∧ t.apply = s.apply) ∧
      (s.uptResult ≠ 1 → s.uptResult ≠ 3 → s.uptResult ≠ 4 → s.apply = none →
        (s.boot.pending = none → ∃ t : State, exec (.uptApply a v) s = .next t.settle ∧ t.uptResult = 10) ∧
        (∀ u, s.boot.pending = some u →
          (w.wOrBoot = false → s.unitNeedsW kind tg = true → ∃ t : State, exec (.uptApply a v) s = .next t.settle ∧
            t.uptResult = 7 ∧ t.apply = none) ∧
          (s.unitNeedsW kind tg = false ∨ w.wOrBoot = true → kind = 0 → tg < 96 → (s.cluster tg).drain = none →
            (s.cluster tg).resetKind = none → ∃ t : State, exec (.uptApply a v) s = .next t.settle ∧ t.uptResult = 3 ∧
              t.apply = some ⟨0, tg, u.version⟩ ∧ (t.cluster tg).drain = some .patch))))) ∧
  (∀ (us : BitVec 16) (b : Bool) (s : State), s.apply = none → exec (.patchDrainEnd us b) s = .next s) ∧
  (∀ (us : BitVec 16) (s : State) (x : Apply), s.apply = some x → s.loading x = false →
    (∃ t : State, exec (.patchDrainEnd us true) s = .next t.settle ∧ t.uptResult = 6 ∧ t.apply = none) ∧
    (x.kind = 0 → (∀ c, c ∈ clusterCores x.target → (s.core c).task = none ∧ (s.core c).still = true ∧ (s.core c).sb = [] ∧
        (s.core c).posted = []) →
      ∃ t : State, exec (.patchDrainEnd us false) s = .next t.settle ∧ t.uptResult = 4 ∧ t.apply = some x ∧
        t.isF (Reg.USQ_PATCH_STAT x.target) Fld.USQ_PATCH_STAT_LOADING = true ∧
        t.isF (Reg.BLK_FREEZE (pageL2C x.target)) Fld.BLK_FREEZE_SYS = true ∧
        t.isF (Reg.BLK_FREEZE (pageUSQ x.target)) Fld.BLK_FREEZE_SYS = true) ∧
    (x.kind = 1 → s.channelHeld x.target = true → ∃ t : State, exec (.patchDrainEnd us false) s = .next t.settle ∧ t.uptResult = 4 ∧
      t.isF (Reg.DMC_SEQ_STAT x.target) Fld.DMC_SEQ_STAT_LOADING = true)) ∧
  (∀ (s : State) (x : Apply) (u : UImage), s.apply = some x → s.boot.pending = some u → x.kind = 0 →
    s.isF (Reg.USQ_PATCH_STAT x.target) Fld.USQ_PATCH_STAT_LOADING = true →
    (∃ t : State, exec (.patchLoadEnd true) s = .next t.settle ∧ t.uptResult = 5 ∧ t.apply = none ∧
      t.units.find? (fun e => decide (e.1 = x.target)) = some (x.target, u) ∧
      t.getF (Reg.USQ_PATCH_STAT x.target) Fld.USQ_PATCH_STAT_VERSION = u.version % 2 ^ 32 ∧
      t.isF (Reg.USQ_PATCH_STAT x.target) Fld.USQ_PATCH_STAT_LOADING = false ∧
      t.isF (Reg.BLK_FREEZE (pageL2C x.target)) Fld.BLK_FREEZE_SYS = false ∧ (t.cluster x.target).drain = none) ∧
    ((s.cluster x.target).drain = some .patch → ∃ t : State, exec (.patchLoadEnd false) s = .next t.settle ∧ t.uptResult = 11 ∧
      t.isF (Reg.CMT_CLUSTER x.target) Fld.CMT_CLUSTER_FAILED = true))

open Sys2Proof Sys2Proof.Machine Sys2Proof.Claims in
/-- The TAP moves by TMS at each rising edge, five ones reach Test-Logic-Reset from anywhere, TRST_N resets it, IDCODE is captured as
0x1153_6A47, all ones selects BYPASS, which is one bit long (R515). -/
def Sys2Proof.Claims.TheTapFollowsItsStates : Prop :=
  (∀ (tms tdi : Bool) (s : State), ∃ t, exec (.tapOperation tms tdi false) s = .next t ∧ t.jtag.st = .reset ∧ t.jtag.ir = .idcode) ∧
  (∀ (tms tdi : Bool) (s : State), ∃ t, exec (.tapOperation tms tdi true) s = .next t ∧ t.jtag.st = s.jtag.st.next tms ∧
    (s.jtag.st = .capDr → s.jtag.ir = .idcode → t.jtag.dr = 0x11536A47#32) ∧
    (s.jtag.st = .shDr → s.jtag.ir = .idcode → t.jtag.tdo = s.jtag.dr.getLsbD 0 ∧ t.jtag.dr.getLsbD 31 = tdi ∧
      ∀ i, i < 31 → t.jtag.dr.getLsbD i = s.jtag.dr.getLsbD (i + 1)) ∧
    (s.jtag.st = .shDr → s.jtag.ir = .bypass → t.jtag.tdo = s.jtag.dr.getLsbD 0 ∧ t.jtag.dr.getLsbD 0 = tdi) ∧
    (s.jtag.st.next tms = .updIr → s.jtag.irShift = 0xF#4 → s.jtag.st = .ex1Ir ∨ s.jtag.st = .ex2Ir → t.jtag.ir = .bypass) ∧
    (s.jtag.st.next tms = .reset → t.jtag.ir = .idcode)) ∧
  (∀ x : Tap, ((((x.next true).next true).next true).next true).next true = .reset)

/-! ### The minute ledger (chapter 13) -/

open Sys2Proof Sys2Proof.Machine Sys2Proof.Claims in
/-- A metering point's post clears its banks: deltas of the closing span join it before T + 1 ms, and later are counted as dropped with
PARTIAL (R316, R317). At a strike the open span closes at the timebase and an empty one opens (R316, R319); at T + 1 ms it is closed and
the checkpoint taken (R317, R328). A key that finds no slot goes to the overflow entry (R315). -/
def Obligations.SpansCountAndClose : Prop :=
  (∀ (p : Span) (free : Bool) (k : KeyUse),
    ((∃ e ∈ p.keys, e.cid = k.cid ∧ e.tag = k.tag) → (p.addKey free k).keys.length = p.keys.length ∧ (p.addKey free k).ovf = p.ovf) ∧
    ((∀ e ∈ p.keys, ¬ (e.cid = k.cid ∧ e.tag = k.tag)) →
      (free = true → (p.addKey free k).keys.length = p.keys.length + 1 ∧ (p.addKey free k).ovf = p.ovf) ∧
      (free = false → (p.addKey free k).keys = p.keys ∧ (p.addKey free k).overflow = true ∧
        (p.addKey free k).ovf = metersSum p.ovf k.m))) ∧
  (∀ (pt : MeterPoint) (s : State), s.ledger.metering = false → exec (.meterPost pt) s = .next s) ∧
  (∀ (pt : MeterPoint) (s : State), s.ledger.metering = true → ∃ t : State, exec (.meterPost pt) s = .next t ∧
    (t.meterPt (pointNum pt)).cur = [] ∧ (t.meterPt (pointNum pt)).old = [] ∧
    ((∀ n, pt ≠ .cluster n) → ∀ c, s.ledger.closing = some c → (s.meterPt (pointNum pt)).old ≠ [] →
      (s.ledger.closed = true → t.ledger.closing = some { c with dropped := min 0xFFFF (c.dropped + 1), lost := true }) ∧
      (s.ledger.closed = false →
        t.ledger.closing = some (c.addKeys s.ledger.openSpan.keys.length (s.meterPt (pointNum pt)).old))) ∧
    ((∀ n, pt ≠ .cluster n) → s.ledger.closing = none → (s.meterPt (pointNum pt)).old = [] →
      t.ledger.openSpan = s.ledger.openSpan.addKeys 0 (s.meterPt (pointNum pt)).cur)) ∧
  (∀ (s : State),
    (s.ledger.metering = false ∨ s.ledger.closing ≠ none ∨ s.tb.toNat % 60000000000 ≠ 0 → exec .minuteStrike s = .next s) ∧
    (s.ledger.metering = true → s.ledger.closing = none → s.tb.toNat % 60000000000 = 0 → ∃ t c, exec .minuteStrike s = .next t ∧
      t.ledger.closing = some c ∧ c.keys = s.ledger.openSpan.keys ∧ c.tbStart = s.ledger.openSpan.tbStart ∧ c.tbEnd = s.tb ∧
      c.minutes = 1 ∧ c.sync = s.getF Reg.FABG_SYNC Fld.FABG_SYNC_STATE ∧ c.syncErr = s.syncErr ∧
      t.ledger.closed = false ∧ t.ledger.openSpan.tbStart = s.tb ∧ t.ledger.openSpan.keys = [] ∧ ∀ p, (t.meterPt p).cur = [])) ∧
  (∀ (s : State), s.ledger.closing = none → exec .spanClose s = .next s) ∧
  (∀ (s : State) (c : Span), s.ledger.closing = some c →
    (s.ledger.closed = true ∨ s.tb.toNat < c.tbEnd.toNat + 1000000 → exec .spanClose s = .next s) ∧
    (s.ledger.closed = false → c.tbEnd.toNat + 1000000 ≤ s.tb.toNat → ∃ (t : State) (d : Span), exec .spanClose s = .next t ∧
      t.ledger.closing = some d ∧ d.keys = c.keys ∧ (d.lost = true ↔ c.lost = true ∨ ∃ e ∈ s.meters, e.2.old ≠ []) ∧
      t.ledger.closed = true ∧ t.isF Reg.LG_STAT Fld.LG_STAT_CLOSING = true ∧
      t.ledger.checkpoint = some ⟨s.tb, s.ledger.openSpan, s.ledger.accum, some d, s.getF Reg.FABG_SYNC Fld.FABG_SYNC_STATE, s.syncErr⟩)) ∧
  (∀ (s : State), ∃ t : State, exec .ledgerCheckpoint s = .next t ∧ (s.ledger.metering = false → t = s) ∧
    (s.ledger.metering = true → t.ledger.checkpoint =
      some ⟨s.tb, s.ledger.openSpan, s.ledger.accum, s.unsealed, s.getF Reg.FABG_SYNC Fld.FABG_SYNC_STATE, s.syncErr⟩)) ∧
  (∀ (s : State), (s.ledger.closed = true → s.unsealed = s.ledger.closing) ∧
    (s.ledger.closed = false → s.unsealed = s.ledger.closing.map (fun c => { c with
      lost := c.lost || s.meters.any (fun e => decide (e.2.old ≠ [])) })))

open Sys2Proof Sys2Proof.Machine Sys2Proof.Claims in
/-- A closed span ends in a record when GRAN strikes have passed: its SEQ is one higher, it holds the hash of the record before it (zero
in a genesis record), and its own hash and signature (R320 to R322, R325). Export, winding and format act on whole records (R323, R324,
R327). Energy that no key used is unattributed (R312), and a compartment's bands count each millisecond (R313). -/
def Obligations.RecordsAreSealedExportedAndWound : Prop :=
  (∀ (s : State), s.ledger.closing = none ∨ s.ledger.closed = false → exec .recordSeal s = .next s) ∧
  (∀ (s : State) (c : Span), s.ledger.closing = some c → s.ledger.closed = true → s.ledger.accum = none →
    (s.ledger.gran ≤ c.minutes ∨ s.ledger.relax = true → ∃ (t : State) (r : Record), exec .recordSeal s = .next t.settle ∧
      t.ledger.closing = none ∧ t.ledger.closed = false ∧ t.isF Reg.LG_STAT Fld.LG_STAT_CLOSING = false ∧
      t.ledger.records.getLast? = some r ∧ r.seq = s.rd Reg.LG_SEQ_NEW + 1#64 ∧ t.rd Reg.LG_SEQ_NEW = r.seq ∧
      r.span.keys = c.keys ∧ r.span.tbStart = c.tbStart ∧ r.span.tbEnd = c.tbEnd ∧ r.gran = s.ledger.gran ∧
      r.hash = Config.sha384 (r.bytesWith (zeros 96)) ∧ r.sig = Config.ecdsaSign r.hash ∧ t.ledger.lastHash = r.hash ∧
      (s.ledger.genesis = true → r.prevHash = zeros 48) ∧ (s.ledger.genesis = false → r.prevHash = s.ledger.lastHash) ∧
      t.ledger.genesis = false ∧ ∀ k, t.ledger.checkpoint = some k → k.closed = none ∧ k.accum = none) ∧
    (c.minutes < s.ledger.gran → s.ledger.relax = false → ∃ t : State, exec .recordSeal s = .next t.settle ∧
      (∀ k, t.ledger.checkpoint = some k → k.closed = none ∧ k.accum = some c) ∧
      t.ledger.accum = some c ∧ t.ledger.records = s.ledger.records ∧ t.rd Reg.LG_SEQ_NEW = s.rd Reg.LG_SEQ_NEW)) ∧
  (∀ (i : Fin 136) (uj : Nat) (s : State),
    (s.ledger.metering = false → exec (.energyApportion i uj) s = .next s) ∧
    (s.ledger.metering = true → 96 ≤ i.val → s.beforeStrike = 0 →
      let q := s.meterPt (islandPoint i.val)
      let x := s.islandUse i.val 100000 (q.intvOld ++ q.intv)
      ∃ t : State, exec (.energyApportion i uj) s = .next t ∧
        t.ledger.openSpan.energyUn = min meterTop (s.ledger.openSpan.energyUn + x.1.foldl (fun a e => a - uj * e.2.2 / x.2) uj))) ∧
  (∀ (s : State),
    (s.ledger.metering = false ∨ s.tb.toNat % 1000000 ≠ 0 ∨ s.ledger.msDone = some s.tb.toNat → exec .bandMsTick s = .next s) ∧
    (s.ledger.metering = true → s.tb.toNat % 1000000 = 0 → s.ledger.msDone ≠ some s.tb.toNat → ∃ t, exec .bandMsTick s = .next t ∧
      t.ledger.msDone = some s.tb.toNat ∧
      ∀ c, c < 64 → t.ledger.openSpan.bandMs.getD c 0 = min meterTop (s.ledger.openSpan.bandMs.getD c 0 + s.bandsOf c))) ∧
  (∀ (a : Agent) (v : Word) (s : State) (w : Who), Performed s a w Reg.LG_EXP_CTL → v.getLsbD 16 = true →
    (s.getF Reg.LG_EXP_STAT Fld.LG_EXP_STAT_RESULT = 1 → ∃ t : State, exec (.lgExport a v) s = .next t.settle ∧ t.ledger = s.ledger) ∧
    (s.getF Reg.LG_EXP_STAT Fld.LG_EXP_STAT_RESULT ≠ 1 → ∃ t : State, exec (.lgExport a v) s = .next t.settle ∧
      t.getF Reg.LG_EXP_STAT Fld.LG_EXP_STAT_RESULT = 1 ∧ t.isF Reg.LG_STAT Fld.LG_STAT_EXPORTING = true ∧
      t.ledger.exporting = some (s.getF Reg.LG_EXP Fld.LG_EXP_BASE * 2 ^ 18,
        (if v.toNat % 65536 = 0 then 257 else v.toNat % 65536) * 1024, (s.rd Reg.LG_SEQ_NEW).toNat))) ∧
  (∀ (s : State), (s.ledger.exporting = none → exec .lgExportEnd s = .next s) ∧
    (∀ x, s.ledger.exporting = some x → ∃ t : State, exec .lgExportEnd s = .next t.settle ∧ t.ledger.exporting = none ∧
      t.isF Reg.LG_STAT Fld.LG_STAT_EXPORTING = false ∧ (t.rd (Reg.IRQ_STAT 0x11)).getLsbD 3 = true ∧
      (t.getF Reg.LG_EXP_STAT Fld.LG_EXP_STAT_RESULT = 2 ∨ t.getF Reg.LG_EXP_STAT Fld.LG_EXP_STAT_RESULT = 3) ∧
      ((∀ r ∈ s.ledger.records, r.seq.toNat ≤ (s.rd Reg.LG_SEQ_EXP).toNat) →
        t.getF Reg.LG_EXP_STAT Fld.LG_EXP_STAT_RESULT = 2 ∧ t.getF Reg.LG_EXP_STAT Fld.LG_EXP_STAT_COUNT = 0))) ∧
  (∀ (a : Agent) (v : Word) (s : State) (w : Who), Performed s a w Reg.LG_WIND →
    ((s.rd Reg.LG_SEQ_EXP).toNat < v.toNat → exec (.lgWind a v) s = .next (s.denyAt Reg.LG_WIND).settle) ∧
    (v.toNat ≤ (s.rd Reg.LG_SEQ_EXP).toNat → v.toNat ≤ (s.rd Reg.LG_WIND).toNat → exec (.lgWind a v) s = .next s.settle) ∧
    (v.toNat ≤ (s.rd Reg.LG_SEQ_EXP).toNat → (s.rd Reg.LG_WIND).toNat < v.toNat → ∃ t : State, exec (.lgWind a v) s = .next t.settle ∧
      t.rd Reg.LG_WIND = v ∧ t.ledger.records = s.ledger.records.filter (fun r => decide (v.toNat < r.seq.toNat)))) ∧
  (∀ (a : Agent) (v : Word) (s : State) (w : Who), Performed s a w Reg.LG_CTL → v.getLsbD 0 = true →
    ∃ t : State, exec (.lgFormat a v) s = .next t.settle ∧ t.ledger.records = [] ∧ t.ledger.genesis = true ∧
      t.getF Reg.LG_LOSS Fld.LG_LOSS_COUNT = min (2 ^ 32 - 1) (s.getF Reg.LG_LOSS Fld.LG_LOSS_COUNT + s.ledger.records.length) ∧
      t.rd Reg.LG_SEQ_NEW = s.rd Reg.LG_SEQ_NEW)

/-! ### The DRAM controllers (chapter 14) -/

open Sys2Proof Sys2Proof.Machine Sys2Proof.Claims in
/-- A request that passes the color check and finds a slot on its wheel enters the queue half of its bank, or waits at its home slice where
that is full or the channel is held (R336, R268, R275); a partial write whose line has been read is merged with it, keeping the line's
poison (R337). A column command for a write performs it and takes it from its queue, an activate opens the row, a precharge closes it
(R338); a slot is served to its owner, or lent (R279); phases exist under order B alone and follow the timebase (R341), and refresh takes
the slot whoever owns it and closes the rows of the banks it refreshes (R344; which banks: the model's choice, log 147). -/
def Obligations.RequestsAreQueuedAndServed : Prop :=
  (∀ (c : CompId) (tag : Option (BitVec 16)) (pa : BitVec 52) (wr : Bool) (data : BitVec 512) (mask : BitVec 64) (s : State),
    let a := pa.toNat / 64 * 64
    let k := s.queueKey a
    let q : Req := { cid := c.val, die := 0, src := 6 }
    let w := wheelDRAM (s.dramAddr a).sub
    let r : DramReq := { pa := a, cid := c.val, wr := wr, data := (if wr then data else 0#512), mask := (if wr then mask else 0#64),
                         merged := !wr || decide (mask = fullMask), key := tag.map (fun t => (c.val, t.toNat)) }
    (s.inDram a = false ∨ (wr = true ∧ mask = 0#64) → exec (.dramRequest ⟨c, tag⟩ pa wr data mask) s = .next s) ∧
    (s.inDram a = true → (wr = true → mask ≠ 0#64) →
      (s.colorOK c.val a = false →
        ∃ t : State, exec (.dramRequest ⟨c, tag⟩ pa wr data mask) s = .next t.settle ∧ t.dram = s.dram ∧ t.mem = s.mem) ∧
      (s.colorOK c.val a = true →
        (s.hasSlot w (s.slotComp q a) false = false →
          exec (.dramRequest ⟨c, tag⟩ pa wr data mask) s = .next (s.logNoSlot w a).settle) ∧
        (s.hasSlot w (s.slotComp q a) false = true →
          (s.queueDepth ≤ (s.dramQ k).length ∨ s.channelHeld (s.dramAddr a).ch = true ∨ (∃ x ∈ s.dram.wait, s.queueKey x.pa = k) →
            ∃ t : State, exec (.dramRequest ⟨c, tag⟩ pa wr data mask) s = .next t ∧ t.dram.wait = s.dram.wait ++ [r] ∧
              t.dram.q = s.dram.q ∧ t.mem = s.mem) ∧
          ((s.dramQ k).length < s.queueDepth → s.channelHeld (s.dramAddr a).ch = false → (∀ x ∈ s.dram.wait, s.queueKey x.pa ≠ k) →
            (wr = true ∨ (∀ x ∈ s.dramQ k, x.wr = true → x.pa ≠ a) → ∃ t : State, exec (.dramRequest ⟨c, tag⟩ pa wr data mask) s = .next t ∧
              t.dramQ k = s.dramQ k ++ [r] ∧ t.dram.wait = s.dram.wait ∧ t.mem = s.mem) ∧
            (wr = false → (∃ x, (s.dramQ k).reverse.find? (fun x => x.wr && decide (x.pa = a)) = some x ∧ x.merged = true) →
              exec (.dramRequest ⟨c, tag⟩ pa wr data mask) s = .next s)))))) ∧
  (∀ (u b : Fin 32) (s : State) (r : DramReq) (q : List DramReq), s.dramQ (u.val * 64 + b.val) = r :: q → r.wr = true → r.merged = false →
    (r.fetched = true → ∃ t : State, exec (.partialWriteMerge u b) s = .next t ∧
      t.dramQ (u.val * 64 + b.val) = { r with data := mergeLine (s.memLine (r.pa / 64)) r.data r.mask, mask := fullMask, merged := true,
                                              fetched := true, poison := r.poison || s.memPoison (r.pa / 64) } :: dropServed (r.pa / 64) q ∧
      t.mem = s.mem) ∧
    (r.fetched = false → ∃ t : State, exec (.partialWriteMerge u b) s = .next t ∧ (t.dramQ (u.val * 64 + b.val)).head? = some r)) ∧
  (∀ (u b : Fin 32) (s : State), (∀ k ∈ bankKeys u.val b.val, ∀ r ∈ s.dramQ k, r.wr = true → r.merged = true) →
    exec (.partialWriteMerge u b) s = .next s) ∧
  (∀ (s : State) (u k : Nat) (r : DramReq),
    (s.cmdFor r = .col ↔ s.rowHit r = true) ∧
    (s.cmdFor r = .act → smGet (fun _ => 0) (s.issue u k r).dram.rows (s.rowKey r.pa) = (s.dramAddr r.pa).row + 1 ∧
      (s.issue u k r).dramQ k = s.dramQ k ∧ (s.issue u k r).mem = s.mem) ∧
    (s.cmdFor r = .pre → smGet (fun _ => 0) (s.issue u k r).dram.rows (s.rowKey r.pa) = 0 ∧
      (s.issue u k r).dramQ k = s.dramQ k ∧ (s.issue u k r).mem = s.mem) ∧
    (s.cmdFor r = .col →
      (r.needsRead = true → (s.issue u k r).mem = s.mem ∧ (s.dram.wait = [] →
        (r.wr = false → (s.issue u k r).dramQ k = (s.dramQ k).erase r) ∧
        (r.wr = true → ∃ p, (s.issue u k r).dramQ k = (s.dramQ k).map (fun q => if q = r then { q with fetched := true, poison := q.poison || p }
          else q)))) ∧
      (r.needsRead = false → (s.dram.wait = [] → (s.issue u k r).dramQ k = (s.dramQ k).erase r) ∧
        (s.issue u k r).memLine (r.pa / 64) = mergeLine (s.memLine (r.pa / 64)) r.data r.mask))) ∧
  (∀ (u : Fin 32) (s : State), s.orderB = true →
    let w := wheelDRAM u.val
    let e := s.slotNow w (s.getF (Reg.BW_STAT (wheelPage w)) Fld.BW_STAT_POS)
    let own := (queueOrder u.val (smGet (fun _ => 31) s.dram.rot (u.val * 64 + e.toNat % 64))).find? (fun k =>
      match s.pickInQueue u.val k with
      | some r => decide (s.reqSlotComp r = e.toNat % 64) && s.cmdAllowed u.val false (s.cmdFor r)
      | none => false)
    (e.getLsbD 6 = false ∨ s.channelHeld (u.val / 2) = true → exec (.dramCommandIssue u) s = .next s) ∧
    (e.getLsbD 6 = true → s.channelHeld (u.val / 2) = false →
      (∀ k r, own = some k → s.pickInQueue u.val k = some r →
        ∃ t : State, exec (.dramCommandIssue u) s = .next t ∧ t.dram.q = (s.issue u.val k r).dram.q ∧
          t.dram.rows = (s.issue u.val k r).dram.rows ∧ t.mem = (s.issue u.val k r).mem) ∧
      (own = none → e.getLsbD 7 = false ∨ s.isF (Reg.CMP_CTL (e.toNat % 64)) Fld.CMP_CTL_LENDOK = false →
        exec (.dramCommandIssue u) s = .next s) ∧
      (∀ b k, own = none → e.getLsbD 7 = true → s.isF (Reg.CMP_CTL (e.toNat % 64)) Fld.CMP_CTL_LENDOK = true →
        s.borrower w ((natsFrom 0 64).filter (fun b => (s.readyQueue u.val b true).isSome)) = some b → s.readyQueue u.val b true = some k →
        exec (.dramCommandIssue u) s = .next ((s.issueFrom u.val b k).borrowed w b)))) ∧
  (∀ (u : Fin 32) (s : State), ∃ t, exec (.dramPhaseChange u) s = .next t ∧
    (s.orderB = false ∨ smGet (fun _ => false) s.dram.writing u.val = s.phaseWrites → t = s) ∧
    (s.orderB = true → smGet (fun _ => false) t.dram.writing u.val = s.phaseWrites ∧
      (smGet (fun _ => false) s.dram.writing u.val ≠ s.phaseWrites → smGet (fun _ => 0) t.dram.since u.val = 0 ∧
        (s.phaseWrites = false → ∀ f, t.forcedF Reg.DMG_PHASE f = s.getF Reg.DMG_PHASE f)))) ∧
  (∀ (u : Fin 32) (k : RefreshKind) (s : State), ∃ t : State, exec (.dramRefresh u k) s = .next t.settle ∧
    let w := wheelPage (wheelDRAM u.val)
    t.getF (Reg.BW_STAT w) Fld.BW_STAT_POS = (s.getF (Reg.BW_STAT w) Fld.BW_STAT_POS + 1) % 64 ∧ t.dram.q = s.dram.q ∧
    (k ≠ .refresh → t.dram.rows = s.dram.rows) ∧
    (k = .refresh → (s.orderB = false → s.forcedF (Reg.DMC_REF (u.val / 2)) Fld.DMC_REF_SB = 0 → ∀ e ∈ t.dram.rows, e.1 / 256 ≠ u.val) ∧
      (s.orderB = true → ∀ e ∈ t.dram.rows, e.1 / 256 = u.val → e.1 % 4 ≠ smGet (fun _ => 0) s.dram.refreshed u.val)))

open Sys2Proof Sys2Proof.Machine Sys2Proof.Claims in
/-- The refresh rate follows the module temperature, and a change is announced (R344, R437). A retraining round runs to its last pause,
and the third failed round in a row marks the channel degraded (R346). A parity alert whose retries fail degrades the channel (R350). A
patrol read of an owned line logs what it finds (R351).
Sparing trains the free spare, copies the failing channel to it and then maps it in its place, with the poison that the channel's table
holds (R352, R20); requests are held for a test or a patch (R347). -/
def Obligations.ChannelsAreRetrainedSparedAndHeld : Prop :=
  (∀ (n : Fin 16) (x : BitVec 8) (s : State), ∃ t : State, (exec (.refreshRateStep n x) s = .next t ∨
      exec (.refreshRateStep n x) s = .next t.settle) ∧
    t.getF (Reg.DMC_STAT n.val) Fld.DMC_STAT_RATE = (if x.toNat < 85 then 0 else if x.toNat ≤ 95 then 1 else 2) ∧
    t.getF (Reg.DMC_STAT n.val) Fld.DMC_STAT_TEMP = x.toNat) ∧
  (∀ (n : Fin 16) (s : State),
    let k := Reg.DMC_STAT n.val
    (s.isF k Fld.DMC_STAT_PRESENT = false ∨ s.isF k Fld.DMC_STAT_RETRAIN = true ∨ s.channelHeld n.val = true →
      exec (.retrainRound n) s = .next s) ∧
    (s.isF k Fld.DMC_STAT_PRESENT = true → s.isF k Fld.DMC_STAT_RETRAIN = false → s.channelHeld n.val = false →
      ∃ t : State, exec (.retrainRound n) s = .next t.settle ∧ t.isF k Fld.DMC_STAT_RETRAIN = true ∧
        ∃ d ∈ t.power.declared, d.kind = 3 ∧ d.detail = 104 + n.val) ∧
    (∀ ok last, s.isF k Fld.DMC_STAT_RETRAIN = false → exec (.retrainPause n ok last) s = .next s) ∧
    (∀ ok, s.isF k Fld.DMC_STAT_RETRAIN = true → ∃ t : State, exec (.retrainPause n ok true) s = .next t.settle ∧
      t.isF k Fld.DMC_STAT_RETRAIN = false ∧
      t.roundFails n.val = (if ok = true ∧ s.roundFails (16 + n.val) = 0 then 0 else s.roundFails n.val + 1) ∧
      (3 ≤ t.roundFails n.val → t.isF k Fld.DMC_STAT_DEGRADED = true)) ∧
    (s.isF k Fld.DMC_STAT_RETRAIN = true → ∃ t : State, exec (.retrainPause n false false) s = .next t ∧ t.roundFails (16 + n.val) = 1)) ∧
  (∀ (u : Fin 32) (pa : BitVec 52) (wr rf pf : Bool) (s : State),
    (rf = false ∨ (s.dramAddr pa.toNat).sub ≠ u.val → exec (.caParityAlert u pa wr rf pf) s = .next s) ∧
    (rf = true → (s.dramAddr pa.toNat).sub = u.val → ∃ t : State, exec (.caParityAlert u pa wr rf pf) s = .next t.settle ∧
      t.isF (Reg.DMC_STAT (u.val / 2)) Fld.DMC_STAT_DEGRADED = true ∧ t.isF (Reg.ERR_STAT (pageDMC (u.val / 2))) Fld.ERR_STAT_UE = true ∧
      (wr = true → pf = true → (smGet (fun _ => []) s.dram.poisonTab (u.val / 2)).length < 16 →
        pa.toNat / 64 ∈ smGet (fun _ => []) t.dram.poisonTab (u.val / 2)))) ∧
  (∀ (pa : BitVec 52) (s : State), let a := pa.toNat / 64 * 64
    let n := (s.dramAddr a).ch
    (s.inDram a = false ∨ s.getF (Reg.DMC_SCRUB n) Fld.DMC_SCRUB_PERIOD_H = 0 ∨ s.channelHeld n = true ∨
        (s.orderB = true ∧ s.colorOwner (colorOf a) = none) → exec (.patrolScrub pa) s = .next s) ∧
    (∀ c, s.inDram a = true → s.getF (Reg.DMC_SCRUB n) Fld.DMC_SCRUB_PERIOD_H ≠ 0 → s.channelHeld n = false →
      (if s.orderB then s.colorOwner (colorOf a) else some 0) = some c →
      match s.takeInject (pageDMC n) c with
      | (none, u) => s.memPoison (a / 64) = false → exec (.patrolScrub pa) s = .next u
      | (some 0, _) => ∃ t : State, exec (.patrolScrub pa) s = .next t.settle ∧ t.mem = s.mem ∧ t.poison = s.poison ∧
        t.isF (Reg.ERR_STAT (pageDMC n)) Fld.ERR_STAT_CE = true
      | (some k, _) => k = 1 ∨ k = 2 → ∃ t : State, exec (.patrolScrub pa) s = .next t.settle ∧ t.mem = s.mem ∧ a / 64 ∈ t.poison ∧
        t.isF (Reg.ERR_STAT (pageDMC n)) Fld.ERR_STAT_UE = true)) ∧
  (∀ (n : Fin 16) (s : State), let m := s.spareCh
    (s.isF Reg.DMG_SPARE_CTL Fld.DMG_SPARE_CTL_AUTO = false → exec (.sparingTrigger n) s = .next s) ∧
    (s.sparing = false → s.spareState ≠ 1 → exec (.sparingTrigger n) s = .next s) ∧
    (s.isF (Reg.DMC_STAT n.val) Fld.DMC_STAT_DEGRADED = true → s.isF Reg.DMG_SPARE_CTL Fld.DMG_SPARE_CTL_AUTO = true →
      s.channelHeld n.val = false → s.sparing = true → s.spareState = 0 → n.val ≠ m →
      s.isF (Reg.DMC_STAT n.val) Fld.DMC_STAT_PRESENT = true →
      ∃ t : State, exec (.sparingTrigger n) s = .next t ∧ t.spareState = 1 ∧ t.dram.copyWait = some n.val ∧
        t.getF Reg.DMG_SPARE_STAT Fld.DMG_SPARE_STAT_FROM = n.val)) ∧
  (∀ (m : Fin 16) (n : Nat) (s : State), s.boot.st = .running → s.boot.report = none → s.sparing = true → s.spareCh = m.val →
    s.dram.copyWait = some n →
    (s.poolSize none < s.committed none + 40 → ∀ ok, exec (.channelTraining m ok) s = .next s) ∧
    (s.committed none + 40 ≤ s.poolSize none →
      (∃ t : State, exec (.channelTraining m true) s = .next t.settle ∧ t.dram.copy = some ⟨n, m.val⟩ ∧ t.dram.copyWait = none ∧
        t.isF (Reg.DMC_STAT m.val) Fld.DMC_STAT_PRESENT = true) ∧
      (s.triesOf m.val < 2 → ∃ t : State, exec (.channelTraining m false) s = .next t.settle ∧ t.dram.copyWait = some n ∧
        t.triesOf m.val = s.triesOf m.val + 1))) ∧
  (∀ (a : Agent) (v : Word) (s : State) (w : Who), Performed s a w Reg.DMG_SPARE_CTL → v.getLsbD 8 = true →
    let n := v.toNat / 16 % 16
    s.channelHeld n = false →
    (s.spareState = 1 → ∃ t : State, exec (.dmgSpareGo a v) s = .next t.settle ∧ t.dram.copy = s.dram.copy ∧
      t.getF Reg.DMG_SPARE_STAT Fld.DMG_SPARE_STAT_LATE = min 65535 (s.getF Reg.DMG_SPARE_STAT Fld.DMG_SPARE_STAT_LATE + 1)) ∧
    (s.spareState = 0 → s.sparing = true → s.getF Reg.DMG_TOP Fld.DMG_TOP_TOP ≠ 0 → n ≠ s.spareCh →
      s.isF (Reg.DMC_STAT n) Fld.DMC_STAT_PRESENT = true → ∃ t : State, exec (.dmgSpareGo a v) s = .next t.settle ∧ t.spareState = 1 ∧
        t.dram.copyWait = some n ∧ t.getF Reg.DMG_SPARE_STAT Fld.DMG_SPARE_STAT_FROM = n)) ∧
  (∀ (s : State), s.dram.copy = none → exec .sparingCopyEnd s = .next s) ∧
  (∀ (s : State) (c : SpareCopy) (i : Nat), s.dram.copy = some c → i < 15 → c.spare < 16 →
    (∀ j, j < 15 → ((s.rd Reg.DMG_CHMAP).toNat / 2 ^ (4 * j) % 16 = c.target ↔ j = i)) →
    ∃ t : State, exec .sparingCopyEnd s = .next t.settle ∧ (t.rd Reg.DMG_CHMAP).toNat / 2 ^ (4 * i) % 16 = c.spare ∧
      t.isF (Reg.DMC_STAT c.target) Fld.DMC_STAT_PRESENT = false ∧ t.spareState = 2 ∧ t.dram.copy = none ∧
      (∀ l ∈ smGet (fun _ => []) (s.flushQueues c.target).dram.poisonTab c.target, l ∈ t.poison)) ∧
  (∀ (n : Fin 16) (s : State), ∃ t : State, exec (.channelDrain n) s = .next t.settle ∧
    (s.channelWanted n.val = true → t.channelHeld n.val = true) ∧ (s.channelWanted n.val = false → t = s))

/-! ### PCIe and the IOMMU (chapter 15) -/

namespace Sys2Proof.Claims

open Sys2Proof.Machine

/-- The AER status of a link: uncorrectable, or correctable. -/
def aer (s : State) (p l : Nat) (cor : Bool) : Nat := smGet (fun _ => 0) s.io.aer ((p * 4 + l) * 2 + if cor then 1 else 0)

end Sys2Proof.Claims

open Sys2Proof Sys2Proof.Machine Sys2Proof.Claims in
/-- A device request is bound to the lowest matching entry (R359); unbound it is an Unsupported Request, and one that is too long or
crosses 4 KiB is malformed (the model's choice of what is malformed: log 48). A translation that fails is refused with its log and event
(R362, R363); a 4-byte write of a bound requester to the MSI range goes to the router untranslated (R374). Page requests become class-4
events where PRI and PEN allow it (R365). -/
def Obligations.DeviceRequestsAreBoundAndTranslated : Prop :=
  (∀ (s : State) (p rid i : Nat), s.bindRid p rid = some i ↔
    i < 64 ∧ (∀ j, j ≤ i → ((s.isF (Reg.IOM_RTE p j) Fld.IOM_RTE_EN = true ∧
      (rid ^^^ s.getF (Reg.IOM_RTE p j) Fld.IOM_RTE_RID) &&& s.getF (Reg.IOM_RTE p j) Fld.IOM_RTE_MASK = 0) ↔ j = i))) ∧
  (∀ (p : Fin 4) (rid : BitVec 16) (addr : Word) (data : List Byte) (len : Fin 4097) (s : State), data.length ≤ 512 →
    addr.toNat % 4096 + data.length ≤ 4096 → addr.toNat % 4096 + len.val ≤ 4096 →
    (s.bindRid p.val rid.toNat = none → ∀ k, ∃ t l, exec (.inboundRequest p rid k addr data len) s = .next (State.settle t) ∧
      l < s.linkCount p.val ∧ (aer t p.val l false).testBit 20 = true ∧ t.mem = s.mem ∧ t.io.evq = s.io.evq) ∧
    (∀ i, s.bindRid p.val rid.toNat = some i →
      (∀ u e, s.ioAddr p.val i addr.toNat false = (u, .error e) →
        exec (.inboundRequest p rid .memRead addr data len) s = .next (u.ioRefuse p.val i rid.toNat addr.toNat false e).settle) ∧
      (∀ u e, ¬ (data.length = 4 ∧ s.inMsi p.val addr.toNat = true) →
        (s.chargePort p.val i data.length).ioAddr p.val i addr.toNat true = (u, .error e) →
        exec (.inboundRequest p rid .memWrite addr data len) s = .next (u.ioRefuse p.val i rid.toNat addr.toNat true e).settle) ∧
      (∀ u pa mt v, ¬ (data.length = 4 ∧ s.inMsi p.val addr.toNat = true) → data ≠ [] →
        (s.chargePort p.val i data.length).ioAddr p.val i addr.toNat true = (u, .ok (pa, mt)) → pa % 64 + data.length ≤ 64 →
        u.dmaWrite (u.ioReq p.val i) (pa / 64) (BitVec.ofNat 512 (bytesToNat data <<< (8 * (pa % 64)))) (maskBytes (pa % 64) data.length)
          false = (v, none) → exec (.inboundRequest p rid .memWrite addr data len) s = .next v.settle) ∧
      (s.isF (Reg.IOM_RTE p.val i) Fld.IOM_RTE_ATS = false → ∃ t l, exec (.inboundRequest p rid .translatedRead addr data len) s =
        .next (State.settle t) ∧ l < s.linkCount p.val ∧ (aer t p.val l false).testBit 20 = true ∧ t.mem = s.mem))) ∧
  (∀ (p : Fin 4) (rid : BitVec 16) (addr : Word) (data : List Byte) (len : Fin 4097) (s : State), 512 < data.length →
    ∃ t l, exec (.inboundRequest p rid .memWrite addr data len) s = .next (State.settle t) ∧ l < s.linkCount p.val ∧
      (aer t p.val l false).testBit 18 = true ∧ t.link p.val l = 2 ∧ t.mem = s.mem) ∧
  (∀ (s : State) (p i rid iova : Nat) (wr : Bool) (e : IoFail), rid < 2 ^ 16 → i < 64 →
    let t := s.ioRefuse p i rid iova wr e
    t.rd (Reg.ERR_ADDR (pageIOM p)) = BitVec.ofNat 64 iova ∧
    (s.io.evq = [] → s.isF (Reg.IRQ_ROUTE (pageIOM p)) Fld.IRQ_ROUTE_EN = false →
      t.io.evq = if s.isF (Reg.IOM_VEC p i) Fld.IOM_VEC_FEN then
        [⟨s.getF (Reg.IOM_VEC p i) Fld.IOM_VEC_FVEC, s.rteAttr p i % 128, 3, rid, p, BitVec.ofNat 64 (iova / 4096 * 4096 + e.detail wr)⟩]
        else [])) ∧
  (∀ (p : Fin 4) (rid : BitVec 16) (iova : Word) (wr : Bool) (s : State),
    (s.bindRid p.val rid.toNat = none → exec (.iommuWalk p rid iova wr) s = .next s) ∧
    (∀ i u e, s.bindRid p.val rid.toNat = some i → s.ioTranslate p.val i iova.toNat wr = (u, .error e) →
      exec (.iommuWalk p rid iova wr) s = .next u.settle) ∧
    (∀ i x (u : State), s.bindRid p.val rid.toNat = some i → s.ioTranslate p.val i iova.toNat wr = (u, .ok x) → 0 < x.size →
      u.isF (Reg.IOM_S1 p.val i) Fld.IOM_S1_EN = true ∨ u.isF (Reg.IOM_S2 p.val i) Fld.IOM_S2_EN = true →
      ∃ t : State, exec (.iommuWalk p rid iova wr) s = .next t.settle ∧ ∃ e ∈ t.io.iotlb, e.port = p.val ∧ e.ent = i ∧
        e.iova ≤ iova.toNat ∧ iova.toNat < e.iova + e.size ∧ e.pa = x.pa / x.size * x.size)) ∧
  (∀ (p : Fin 4) (rid : BitVec 16) (iova : Word) (s : State),
    (s.bindRid p.val rid.toNat = none → ∃ t l, exec (.atsTranslationRequest p rid iova) s = .next t ∧ l < s.linkCount p.val ∧
      (aer t p.val l false).testBit 20 = true) ∧
    (∀ i, s.bindRid p.val rid.toNat = some i → s.isF (Reg.IOM_RTE p.val i) Fld.IOM_RTE_ATS = false →
      ∃ t l, exec (.atsTranslationRequest p rid iova) s = .next t ∧ l < s.linkCount p.val ∧ (aer t p.val l false).testBit 20 = true) ∧
    (∀ i, s.bindRid p.val rid.toNat = some i → s.isF (Reg.IOM_RTE p.val i) Fld.IOM_RTE_ATS = true →
      (∀ u e, s.ioTranslate p.val i iova.toNat false = (u, .error e) → exec (.atsTranslationRequest p rid iova) s = .next u.settle) ∧
      (∀ u x, s.ioTranslate p.val i iova.toNat false = (u, .ok x) →
        exec (.atsTranslationRequest p rid iova) s = .next (u.ioFill p.val i iova.toNat x).settle))) ∧
  (∀ (p : Fin 4) (rid : BitVec 16) (page : Word) (prg : BitVec 9) (l w r : Bool) (s : State) (i : Nat),
    s.bindRid p.val rid.toNat = some i → let k := Reg.IOM_VEC p.val i
    (s.isF (Reg.IOM_RTE p.val i) Fld.IOM_RTE_PRI = true → s.isF k Fld.IOM_VEC_PEN = true →
      ∃ t : State, exec (.pageRequest p rid page prg l w r) s = .next t.settle ∧ t.io.evq = s.io.evq ++ [⟨s.getF k Fld.IOM_VEC_PVEC,
        s.rteAttr p.val i % 128, 4, rid.toNat, p.val, BitVec.ofNat 64 (page.toNat / 4096 * 4096 + prg.toNat * 8 +
          (if l then 4 else 0) + (if w then 2 else 0) + (if r then 1 else 0))⟩]) ∧
    (s.isF (Reg.IOM_RTE p.val i) Fld.IOM_RTE_PRI = false ∨ s.isF k Fld.IOM_VEC_PEN = false →
      ∃ t : State, exec (.pageRequest p rid page prg l w r) s = .next t.settle ∧ t.rd (Reg.ERR_ADDR (pageIOM p.val)) = page)) ∧
  (∀ (p : Fin 4) (rid : BitVec 16) (addr : Word) (data : BitVec 32) (s : State) (i : Nat), s.bindRid p.val rid.toNat = some i →
    addr.toNat % 4096 ≤ 4092 → s.inMsi p.val addr.toNat = true → ∃ t : State, exec (.msiWrite p rid addr data) s = .next t.settle ∧
      t.mem = s.mem ∧ t.io.evq = s.io.evq ++ [⟨p.val / 2 * 4096 + data.toNat % 4096, s.rteAttr p.val i % 128, 0, rid.toNat, p.val,
        BitVec.ofNat 64 data.toNat⟩])

open Sys2Proof Sys2Proof.Machine Sys2Proof.Claims in
/-- Requester entries, invalidations and page-request responses are written by the requesters the rules name (R360, R365, R366); an
invalidation ends with no covered entry left, or at its timeout with ATS cleared in the entries that did not answer (R366). -/
def Obligations.TheIommuIsConfiguredAndInvalidated : Prop :=
  (∀ (a : Agent) (p : Fin 4) (i : Fin 64) (v : Word) (s : State) (w : Who), Performed s a w (Reg.IOM_RTE p.val i.val) → s.platHOrW w = true →
    let k := Reg.IOM_RTE p.val i.val
    let a0 := s.rteAttr p.val i.val
    let a1 := v.toNat / 2 ^ 32 % 256
    (w.wOrBoot = false → a0 % 64 = 63 ∨ a1 % 64 = 63 → exec (.iomRteWrite a p i v) s = .next (s.denyAt k).settle) ∧
    (s.isF k Fld.IOM_RTE_EN = true → (s.rd k).toNat % 2 ^ 40 ≠ v.toNat % 2 ^ 40 →
      exec (.iomRteWrite a p i v) s = .next (s.denyAt k).settle) ∧
    (s.isF k Fld.IOM_RTE_EN = false → s.attrMayChange w a0 a1 = true → ∃ t : State, exec (.iomRteWrite a p i v) s = .next t.settle ∧
      t.rteAttr p.val i.val = a1 ∧ t.isF k Fld.IOM_RTE_EN = v.getLsbD 40 ∧ t.getF k Fld.IOM_RTE_RID = v.toNat % 65536)) ∧
  (∀ (a : Agent) (p : Fin 4) (v : Word) (s : State) (w : Who), Performed s a w (Reg.IOM_INV p.val) →
    let scope := v.toNat % 4
    let e := v.toNat / 4 % 64
    ((scope = 0 → s.platHOrW w = false) → (scope ≠ 0 → w.hOrW (s.rteCid p.val e) = false) →
      exec (.iomInv a p v) s = .next (s.denyAt (Reg.IOM_INV p.val)).settle) ∧
    ((scope = 0 → s.platHOrW w = true) → (scope ≠ 0 → w.hOrW (s.rteCid p.val e) = true) →
      (s.getF (Reg.IOM_INV_STAT p.val) Fld.IOM_INV_STAT_STATE = 1 → ∃ t : State, exec (.iomInv a p v) s = .next t.settle ∧
        t.io = s.io ∧ t.getF (Reg.IOM_INV_STAT p.val) Fld.IOM_INV_STAT_STATE = 1 ∧ t.getF (Reg.IOM_INV p.val) Fld.IOM_INV_SCOPE = scope ∧
        t.getF (Reg.IOM_INV p.val) Fld.IOM_INV_ENTRY = e ∧ ∀ f, t.forcedF (Reg.IOM_INV p.val) f = s.forcedF (Reg.IOM_INV p.val) f) ∧
      (s.getF (Reg.IOM_INV_STAT p.val) Fld.IOM_INV_STAT_STATE ≠ 1 → v.getLsbD 8 = true →
        ∃ t : State, exec (.iomInv a p v) s = .next t.settle ∧ t.getF (Reg.IOM_INV_STAT p.val) Fld.IOM_INV_STAT_STATE = 1 ∧
          (∀ i, (p.val, i) ∈ t.io.atsWait ↔ i < 64 ∧ (scope = 0 ∨ i = e) ∧
            s.isF (Reg.IOM_RTE p.val i) Fld.IOM_RTE_ATS = true ∧ s.portUp p.val = true)))) ∧
  (∀ (p : Fin 4) (s : State), s.getF (Reg.IOM_INV_STAT p.val) Fld.IOM_INV_STAT_STATE ≠ 1 → exec (.iomInvComplete p) s = .next s) ∧
  (∀ (p : Fin 4) (s : State), s.getF (Reg.IOM_INV_STAT p.val) Fld.IOM_INV_STAT_STATE = 1 →
    let scope := s.forcedF (Reg.IOM_INV p.val) Fld.IOM_INV_SCOPE
    let e := s.forcedF (Reg.IOM_INV p.val) Fld.IOM_INV_ENTRY
    let a := s.forcedF (Reg.IOM_INV p.val) Fld.IOM_INV_ADDR * 4096
    ∃ t : State, exec (.iomInvComplete p) s = .next t ∧ t.getF (Reg.IOM_INV_STAT p.val) Fld.IOM_INV_STAT_STATE = 2 ∧
      (∀ x ∈ t.io.atsWait, x.1 ≠ p.val) ∧
      (∀ x, x ∈ t.io.iotlb ↔ x ∈ s.io.iotlb ∧ ¬ (x.port = p.val ∧ (scope = 0 ∨ (x.ent = e ∧ (scope = 1 ∨
        (scope = 2 ∧ x.ipa ≤ a ∧ a < x.ipa + x.size) ∨ (scope = 3 ∧ x.iova ≤ a ∧ a < x.iova + x.size))))))) ∧
  (∀ (p : Fin 4) (s : State), (∀ x ∈ s.io.atsWait, x.1 ≠ p.val) → exec (.atsInvalidationTimeout p) s = .next s) ∧
  (∀ (p : Fin 4) (s : State) (i : Nat), s.getF (Reg.IOM_INV_STAT p.val) Fld.IOM_INV_STAT_STATE = 1 → (p.val, i) ∈ s.io.atsWait → i < 64 →
    ∃ t : State, exec (.atsInvalidationTimeout p) s = .next t.settle ∧ t.getF (Reg.IOM_INV_STAT p.val) Fld.IOM_INV_STAT_STATE = 3 ∧
      t.isF (Reg.IOM_RTE p.val i) Fld.IOM_RTE_ATS = false ∧ ∀ x ∈ t.io.atsWait, x.1 ≠ p.val) ∧
  (∀ (a : Agent) (p : Fin 4) (v : Word) (s : State) (w : Who), Performed s a w (Reg.IOM_PRGR p.val) →
    (s.bindRid p.val (v.toNat % 65536) = none → exec (.iomPrgr a p v) s = .next (s.denyAt (Reg.IOM_PRGR p.val)).settle) ∧
    (∀ i, s.bindRid p.val (v.toNat % 65536) = some i → s.isF (Reg.IOM_RTE p.val i) Fld.IOM_RTE_PRI = true →
      w.hOrW (s.rteCid p.val i) = true → ∃ t : State, exec (.iomPrgr a p v) s = .next t.settle ∧
        smGet (fun _ => 0) t.io.prgSent p.val = v.toNat % 2 ^ 27 + 1))

open Sys2Proof Sys2Proof.Machine Sys2Proof.Claims in
/-- A held event is posted again, dropped where its vector's attribute has changed, or stays (R377, R381). A selected edge of an input pin
raises its vector (R378). A violation by a partner is noted in AER (its bits: log 18); a malformed TLP also puts the link in DPC until
software releases it, and an IDE failure stops the stream (R379, R380). A link trains with leave and goes down when it is lost (R416,
R15). -/
def Sys2Proof.Claims.HeldEventsPinsAndLinkFaults : Prop :=
  (∀ (d : Fin 2) (s : State) (h : Held), s.io.held = [h] → h.ev.vec / 4096 % 2 = d.val →
    (s.wardenWait (h.ev.attr % 64) = true → ∃ t : State, exec (.heldEventRepost d) s = .next t.settle ∧ t.io.held = [h]) ∧
    (s.wardenWait (h.ev.attr % 64) = false → ∃ t : State, exec (.heldEventRepost d) s = .next t.settle ∧
      match s.postEvent d.val (h.ev.attr % 64) h.queue h.ev with
      | (u, .full) => t.io.held = u.io.held
      | (u, _) => t.io.held = u.io.held.erase h)) ∧
  (∀ (a : Agent) (d : Fin 2) (n : Fin 4096) (v : BitVec 8) (s : State) (w : Who) (h : Held),
    let key := irtKey (d.val * 4096 + n.val)
    Performed s a w key → s.platHOrW w = true → s.attrMayChange w (s.getF key Fld.IRT_ATTR) v.toNat = true →
    s.isF key Fld.IRT_MODE = true ∨ 9 ≤ s.getF key Fld.IRT_ID → s.io.held = [h] → h.ev.vec = d.val * 4096 + n.val →
    h.ev.attr ≠ v.toNat % 128 → ∃ t : State, exec (.secureAttributeWrite a (.vector d n) v) s = .next t.settle ∧
      t.io.held = [] ∧ t.getF Reg.ATL_HEAD Fld.ATL_HEAD_HEAD = (s.getF Reg.ATL_HEAD Fld.ATL_HEAD_HEAD + 1) % 2 ^ Fld.ATL_HEAD_HEAD.w) ∧
  (∀ (n : Fin 16) (level : Bool) (s : State),
    let k := Reg.GPIO_PIN n.val
    let sel := (s.getF k Fld.GPIO_PIN_EDGE).testBit (if level then 0 else 1)
    (s.isF k Fld.GPIO_PIN_IN ≠ level → sel = true → s.isF k Fld.GPIO_PIN_DIR = false → ∃ t : State, exec (.gpioEdge n level) s = .next t.settle ∧
      t.isF k Fld.GPIO_PIN_IN = level ∧ t.io.evq = s.io.evq ++ [⟨s.getF k Fld.GPIO_PIN_VEC, s.getF k Fld.GPIO_PIN_ATTR % 128, 2, n.val, 0,
        if level then 1#64 else 0#64⟩]) ∧
    (s.isF k Fld.GPIO_PIN_IN = level ∨ sel = false ∨ s.isF k Fld.GPIO_PIN_DIR = true → ∃ t : State, exec (.gpioEdge n level) s = .next t ∧
      t.isF k Fld.GPIO_PIN_IN = level ∧ t.io = s.io)) ∧
  (∀ (p l : Fin 4) (s : State),
    (∃ t, exec (.malformedTlp p l) s = .next t ∧ (aer t p.val l.val false).testBit 18 = true ∧ t.link p.val l.val = 2 ∧ t.mem = s.mem) ∧
    (∀ k, ∃ t, exec (.unsupportedRequest p l k) s = .next t ∧ (aer t p.val l.val false).testBit 20 = true ∧ t.mem = s.mem) ∧
    (∃ t, exec (.unexpectedCompletion p l) s = .next t ∧ (aer t p.val l.val true).testBit 13 = true ∧ t.mem = s.mem) ∧
    (∀ b, ∃ t, exec (.acsViolation p l b) s = .next t ∧ (aer t p.val l.val false).testBit 21 = true ∧ t.mem = s.mem) ∧
    (∀ x, ∃ t, exec (.ideIntegrityFailure p l x) s = .next t ∧ (aer t p.val l.val false).testBit 28 = true ∧
      (p.val * 16 + l.val * 4 + x.val) ∈ t.io.ideStopped ∧ t.mem = s.mem) ∧
    (s.link p.val l.val = 2 → ∃ t, exec (.dpcRelease p l) s = .next t ∧ t.link p.val l.val = 0) ∧
    (s.link p.val l.val ≠ 2 → exec (.dpcRelease p l) s = .next s) ∧
    (s.link p.val l.val = 1 → ∃ t, exec (.pcieLinkLoss p l) s = .next t ∧ t.link p.val l.val = 0) ∧
    (s.link p.val l.val ≠ 1 → exec (.pcieLinkLoss p l) s = .next s) ∧
    (s.link p.val l.val = 2 → ∀ ok, exec (.pcieLinkTraining p l ok) s = .next s) ∧
    (s.poolSize none < s.committed none + 30 → ∀ ok, exec (.pcieLinkTraining p l ok) s = .next s) ∧
    (s.linkCount p.val ≤ l.val → ∀ ok, exec (.pcieLinkTraining p l ok) s = .next s) ∧
    (s.link p.val l.val ≠ 2 → l.val < s.linkCount p.val → s.committed none + 30 ≤ s.poolSize none → s.holdsLeave (.pcie p) = false → ∀ ok,
      ∃ t : State, exec (.pcieLinkTraining p l ok) s = .next t ∧ t.link p.val l.val = (if ok then 1 else 0) ∧
        t.power.leaves = s.power.leaves)) ∧
  (∀ (p : Fin 4) (rid : BitVec 16) (addr : Word) (data : List Byte) (s : State), ∃ t l, exec (.poisonedWriteReceived p rid addr data) s =
    .next (State.settle t) ∧ l < s.linkCount p.val ∧ (aer t p.val l false).testBit 12 = true)

/-! ### The DMA engines (chapter 15) -/

open Sys2Proof Sys2Proof.Machine Sys2Proof.Claims in
/-- An enabled engine without a job takes one from its home queue (R367); jobs of the four operations move, fill and sum their bytes (shown
for one line, without translation) and end with a completion (R369 to R373); a job with a reserved field set ends with status 4, one told
to stop with 5, and a poisoned source ends a CRC job with 3. A change of compartment waits for the end of the job in progress (R367). -/
def Obligations.DmaEnginesTakeAndRunJobs : Prop :=
  (∀ (n : Fin 64) (s : State),
    let k := Reg.DMA_CTL n.val
    (s.isF k Fld.DMA_CTL_EN = false ∨ s.dmaJob n.val ≠ none ∨ n.val ∈ s.io.dmaStop → exec (.dmaJobTake n) s = .next s) ∧
    (s.isF k Fld.DMA_CTL_EN = true → s.dmaJob n.val = none → n.val ∉ s.io.dmaStop →
      match s.takeFrom n.val (s.getF k Fld.DMA_CTL_HOMEQ) with
      | (_, .job j) => ∃ t : State, exec (.dmaJobTake n) s = .next t.settle ∧ t.dmaJob n.val = some j ∧
          t.getF (Reg.DMA_STAT n.val) Fld.DMA_STAT_STATE = 1 ∧ t.getF (Reg.DMA_STAT n.val) Fld.DMA_STAT_QID = j.qid % 2 ^ 18
      | (u, .bad) => exec (.dmaJobTake n) s = .next (u.denyAt k).settle
      | (u, .stopped) => exec (.dmaJobTake n) s = .next u.settle
      | (u, .empty) => u.isF k Fld.DMA_CTL_STEALD = false → u.isF k Fld.DMA_CTL_STEALX = false →
          exec (.dmaJobTake n) s = .next u.settle)) ∧
  (∀ (s : State) (n q : Nat), s.inRange (s.dmaCid n) q = false → s.takeFrom n q = (s, .bad)) ∧
  (∀ (n : Fin 64) (s : State), s.dmaJob n.val = none → exec (.dmaCopy n) s = .next s.settle ∧ exec (.dmaFill n) s = .next s.settle ∧
    exec (.dmaCopyCrc n) s = .next s.settle ∧ exec (.dmaCrc n) s = .next s.settle) ∧
  (∀ (i : Fin 64 → Instr) (op : Nat), (i, op) ∈ [(Instr.dmaCopy, 0), (.dmaFill, 1), (.dmaCopyCrc, 2), (.dmaCrc, 3)] →
    ∀ (n : Fin 64) (s : State) (j : DmaJob), s.dmaJob n.val = some j → j.op = op →
      (j.reserved = true → exec (i n) s = .next (s.endJob n.val j ⟨4, 0, j.seed⟩).settle) ∧
      (j.reserved = false → n.val ∈ s.io.dmaStop → exec (i n) s = .next (s.endJob n.val j ⟨5, 0, j.seed⟩).settle) ∧
      (j.reserved = false → n.val ∉ s.io.dmaStop → j.len = 0 → exec (i n) s = .next (s.endJob n.val j ⟨0, 0, j.seed⟩).settle)) ∧
  (∀ (n : Fin 64) (s : State) (j : DmaJob), s.dmaJob n.val = some j → j.reserved = false → n.val ∉ s.io.dmaStop →
    s.forcedF (Reg.DMA_XLAT n.val) Fld.DMA_XLAT_EN = 0 → 0 < j.len →
    (∀ u, j.op = 1 → j.dst % 64 + j.len ≤ 64 → s.dmaTarget (some n.val) j.dst .wb = .ok .mem →
      s.dmaWrite (dmaReq n.val j) (j.dst / 64) (BitVec.ofNat 512 (bytesToNat ((natsFrom 0 j.len).map
          (fun i => patternByte j.src (j.dst + i))) <<< (8 * (j.dst % 64)))) (maskBytes (j.dst % 64) j.len) false = (u, none) →
      exec (.dmaFill n) s = .next (u.endJob n.val j ⟨0, j.len, j.seed⟩).settle) ∧
    (∀ u d p, j.op = 3 → j.src % 64 + j.len ≤ 64 → s.dmaTarget (some n.val) j.src .wb = .ok .mem →
      s.dmaRead (dmaReq n.val j) (j.src / 64) = (u, .ok (d, p)) →
      (p = false → exec (.dmaCrc n) s =
        .next (u.endJob n.val j ⟨0, j.len, crcBytes j.seed (natToBytes j.len (d.toNat >>> (8 * (j.src % 64))))⟩).settle) ∧
      (p = true → exec (.dmaCrc n) s = .next (u.endJob n.val j ⟨3, 0, j.seed⟩).settle)) ∧
    (∀ (u v : State) d p, j.src % 64 + j.len ≤ 64 → j.dst % 64 + j.len ≤ 64 →
      s.dmaTarget (some n.val) j.src .wb = .ok .mem → s.dmaRead (dmaReq n.val j) (j.src / 64) = (u, .ok (d, p)) →
      let bytes := natToBytes j.len (d.toNat >>> (8 * (j.src % 64)))
      u.forcedF (Reg.DMA_XLAT n.val) Fld.DMA_XLAT_EN = 0 → u.dmaTarget (some n.val) j.dst .wb = .ok .mem →
      (j.op = 2 → p = true → exec (.dmaCopyCrc n) s = .next (u.endJob n.val j ⟨3, 0, j.seed⟩).settle) ∧
      (u.dmaWrite (dmaReq n.val j) (j.dst / 64) (BitVec.ofNat 512 (bytesToNat bytes <<< (8 * (j.dst % 64))))
          (maskBytes (j.dst % 64) j.len) p = (v, none) →
        (j.op = 0 → exec (.dmaCopy n) s = .next (v.endJob n.val j ⟨0, j.len, j.seed⟩).settle) ∧
        (j.op = 2 → p = false → exec (.dmaCopyCrc n) s = .next (v.endJob n.val j ⟨0, j.len, crcBytes j.seed bytes⟩).settle)))) ∧
  (∀ (s : State) (n : Nat) (j : DmaJob) (e : JobEnd), (s.endJob n j e).dmaJob n = none ∧
    (j.caddr = 0 → (j.at 0x30).testBit 18 = false → (s.endJob n j e).mem = s.mem ∧
      (∀ f, (s.endJob n j e).forcedF (Reg.DMA_ATTR n) f = s.getF (Reg.DMA_ATTR n) f ∧
        (s.endJob n j e).forcedF (Reg.DMA_XLAT n) f = s.getF (Reg.DMA_XLAT n) f) ∧
      (s.endJob n j e).getF (Reg.DMA_STAT n) Fld.DMA_STAT_STATE = if n ∈ s.io.dmaStop then 3 else 0)) ∧
  (∀ (j : DmaJob) (e : JobEnd), e.status < 256 → (recordBytes j e).length = 16 ∧ leN (recordBytes j e) 0 1 = e.status ∧
    leN (recordBytes j e) 1 5 = e.bytes % 2 ^ 40 ∧ leN (recordBytes j e) 8 8 = if 2 ≤ j.op then e.crc % 2 ^ 64 else 0) ∧
  (∀ (a : Agent) (n : Fin 64) (v : Word) (s : State) (w : Who), Performed s a w (Reg.DMA_ATTR n.val) →
    let old := s.getF (Reg.DMA_ATTR n.val) Fld.DMA_ATTR_ATTR
    let new := v.toNat % 256
    (s.attrMayChange w old new = false → exec (.dmaAttrWrite a n v) s = .next (s.denyAt (Reg.DMA_ATTR n.val)).settle) ∧
    (s.attrMayChange w old new = true →
      ∃ t : State, exec (.dmaAttrWrite a n v) s = .next t.settle ∧ t.getF (Reg.DMA_ATTR n.val) Fld.DMA_ATTR_ATTR = new ∧
        (s.dmaJob n.val ≠ none → t.dmaAttr n.val = s.dmaAttr n.val) ∧
        (s.dmaJob n.val = none → (∀ e ∈ s.latched, e.1 ≠ Reg.DMA_ATTR n.val) → t.dmaAttr n.val = new)))

/-! ### The fabric's links (chapter 16) -/

namespace Sys2Proof.Claims

open Sys2Proof.Machine

/-- Sequence number `a` lies before `n` in the window of 2,048 frames (R387). -/
def behindSeq (a : BitVec 12) (n : Nat) : Prop := 0 < (n + 4096 - a.toNat) % 4096 ∧ (n + 4096 - a.toNat) % 4096 ≤ 2048

end Sys2Proof.Claims

open Sys2Proof Sys2Proof.Machine Sys2Proof.Claims in
/-- An acknowledgement frees the frames up to the one named; a CRC error is answered with a NAK of reason 0 for the first frame not
accepted and counts no violation, and more than 256 within 1 ms start a retrain; a NAK of reason 0 has the frame named and every later one
sent again, any other names a frame that the partner discarded (R387). A frame leaves when its VC's credits cover its header, payload and
trailer cells, fewer than 2,048 frames are unacknowledged and the replay buffer has its cells (what a cell of it holds: log 172), and
takes the next sequence number (R387, R388). -/
def Obligations.FramesAreSequencedReplayedAndCredited : Prop :=
  (∀ (p : Fin 6) (seq : BitVec 12) (s : State), (s.fabPort p.val).waitq = [] → ∃ t, exec (.ack p seq) s = .next t ∧
    (∀ f, f ∈ (t.fabPort p.val).replay ↔ f ∈ (s.fabPort p.val).replay ∧ ¬behindSeq f.seq (seq.toNat + 1)) ∧
    (t.fabPort p.val).credits = (s.fabPort p.val).credits ∧ (∀ q, q ≠ p.val → t.fabPort q = s.fabPort q)) ∧
  (∀ (p : Fin 6) (s : State), s.fabUp p.val = true → ∃ t : State, exec (.frameCrcError p) s = .next t ∧
    (t.fabPort p.val).nakDue = some ((s.fabPort p.val).expect, 0) ∧
    t.getF (Reg.FAB_PORT_STAT p.val) Fld.FAB_PORT_STAT_VIOL = s.getF (Reg.FAB_PORT_STAT p.val) Fld.FAB_PORT_STAT_VIOL ∧
    t.fabState p.val = if 256 ≤ ((s.fabPort p.val).crcErrs.filter (fun e => decide (s.now ≤ e + 1000000))).length then 4 else 2) ∧
  (∀ (p : Fin 6) (s : State), s.fabUp p.val = false → exec (.frameCrcError p) s = .next s) ∧
  (∀ (p : Fin 6) (seq : BitVec 12) (r : BitVec 4) (s : State), (∀ f ∈ (s.fabPort p.val).replay, f.seq ≠ seq) →
    exec (.nak p seq r) s = .next s) ∧
  (∀ (p : Fin 6) (seq : BitVec 12) (r : BitVec 4) (s : State), (∃ f ∈ (s.fabPort p.val).replay, f.seq = seq) → (s.fabPort p.val).waitq = [] →
    ∃ t : State, exec (.nak p seq r) s = .next t ∧
      (r = 0#4 → (t.fabPort p.val).replayFrom = some seq.toNat ∧
        (∀ f, f ∈ (t.fabPort p.val).replay ↔ f ∈ (s.fabPort p.val).replay ∧ ¬behindSeq f.seq seq.toNat)) ∧
      (r ≠ 0#4 → (∀ f, f ∈ (t.fabPort p.val).replay ↔ f ∈ (s.fabPort p.val).replay ∧ f.seq ≠ seq))) ∧
  (∀ (p : Fin 6) (vc : Fin 4) (cells : BitVec 16) (s : State), (s.fabPort p.val).credits.length = 4 →
    let c := min 512 ((s.fabPort p.val).credits.getD vc.val 0 + cells.toNat)
    ((s.fabPort p.val).waitq = [] → ∃ t : State, exec (.creditReturn p vc cells) s = .next t ∧
      (t.fabPort p.val).credits.getD vc.val 0 = c ∧ (t.fabPort p.val).replay = (s.fabPort p.val).replay) ∧
    (∀ f : Frame, (s.fabPort p.val).waitq = [f] → f.vc.toNat = vc.val → s.fabUp p.val = true →
      let held := (s.fabPort p.val).replay.foldl (fun a g => a + (g.ncell.toNat + 2)) 0
      ∃ t : State, exec (.creditReturn p vc cells) s = .next t ∧
      (f.ncell.toNat + 2 ≤ c → (s.fabPort p.val).replay.length < 2048 → held + (f.ncell.toNat + 2) ≤ 4096 →
        (t.fabPort p.val).waitq = [] ∧ (t.fabPort p.val).credits.getD vc.val 0 = c - (f.ncell.toNat + 2) ∧
        (t.fabPort p.val).nextSeq = ((s.fabPort p.val).nextSeq + 1) % 4096 ∧
        (t.fabPort p.val).replay = (s.fabPort p.val).replay ++ [{ f with seq := BitVec.ofNat 12 (s.fabPort p.val).nextSeq }]) ∧
      (c < f.ncell.toNat + 2 ∨ 2048 ≤ (s.fabPort p.val).replay.length ∨ 4096 < held + (f.ncell.toNat + 2) → (t.fabPort p.val).waitq = [f] ∧
        (t.fabPort p.val).replay = (s.fabPort p.val).replay)))

open Sys2Proof Sys2Proof.Machine Sys2Proof.Claims in
/-- A frame that breaks the protocol is discarded, answered with a NAK that carries the reason of the table, and counted as one violation
of its port (R409); sixteen within 1 ms quarantine the port (R410). A frame's SRC must lie behind the child port, outside the device's own
subtree at the parent port, and differ from NODE in a ring (R393). A lost link's port is down and its unacknowledged frames are gone (R392). -/
def Obligations.ViolationsAreCountedAndQuarantineThePort : Prop :=
  (∀ (p : Fin 6) (f : Frame) (r : Fin 10) (s : State),
    (s.fabUp p.val = false ∨ r.val = 0 → exec (.fabViolation p f r) s = .next s) ∧
    (s.fabUp p.val = true → r.val ≠ 0 → ∃ t : State, exec (.fabViolation p f r) s = .next t.settle ∧
      (t.fabPort p.val).nakDue = some (f.seq.toNat, r.val) ∧ (t.fabPort p.val).replay = (s.fabPort p.val).replay ∧
      t.getF (Reg.FAB_PORT_STAT p.val) Fld.FAB_PORT_STAT_VIOL =
        min (2 ^ Fld.FAB_PORT_STAT_VIOL.w - 1) (s.getF (Reg.FAB_PORT_STAT p.val) Fld.FAB_PORT_STAT_VIOL + 1) ∧
      (t.fabPort p.val).viols.length = ((s.fabPort p.val).viols.filter (fun e => decide (s.now ≤ e + 1000000))).length + 1)) ∧
  (∀ (s : State) (p : Nat) (f : Frame),
    let ok := f.typ.toNat ∈ [0x01, 0x02, 0x03, 0x11, 0x12, 0x13, 0x21, 0x22, 0x23, 0x24, 0x25, 0x30, 0x31]
    (¬ok → s.frameFault p f = 1) ∧
    (ok → f.vc.toNat ≠ (if f.typ.toNat < 0x10 then 0 else if f.typ.toNat < 0x20 then 1 else if f.typ.toNat < 0x30 then 2 else 3) →
      s.frameFault p f = 2) ∧
    (s.frameFault p f = 0 → s.ring = true → f.src.toNat ≠ s.node) ∧
    (s.frameFault p f = 0 → s.ring = false → s.isF (Reg.FABG_SUB p) Fld.FABG_SUB_EN = true →
      s.getF (Reg.FABG_SUB p) Fld.FABG_SUB_LO ≤ f.src.toNat ∧ f.src.toNat ≤ s.getF (Reg.FABG_SUB p) Fld.FABG_SUB_HI)) ∧
  (∀ (i : Fin 6 → Frame → Instr) (ty : BitVec 8), (i, ty) ∈ [(Instr.push, 0x01#8), (.windowPut, 0x02#8), (.getReq, 0x03#8),
      (.pushRsp, 0x11#8), (.putRsp, 0x12#8), (.getRsp, 0x13#8), (.arrive, 0x21#8), (.release, 0x22#8), (.bcast, 0x23#8), (.snap, 0x24#8)] →
    ∀ (p : Fin 6) (f : Frame) (s : State), f.typ = ty → s.fabUp p.val = true → s.frameFault p.val f ≠ 0 →
      exec (i p f) s = .next (s.violate p.val f (s.frameFault p.val f)).settle) ∧
  (∀ (p : Fin 6) (s : State), (s.fabState p.val = 0 → exec (.linkLost p) s = .next s) ∧
    (s.fabState p.val ≠ 0 → ∃ t : State, exec (.linkLost p) s = .next t.settle ∧ t.fabState p.val = 0 ∧ (t.fabPort p.val).replay = [])) ∧
  (∀ (p : Fin 6) (s : State), let n := ((s.fabPort p.val).viols.filter (fun t => decide (s.now ≤ t + 1000000))).length
    (s.fabUp p.val = false ∨ n < 16 → exec (.portQuarantine p) s = .next s) ∧
    (s.fabUp p.val = true → 16 ≤ n → ∃ t : State, exec (.portQuarantine p) s = .next t.settle ∧ t.fabState p.val = 3 ∧
      (t.fabPort p.val).replay = []))

open Sys2Proof Sys2Proof.Machine Sys2Proof.Claims in
/-- A port trains with leave and comes up where training succeeds and both ends agree on RING; a refused leave leaves it in STATE 1, and
the third failure in a row in STATE 5 (R383). RETRAIN and UNQ start it over (R383, R410). A link is never narrowed beyond MINW (R384). -/
def Obligations.PortsTrainWithLeave : Prop :=
  (∀ (p : Fin 6) (ok ring : Bool) (s : State), let st := s.fabState p.val
    (s.isF (Reg.FAB_PORT_CTL p.val) Fld.FAB_PORT_CTL_EN = false ∨ st ∉ [0, 1, 4] → exec (.fabLinkTraining p ok ring) s = .next s) ∧
    (∀ u : State, s.isF (Reg.FAB_PORT_CTL p.val) Fld.FAB_PORT_CTL_EN = true → st ∈ [0, 1, 4] →
      (s.askLeave (.fabric p) = (u, false) → ∃ t : State, exec (.fabLinkTraining p ok ring) s = .next t ∧ t.fabState p.val = 1) ∧
      (s.askLeave (.fabric p) = (u, true) →
        (ok = true → ring = s.ring → ∃ t : State, exec (.fabLinkTraining p ok ring) s = .next t.settle ∧ t.fabState p.val = 2 ∧
          (t.fabPort p.val).tries = 0) ∧
        (ok = false ∨ ring ≠ s.ring →
          ((s.fabPort p.val).tries < 2 → ∃ t : State, exec (.fabLinkTraining p ok ring) s = .next t ∧
            (t.fabPort p.val).tries = (s.fabPort p.val).tries + 1 ∧ t.fabState p.val = if st = 4 then 4 else 1) ∧
          (2 ≤ (s.fabPort p.val).tries → ∃ t : State, exec (.fabLinkTraining p ok ring) s = .next t.settle ∧ t.fabState p.val = 5 ∧
            (t.fabPort p.val).replay = []))))) ∧
  (∀ (a : Agent) (p : Fin 6) (v : Word) (s : State) (w : Who), Performed s a w (Reg.FAB_PORT_CTL p.val) → v.getLsbD 0 = true →
    (s.fabState p.val = 3 → v.getLsbD 2 = true → ∃ t : State, exec (.fabUnq a p v) s = .next t.settle ∧ t.fabState p.val = 1 ∧
      (t.fabPort p.val).viols = [] ∧ (t.fabPort p.val).tries = 0) ∧
    (s.fabState p.val = 3 → v.getLsbD 2 = false → ∃ t : State, exec (.fabUnq a p v) s = .next t.settle ∧ t.fabState p.val = 3) ∧
    (s.fabState p.val ≠ 3 → v.getLsbD 1 = true → ∃ t : State, exec (.fabRetrain a p v) s = .next t.settle ∧
      (t.fabPort p.val).tries = 0 ∧ t.fabState p.val = if s.fabState p.val = 2 then 4 else 1) ∧
    (s.fabState p.val = 5 → v.getLsbD 1 = false → ∃ t : State, exec (.fabRetrain a p v) s = .next t.settle ∧ t.fabState p.val = 5)) ∧
  (∀ (p : Fin 6) (node : BitVec 18) (port : Fin 6) (ring : Bool) (s : State), ∃ t, exec (.hello p node port ring) s = .next t ∧
    (t.fabPort p.val).helloOk = decide (ring = s.ring) ∧ t.regs = s.regs) ∧
  (∀ (p : Fin 6) (w : Fin 3) (s : State),
    let old := s.getF (Reg.FAB_PORT_STAT p.val) Fld.FAB_PORT_STAT_WIDTH
    (s.fabUp p.val = true → w.val ≤ s.getF (Reg.FAB_PORT_CTL p.val) Fld.FAB_PORT_CTL_MINW → old ≠ w.val →
      ∃ t : State, exec (.fabWidthChange p w) s = .next t.settle ∧ t.getF (Reg.FAB_PORT_STAT p.val) Fld.FAB_PORT_STAT_WIDTH = w.val) ∧
    (s.fabUp p.val = false ∨ s.getF (Reg.FAB_PORT_CTL p.val) Fld.FAB_PORT_CTL_MINW < w.val ∨ old = w.val →
      exec (.fabWidthChange p w) s = .next s.settle))

open Sys2Proof Sys2Proof.Machine Sys2Proof.Claims in
/-- The timebase exchange (R407, R408): the child at the parent's link takes the offset ((t2 - t1) - (t4 - t3)) / 2 off its timebase, at
once where it exceeds 1 µs (a timebase write) and slewed otherwise (in one piece of at most 100 ppm of a period, log 22), and is locked
with a bound of 4 ns a hop; after 10 ms without an exchange it is in holdover, after 60 s there it is lost, and IRQ_STAT.SYNC of the
ledger's page is set when it leaves "locked". -/
def Sys2Proof.Claims.TheTimebaseFollowsItsParent : Prop :=
  (∀ (p : Fin 6) (s : State),
    (s.fabUp p.val = false ∨ s.isF Reg.FABG_NODE Fld.FABG_NODE_EN = false → exec (.syncExchangeStart p) s = .next s) ∧
    (s.fabUp p.val = true → s.isF Reg.FABG_NODE Fld.FABG_NODE_EN = true → ∃ t, exec (.syncExchangeStart p) s = .next t ∧
      (t.fabPort p.val).syncAt = some s.tb ∧ t.tb = s.tb ∧ t.regs = s.regs)) ∧
  (∀ (p : Fin 6) (t1 t2 t3 t4 : Word) (hops : BitVec 18) (s : State),
    s.isF Reg.FABG_NODE Fld.FABG_NODE_EN = true → s.fabState p.val ≠ 0 →
    let off : Int := ((t2.toNat : Int) - t1.toNat - ((t4.toNat : Int) - t3.toNat)) / 2
    (p.val ≠ s.upPort ∨ s.isF Reg.FABG_SYNC Fld.FABG_SYNC_MASTER = true → ∃ t, exec (.sync p t1 t2 t3 t4 hops) s = .next t ∧
      t.tb = s.tb ∧ t.regs = s.regs ∧ (t.fabPort p.val).syncAt = none) ∧
    (p.val = s.upPort → s.isF Reg.FABG_SYNC Fld.FABG_SYNC_MASTER = false → ∃ t : State, exec (.sync p t1 t2 t3 t4 hops) s = .next t ∧
      t.getF Reg.FABG_SYNC Fld.FABG_SYNC_STATE = 1 ∧ t.syncErr = 4 * hops.toNat ∧ t.fab.lastSync = t.tb.toNat ∧
      (off.natAbs > 1000 → t.tb = BitVec.ofInt 64 ((s.tb.toNat : Int) - off) ∧ t.isF Reg.TBC_STAT Fld.TBC_STAT_STEPPED = true) ∧
      (off.natAbs ≤ 1000 → off.natAbs ≤ s.slewMax → t.tb = BitVec.ofInt 64 ((s.tb.toNat : Int) - off) ∧
        (s.ledger.metering = false → t.ledger = s.ledger) ∧
        (∀ T, T % 60000000000 = 0 → s.ledger.metering = true → s.ledger.closing = none → off < 0 → s.tb.toNat + 1000 < 2 ^ 64 →
          s.tb.toNat < T → T < t.tb.toNat → ∃ c, t.ledger.closing = some c ∧ c.tbEnd.toNat = T)))) ∧
  (∀ s : State,
    (s.getF Reg.FABG_SYNC Fld.FABG_SYNC_STATE ∉ [0, 1] ∨ (s.getF Reg.FABG_SYNC Fld.FABG_SYNC_STATE = 0 ∧ s.alone = true) ∨ s.isF Reg.FABG_SYNC Fld.FABG_SYNC_MASTER = true ∨ s.now < s.fab.lastSync + 10000000 →
      exec .syncHoldover s = .next s) ∧
    ((s.getF Reg.FABG_SYNC Fld.FABG_SYNC_STATE = 1 ∨ s.getF Reg.FABG_SYNC Fld.FABG_SYNC_STATE = 0 ∧ s.alone = false) → s.isF Reg.FABG_SYNC Fld.FABG_SYNC_MASTER = false → s.fab.lastSync + 10000000 ≤ s.now →
      ∃ t : State, exec .syncHoldover s = .next t.settle ∧ t.getF Reg.FABG_SYNC Fld.FABG_SYNC_STATE = 2 ∧
        t.syncErr = min 0xFFFFFFFF (4 * s.fab.hops + 50 * (s.now - s.fab.lastSync) / 1000000000) ∧
        (s.getF Reg.FABG_SYNC Fld.FABG_SYNC_STATE = 1 → (t.rd (Reg.IRQ_STAT 0x11)).getLsbD 5 = true)) ∧
    (s.getF Reg.FABG_SYNC Fld.FABG_SYNC_STATE ≠ 2 ∨ s.now < s.fab.lastSync + 60010000000 → exec .syncLost s = .next s) ∧
    (s.getF Reg.FABG_SYNC Fld.FABG_SYNC_STATE = 2 → s.fab.lastSync + 60010000000 ≤ s.now → ∃ t : State, exec .syncLost s = .next t ∧
      t.getF Reg.FABG_SYNC Fld.FABG_SYNC_STATE = 3 ∧ t.syncErr = 0xFFFFFFFF))

/-! ### What the fabric carries (chapter 16) -/

namespace Sys2Proof.Claims

open Sys2Proof.Machine

/-- The next frame in sequence of a port that is up, breaking no rule, taken: `t` is the state behind it (R387, R409). -/
def Taken (s : State) (p : Fin 6) (f : Frame) (ty : BitVec 8) (t : State) : Prop :=
  s.fabUp p.val = true ∧ f.typ = ty ∧ s.frameFault p.val f = 0 ∧ f.seq.toNat = (s.fabPort p.val).expect ∧
  t = s.setFabPort p.val { s.fabPort p.val with expect := ((s.fabPort p.val).expect + 1) % 4096 }

/-- A taken frame that is for this node. -/
def Arrived (s : State) (p : Fin 6) (f : Frame) (ty : BitVec 8) (t : State) : Prop :=
  Taken s p f ty t ∧ f.dst.toNat = s.node

/-- The response of this node to a request: back to its source, with its request ID, domain and tag (R385, R386). -/
def responseTo (s : State) (f : Frame) (ty : BitVec 8) (st : Nat) (data : List Byte) (poison : BitVec 8) : Frame :=
  { typ := ty, vc := 1, ncell := BitVec.ofNat 4 ((data.length + 31) / 32), seq := 0, dst := f.src, src := BitVec.ofNat 18 s.node,
    fdom := f.fdom, tag := f.tag, opid := f.opid, aux := BitVec.ofNat 8 st, addr := 0, opnd := 0, payload := data, poison := poison }

/-- A member compartment's one command, unstarted, of operation `op` for the group entry `e`, well formed (R397, R401). -/
def OneCommand (s : State) (c : CompId) (x : FxcCmd) (op e : Nat) : Prop :=
  s.isF (Reg.FXC_ACC c.val) Fld.FXC_ACC_EN = true ∧ s.fxcCmds c.val = [x] ∧ x.started = false ∧ x.status = none ∧ x.op = op ∧
  x.reserved = false ∧ x.grp = e ∧ s.isF (Reg.FABG_GRP e) Fld.FABG_GRP_EN = true ∧ s.grpMember e = true ∧ s.grpCid e = c.val

end Sys2Proof.Claims

open Sys2Proof Sys2Proof.Machine Sys2Proof.Claims in
/-- A ring's frame leaves by DN where d ≤ N/2 and by UP otherwise, and by the other port where that one is down (R391). A frame for another
node is sent onward in the slots of its domain's compartment; one without a slot is violation reason 9 at the receiving port (R394), one
without a route reason 6 (R409). A response goes back to its request's source. A remote push is refused with st 2 and counted unless the
queue lies in a compartment's range, V = 1, REMOTE = 1, LVL = 0 and the RKEYs agree (R257), and its pusher gets the status (R239). -/
def Obligations.FramesAreRoutedAndRemotePushesChecked : Prop :=
  (∀ (s : State) (dst : Nat), s.ring = true → dst ≠ s.node → 0 < s.getF Reg.FABG_NODE Fld.FABG_NODE_RINGN →
    s.node < s.getF Reg.FABG_NODE Fld.FABG_NODE_RINGN → dst < s.getF Reg.FABG_NODE Fld.FABG_NODE_RINGN →
    let n := s.getF Reg.FABG_NODE Fld.FABG_NODE_RINGN
    let dn := (((dst : Int) - s.node) % n).toNat ≤ n / 2
    (s.fabUp s.dnPort = true → s.fabUp s.upPort = true → s.routeTo dst = if dn then .port s.dnPort else .port s.upPort) ∧
    (s.fabLive s.dnPort = false → s.fabUp s.upPort = true → s.routeTo dst = .port s.upPort) ∧
    (s.fabUp s.dnPort = true → s.fabLive s.upPort = false → s.routeTo dst = .port s.dnPort) ∧
    (s.fabLive s.dnPort = false → s.fabLive s.upPort = false → s.routeTo dst = .none)) ∧
  (∀ (s : State) (dst : Nat), s.ring = false → dst ≠ s.node → (∀ k, k < 6 → s.behind k dst = false) → s.upPort < 6 →
    s.routeTo dst = .port s.upPort) ∧
  (∀ (s : State) (dst k : Nat), s.ring = false → dst ≠ s.node → k < 6 → s.behind k dst = true → (∀ j, j < k → s.behind j dst = false) →
    s.routeTo dst = .port k) ∧
  (∀ (p : Fin 6) (f : Frame) (s t : State) (q : Nat), Taken s p f 0x01#8 t → f.dst.toNat ≠ s.node → t.routeTo f.dst.toNat = .port q →
    s.fabUp q = true →
    exec (.push p f) s = .next (if t.fabSlot q ((t.fdomComp f.fdom.toNat).getD 0) then t.sendOn q f else t.violate p.val f 9).settle) ∧
  (∀ (p : Fin 6) (f : Frame) (s t : State), Taken s p f 0x01#8 t → f.dst.toNat ≠ s.node → t.routeTo f.dst.toNat = .none → s.ring = false →
    exec (.push p f) s = .next (t.violate p.val f 6).settle) ∧
  (∀ (s : State) (c : Nat) (f : Frame) (ty : BitVec 8) (st : Nat) (data : List Byte) (poison : BitVec 8) (q : Nat),
    s.routeTo f.src.toNat = .port q → s.fabUp q = true → s.fabSlot q c = true →
    s.respond c f ty st data poison = (s.sendOn q (responseTo s f ty st data poison), .sent q)) ∧
  (∀ (p : Fin 6) (f : Frame) (s t u : State) (st : Nat), Arrived s p f 0x01#8 t →
    t.remotePush (some p.val) (f.addr.toNat % 2 ^ 18) f (some f.opnd) = (u, st) →
    exec (.push p f) s = .next (u.respond ((u.queueComp (f.addr.toNat % 2 ^ 18)).getD 0) f 0x11#8 st [] 0#8).1.settle) ∧
  (∀ (s : State) (p q : Nat) (f : Frame) (key : Option Word), s.queueComp q = none →
    s.remotePush (some p) q f key = (s.countRefused p, 2)) ∧
  (∀ (s u : State) (p q c : Nat) (f : Frame) (d : Desc), s.queueComp q = some c → s.readDesc (fabReq p c none) c q = (u, .ok d) →
    let refused := d.encoded = false ∨ d.ctl.getLsbD 9 = false ∨ d.lvl ≠ 0 ∨ d.cid ≠ c ∨ f.opnd ≠ d.rkey
    (refused → s.remotePush (some p) q f (some f.opnd) = (u.countRefused p, 2)) ∧
    (¬refused →
      let fr := ((payloadFrame f).put 0x38 (putN ((payloadFrame f).at 0x38) 0 16 d.tag)).put 0xF0 0#64
      match u.pushQ (fabReq p c (some (c, d.tag))) none 0 c q d fr with
      | (v, .done) => s.remotePush (some p) q f (some f.opnd) = (v.chargeFab p (some (c, d.tag)) 6 256, 0)
      | (v, .full) => s.remotePush (some p) q f (some f.opnd) = (v, 1)
      | (_, _) => (s.remotePush (some p) q f (some f.opnd)).2 ∉ [0, 1])) ∧
  (∀ (p : Fin 6) (f : Frame) (s t : State), Arrived s p f 0x11#8 t →
    (t.pusher f.opid = none → exec (.pushRsp p f) s = .next t) ∧
    (∀ c, t.pusher f.opid = some c → ∃ u : State, exec (.pushRsp p f) s = .next u ∧ (u.core c).run = .running ∧ (u.core c).remote = none ∧
      (u.core c).stack = BitVec.ofNat 64 f.aux.toNat :: (s.core c).stack ∧ (∀ k, k ≠ c → u.core k = s.core k))) ∧
  (∀ (c : CoreId) (s : State),
    ((s.core c.val).run ≠ .pushing ∨ (s.core c.val).remote = none → exec (.remotePushTimeout c) s = .next s) ∧
    ((s.core c.val).run = .pushing → (s.core c.val).remote ≠ none → ∃ u : State, exec (.remotePushTimeout c) s = .next u ∧
      (u.core c.val).run = .running ∧ (u.core c.val).remote = none ∧ (u.core c.val).stack = 3#64 :: (s.core c.val).stack))

open Sys2Proof Sys2Proof.Machine Sys2Proof.Claims in
/-- A PUT or GET is accepted by a window that is enabled, whose domain and key agree, that grants the access and that the access lies
within; it is performed through the home slice, charged to the window's key and answered with status 0; any other is answered with
status 5 and counted in REFUSED (R396), as is a GET of more than 256 bytes (the model's choice: log 172). Shown for an access within one
line. -/
def Obligations.WindowsAnswerPutsAndGets : Prop :=
  (∀ (s : State) (c i o n : Nat) (key : Word) (wr : Bool), s.windowOk c i o n key wr = true ↔
    s.isF (Reg.FXC_WIN_CTL c i) Fld.FXC_WIN_CTL_EN = true ∧ key = s.rd (Reg.FXC_WIN_KEY c i) ∧
      o + n ≤ s.getF (Reg.FXC_WIN_SIZE c i) Fld.FXC_WIN_SIZE_SIZE ∧
      (wr = true → s.isF (Reg.FXC_WIN_CTL c i) Fld.FXC_WIN_CTL_W = true) ∧ (wr = false → s.isF (Reg.FXC_WIN_CTL c i) Fld.FXC_WIN_CTL_R = true)) ∧
  (∀ (p : Fin 6) (f : Frame) (s t : State), Arrived s p f 0x02#8 t →
    (t.fdomComp f.fdom.toNat = none → exec (.windowPut p f) s = .next ((t.countRefused p.val).respond 0 f 0x12#8 5 [] 0#8).1.settle) ∧
    (∀ c, t.fdomComp f.fdom.toNat = some c →
      (16 ≤ f.aux.toNat ∨ t.windowOk c f.aux.toNat f.addr.toNat f.payload.length f.opnd true = false →
        exec (.windowPut p f) s = .next ((t.countRefused p.val).respond c f 0x12#8 5 [] 0#8).1.settle) ∧
      (∀ pa u, f.aux.toNat < 16 → t.windowOk c f.aux.toNat f.addr.toNat f.payload.length f.opnd true = true →
        f.payload ≠ [] → f.addr.toNat % 64 + f.payload.length ≤ 64 → f.poison = 0#8 →
        let key := some (c, t.getF (Reg.FXC_WIN_SIZE c f.aux.toNat) Fld.FXC_WIN_SIZE_TAG)
        t.packed c (t.getF (Reg.FXC_WIN_CTL c f.aux.toNat) Fld.FXC_WIN_CTL_BASE * 2 ^ 18) f.addr.toNat = some pa →
        t.dmaWrite (fabReq p.val c key) (pa / 64) (BitVec.ofNat 512 (bytesToNat f.payload <<< (8 * (pa % 64))))
            (maskBytes (pa % 64) f.payload.length) false = (u, none) →
        exec (.windowPut p f) s = .next ((u.chargeFab p.val key 6 f.payload.length).respond c f 0x12#8 0 [] 0#8).1.settle))) ∧
  (∀ (p : Fin 6) (f : Frame) (s t : State), Arrived s p f 0x03#8 t →
    (t.fdomComp f.fdom.toNat = none → exec (.getReq p f) s = .next ((t.countRefused p.val).respond 0 f 0x13#8 5 [] 0#8).1.settle) ∧
    (∀ c, t.fdomComp f.fdom.toNat = some c →
      (16 ≤ f.aux.toNat ∨ 256 < f.len ∨ t.windowOk c f.aux.toNat f.addr.toNat f.len f.opnd false = false →
        exec (.getReq p f) s = .next ((t.countRefused p.val).respond c f 0x13#8 5 [] 0#8).1.settle) ∧
      (∀ pa u v q d psn, f.aux.toNat < 16 → t.windowOk c f.aux.toNat f.addr.toNat f.len f.opnd false = true →
        0 < f.len → f.addr.toNat % 64 + f.len ≤ 64 →
        let key := some (c, t.getF (Reg.FXC_WIN_SIZE c f.aux.toNat) Fld.FXC_WIN_SIZE_TAG)
        t.packed c (t.getF (Reg.FXC_WIN_CTL c f.aux.toNat) Fld.FXC_WIN_CTL_BASE * 2 ^ 18) f.addr.toNat = some pa →
        t.dmaRead (fabReq p.val c key) (pa / 64) = (u, .ok (d, psn)) →
        u.respond c f 0x13#8 0 (natToBytes f.len (d.toNat >>> (8 * (pa % 64))))
            (if psn then (if f.len ≤ 32 then 1#8 else 3#8) else 0#8) = (v, .sent q) →
        exec (.getReq p f) s = .next (v.chargeFab q key 5 f.len).settle)))

open Sys2Proof Sys2Proof.Machine Sys2Proof.Claims in
/-- Fabric access is bound by H of the platform compartment, or by W for compartment 63, and no domain twice (R395). A tail written reads
the ring's commands (R397). A GET asks its target and waits for the response; a bad command ends with status 4, an answered one with its
first status that is not 0, one that waits for 100 µs with 6 (R398). A command read with poison ends with status 3, one of an undefined
operation with 4 (the model's choices: log 173). A command that has ended writes its record and posts its event (R398). -/
def Obligations.CommandRingsCopyAndComplete : Prop :=
  (∀ (a : Agent) (c : CompId) (v : Word) (s : State) (w : Who), Performed s a w (Reg.FXC_ACC c.val) →
    let ok := if c.val = 63 then w.wOrBoot else w.boot || w.isH s.platform
    let twice := v.getLsbD 16 = true ∧ ∃ d, d < 64 ∧ d ≠ c.val ∧ s.isF (Reg.FXC_ACC d) Fld.FXC_ACC_EN = true ∧
      s.getF (Reg.FXC_ACC d) Fld.FXC_ACC_FDOM = v.toNat % 65536
    (ok = false ∨ twice → exec (.fxcAccWrite a c v) s = .next (s.denyAt (Reg.FXC_ACC c.val)).settle) ∧
    (ok = true → ¬twice → ∃ t : State, exec (.fxcAccWrite a c v) s = .next t.settle ∧
      t.isF (Reg.FXC_ACC c.val) Fld.FXC_ACC_EN = v.getLsbD 16 ∧ t.getF (Reg.FXC_ACC c.val) Fld.FXC_ACC_FDOM = v.toNat % 65536)) ∧
  (∀ (a : Agent) (c : CompId) (v : Word) (s : State) (w : Who), Performed s a w (Reg.FXC_TAIL c.val) →
    let b := if s.ringEmpty c.val then (s.unlatch (Reg.FXC_RING c.val)).unlatch (Reg.FXC_XLAT c.val) else s
    let u := b.putFields (Reg.FXC_TAIL c.val) v
    let h := s.getF (Reg.FXC_HEAD c.val) Fld.FXC_HEAD_HEAD
    (s.isF (Reg.FXC_ACC c.val) Fld.FXC_ACC_EN = false ∨ v.toNat % 2 ^ 32 = h → exec (.fxcTail a c v) s = .next u.settle) ∧
    (∀ t pa d psn, s.isF (Reg.FXC_ACC c.val) Fld.FXC_ACC_EN = true → v.toNat % 2 ^ 32 = (h + 1) % 2 ^ 32 →
      u.packed c.val (u.ringF c.val (Reg.FXC_RING c.val) Fld.FXC_RING_BASE * 2 ^ 18) (64 * (h % u.ringDepth c.val)) = some pa →
      u.dmaRead (fxcReq c.val none) (pa / 64) = (t, .ok (d, psn)) →
      let x : FxcCmd := ⟨h, lineWords d, false, [], 0, none, 0#64, s.now⟩
      ∃ r : State, exec (.fxcTail a c v) s = .next r.settle ∧ r.getF (Reg.FXC_HEAD c.val) Fld.FXC_HEAD_HEAD = (h + 1) % 2 ^ 32 ∧
        r.fxcCmds c.val = s.fxcCmds c.val ++ [if psn then { x with started := true, status := some 3 }
          else if 5 < x.op then { x with started := true, status := some 4 } else x])) ∧
  (∀ (i : CompId → Instr) (op : Nat), (i, op) ∈ [(Instr.fabCmdPut, 0), (.fabCmdGet, 1), (.fabCmdBarrier, 2), (.fabCmdReduce, 3)] →
    ∀ (c : CompId) (s : State), s.nextCmd c.val op = none → exec (i c) s = .next s.settle) ∧
  (∀ (i : CompId → Instr) (op : Nat), (i, op) ∈ [(Instr.fabCmdPut, 0), (.fabCmdGet, 1)] → ∀ (c : CompId) (s : State) (x : FxcCmd),
    s.nextCmd c.val op = some x → s.isF (Reg.FXC_ACC c.val) Fld.FXC_ACC_EN = true →
    (x.reserved = true → exec (i c) s = .next (s.endCmd c.val x.idx 4).settle) ∧
    (x.reserved = false → x.len = 0 → exec (i c) s = .next (s.endCmd c.val x.idx 0).settle)) ∧
  (∀ (c : CompId) (s : State) (x : FxcCmd), s.fxcCmds c.val = [x] → x.started = false → x.status = none → x.opids = [] → x.reserved = false →
    s.isF (Reg.FXC_ACC c.val) Fld.FXC_ACC_EN = true → s.fab.nextOp < 65536 → 0 < x.len → x.len ≤ 256 →
    let req (ty : BitVec 8) (data : List Byte) : Frame :=
      { typ := ty, vc := 0, ncell := BitVec.ofNat 4 ((data.length + 31) / 32), seq := 0, dst := BitVec.ofNat 18 x.node,
        src := BitVec.ofNat 18 s.node, fdom := BitVec.ofNat 16 (s.getF (Reg.FXC_ACC c.val) Fld.FXC_ACC_FDOM), tag := BitVec.ofNat 16 x.tag,
        opid := BitVec.ofNat 16 s.fab.nextOp, aux := BitVec.ofNat 8 x.win, addr := BitVec.ofNat 64 x.roff, opnd := x.key, payload := data,
        poison := 0#8, len := x.len }
    let waits : FxcCmd := { x with started := true, startTb := s.now, opids := [s.fab.nextOp] }
    (∀ q, x.op = 1 → s.routeTo x.node = .port q → s.fabUp q = true → s.fabSlot q c.val = true →
      ∃ t : State, exec (.fabCmdGet c) s = .next t.settle ∧ t.fxcCmds c.val = [waits] ∧ t.fabPort q = (s.sendOn q (req 0x03#8 [])).fabPort q) ∧
    (x.op = 1 → s.routeTo x.node = .none → ∃ t : State, exec (.fabCmdGet c) s = .next t.settle ∧
      t.fxcCmds c.val = [{ waits with status := some 6, opids := [] }]) ∧
    (∀ u k l q, x.op = 0 → x.localA % 64 + x.len ≤ 64 → s.routeTo x.node = .port q → s.fabUp q = true → s.fabSlot q c.val = true →
      (s.modCmd c.val x.idx (fun y => { y with started := true, startTb := s.now })).dmaReadSeg (s.fxcMover c.val x) {} x.localA x.len =
        (u, .ok (l, false, k)) → u.fab = (s.modCmd c.val x.idx (fun y => { y with started := true, startTb := s.now })).fab → u.regs = s.regs →
      u.comp.maps = s.comp.maps →
      ∃ t : State, exec (.fabCmdPut c) s = .next t.settle ∧ t.fxcCmds c.val = [waits] ∧ t.fabPort q = (s.sendOn q (req 0x02#8 l)).fabPort q)) ∧
  (∀ (p : Fin 6) (f : Frame) (s t : State), Arrived s p f 0x12#8 t →
    (t.cmdOf f.opid.toNat = none → exec (.putRsp p f) s = .next t) ∧
    (∀ c x, t.cmdOf f.opid.toNat = some (c, x) → exec (.putRsp p f) s =
      .next (t.answered c x f.opid.toNat f.aux.toNat (min 256 (x.len - smGet (fun _ => 0) s.fab.gets f.opid.toNat))))) ∧
  (∀ (p : Fin 6) (f : Frame) (s t : State), Arrived s p f 0x13#8 t →
    (t.cmdOf f.opid.toNat = none → exec (.getRsp p f) s = .next t) ∧
    (∀ c x, t.cmdOf f.opid.toNat = some (c, x) →
      (f.aux ≠ 0#8 → exec (.getRsp p f) s = .next (t.answered c x f.opid.toNat f.aux.toNat 0)) ∧
      (∀ u k, f.aux = 0#8 → f.payload ≠ [] → f.poison = 0#8 →
        let at' := x.localA + smGet (fun _ => 0) s.fab.gets f.opid.toNat
        let v := t.chargeFab p.val (some (c, x.tag)) 6 f.payload.length
        at' % 64 + f.payload.length ≤ 64 → v.dmaWriteSeg (v.fxcMover c x) {} at' f.payload false = (u, .ok k) →
        exec (.getRsp p f) s = .next (u.answered c x f.opid.toNat 0 f.payload.length).settle))) ∧
  (∀ (s : State) (c : Nat) (x : FxcCmd) (op st n : Nat), s.fxcCmds c = [x] → x.opids = [op] → x.status = none →
    (s.answered c x op st n).fxcCmds c = [if st = 0 then { x with opids := [], done := x.done + n, status := some 0 }
      else { x with started := true, status := some st, opids := [] }]) ∧
  (∀ (c : CompId) (idx : BitVec 32) (s : State),
    ((∀ x ∈ s.fxcCmds c.val, x.idx ≠ idx.toNat) → exec (.fabCmdTimeout c idx) s = .next s ∧ exec (.fabCommandCompletion c idx) s = .next s) ∧
    (∀ x, s.fxcCmds c.val = [x] → x.idx = idx.toNat →
      (x.started = true → x.status = none → x.op ≤ 1 → x.startTb + 100000 ≤ s.now → ∃ t : State, exec (.fabCmdTimeout c idx) s = .next t ∧
        t.fxcCmds c.val = [{ x with status := some 6, opids := [] }]) ∧
      (x.started = false ∨ x.status ≠ none ∨ 1 < x.op ∨ s.now < x.startTb + 100000 → exec (.fabCmdTimeout c idx) s = .next s) ∧
      (x.status = none → exec (.fabCommandCompletion c idx) s = .next s) ∧
      (∀ st, x.status = some st → x.event = false → x.caddr = 0 → ∃ t : State, exec (.fabCommandCompletion c idx) s = .next t.settle ∧
        t.fxcCmds c.val = [] ∧ t.mem = s.mem) ∧
      (∀ st u k, x.status = some st → x.event = false → x.caddr ≠ 0 → x.caddr % 64 ≤ 48 →
        s.dmaWriteSeg (s.fxcMover c.val x) {} x.caddr
          (natToBytes 8 (st + x.done % 2 ^ 40 * 256) ++ natToBytes 8 x.result.toNat) false = (u, .ok k) →
        exec (.fabCommandCompletion c idx) s = .next (u.setCmds c.val ((u.fxcCmds c.val).filter (fun y => decide (y.idx ≠ x.idx)))).settle) ∧
      (∀ st, x.status = some st → x.event = true → x.caddr = 0 →
        let ends (u : State) := u.setCmds c.val ((u.fxcCmds c.val).filter (fun y => decide (y.idx ≠ x.idx)))
        match s.postEvent 0 c.val x.queue ⟨0, if c.val = 63 then 127 else c.val, 6, x.idx % 65536, 0, 0#64⟩ with
        | (u, .done) => exec (.fabCommandCompletion c idx) s = .next (ends u).settle
        | (u, _) => exec (.fabCommandCompletion c idx) s = .next (ends (u.addF (Reg.IRR_STAT 0) Fld.IRR_STAT_DROPS 1)).settle)))

open Sys2Proof Sys2Proof.Machine Sys2Proof.Claims in
/-- A generation of a barrier or reduction waits for the local contribution and one ARRIVE from each port of the group; a device that is
not the root then sends one ARRIVE to its parent, the root ends it, and a RELEASE ends it at the other members (R401): with the combined
value of the reduction, status 8 where a sum leaves [MIN, MAX], 4 where reductions are mixed (R403), and 7 where a part of the group is lost
(R392; the ARRIVE that tells it carries code 5, the model's choice: log 172). -/
def Obligations.GlobalReductionsCombineAndComplete : Prop :=
  (∀ v : Int, -(2 ^ 95) ≤ v → v < 2 ^ 95 → sumOf (sumBytes v) = v) ∧
  (∀ a b : Int, -(2 ^ 95) ≤ a + b → a + b < 2 ^ 95 → combine 0 a b = a + b) ∧
  (∀ x y : Word, combine 1 x.toInt y.toInt = min x.toInt y.toInt ∧ combine 2 x.toInt y.toInt = max x.toInt y.toInt ∧
    combine 3 x.toInt y.toInt = (if x.toNat ≤ y.toNat then x else y).toInt ∧
    combine 4 x.toInt y.toInt = (if x.toNat ≤ y.toNat then y else x).toInt) ∧
  (∀ (i : CompId → Instr) (op : Nat), (i, op) ∈ [(Instr.fabCmdBarrier, 2), (.fabCmdReduce, 3)] → ∀ (c : CompId) (s : State) (x : FxcCmd) (e n : Nat),
    OneCommand s c x op e → x.rop ≤ 4 → s.gen e = { gen := n } →
    let v : Int := if op = 2 then 0 else (BitVec.ofNat 64 x.localA).toInt
    (s.grpPorts e = [] → s.isF (Reg.FABG_GRP e) Fld.FABG_GRP_ROOT = true → ∃ t : State, exec (i c) s = .next t.settle ∧
      t.fxcCmds c.val = [{ x with
        started := true, startTb := s.now, opids := [], status := some 0,
        result := if op = 2 then BitVec.ofNat 64 (n + 1) else BitVec.ofNat 64 x.localA }] ∧ t.gen e = { gen := n + 1 }) ∧
    (∀ p, s.grpPorts e = [p] → ∃ t : State, exec (i c) s = .next t.settle ∧ t.fxcCmds c.val = [{ x with started := true, startTb := s.now }] ∧
      (t.gen e).localC = some v ∧ (t.gen e).gen = n ∧ t.fab.ports = s.fab.ports) ∧
    (s.grpPorts e = [] → s.isF (Reg.FABG_GRP e) Fld.FABG_GRP_ROOT = false → s.ring = false → s.fabUp s.upPort = true →
      s.fabSlot s.upPort c.val = true →
      let fdom := s.getF (Reg.FABG_GRP e) Fld.FABG_GRP_FDOM
      let data := if op = 2 then [] else sumBytes v
      ∃ t : State, exec (i c) s = .next t.settle ∧ t.fabPort s.upPort = (s.sendOn s.upPort
        { typ := 0x21#8, vc := 2, ncell := if op = 2 then 0#4 else 1#4, seq := 0, dst := 0, src := BitVec.ofNat 18 s.node,
          fdom := BitVec.ofNat 16 fdom, tag := BitVec.ofNat 16 x.tag, opid := 0, aux := BitVec.ofNat 8 (if op = 2 then 7 else x.rop), addr := BitVec.ofNat 64 fdom,
          opnd := 0, payload := data }).fabPort s.upPort)) ∧
  (∀ (i : CompId → Instr) (op : Nat), (i, op) ∈ [(Instr.fabCmdBarrier, 2), (.fabCmdReduce, 3)] → ∀ (c : CompId) (s : State) (x : FxcCmd),
    s.nextCmd c.val op = some x → s.isF (Reg.FXC_ACC c.val) Fld.FXC_ACC_EN = true →
    (x.reserved = true ∨ s.isF (Reg.FABG_GRP x.grp) Fld.FABG_GRP_EN = false ∨ s.grpMember x.grp = false ∨ s.grpCid x.grp ≠ c.val ∨
      (op = 3 ∧ 4 < x.rop) → exec (i c) s = .next (s.endCmd c.val x.idx 4).settle)) ∧
  (∀ (p : Fin 6) (f : Frame) (s t : State) (e n r : Nat) (v : Int) (x : FxcCmd), Taken s p f 0x21#8 t →
    s.groupOf (f.addr.toNat % 65536) = some e → s.grpPorts e = [p.val] → s.isF (Reg.FABG_GRP e) Fld.FABG_GRP_ROOT = true →
    s.grpMember e = true → s.gen e = { gen := n, localC := some v, rop := some r } → r ≤ 4 →
    s.fxcCmds (s.grpCid e) = [x] → x.started = true → x.status = none → x.grp = e → x.op = 3 →
    let total := combine r v (sumOf f.payload)
    ∃ (u : State) (res : Word), exec (.arrive p f) s = .next u.settle ∧ u.gen e = { gen := n + 1 } ∧
      (f.aux.toNat = r → res = BitVec.ofInt 64 total) ∧
      u.fxcCmds (s.grpCid e) = [{ x with
        opids := [], result := res,
        status := some (if f.aux.toNat = 5 then 7 else if f.aux.toNat ≠ r then 4 else if r = 0 ∧ (total < -(2 ^ 63) ∨ 2 ^ 63 ≤ total) then 8 else 0) }]) ∧
  (∀ (p : Fin 6) (f : Frame) (s t : State) (e n : Nat) (v : Int) (r : Nat) (x : FxcCmd), Taken s p f 0x22#8 t →
    s.groupOf (f.addr.toNat % 65536) = some e → s.grpPorts e = [] → s.grpMember e = true →
    s.gen e = { gen := n, localC := some v, rop := some r } → s.fxcCmds (s.grpCid e) = [x] → x.started = true → x.status = none →
    x.grp = e → x.op = 3 →
    ∃ u : State, exec (.release p f) s = .next u.settle ∧ u.gen e = { gen := n + 1 } ∧
      u.fxcCmds (s.grpCid e) = [{ x with opids := [], result := BitVec.ofInt 64 (sumOf f.payload), status := some f.aux.toNat }])

open Sys2Proof Sys2Proof.Machine Sys2Proof.Claims in
/-- A broadcast of exactly 256 bytes, from the group's root, is pushed into BQUEUE of every member with the checks of a remote push apart
from RKEY; a snapshot, from the root too (log 172), acts at its time, with the timebase as its result, or at once with status 9 where that time has passed (R404). -/
def Obligations.BroadcastsAndSnapshotsReachTheirMembers : Prop :=
  (∀ (p : Fin 6) (f : Frame) (s t : State), Taken s p f 0x23#8 t →
    (s.groupOf (f.addr.toNat % 65536) = none → exec (.bcast p f) s = .next t) ∧
    (∀ e, s.groupOf (f.addr.toNat % 65536) = some e → s.grpPorts e = [] →
      exec (.bcast p f) s = .next (if s.grpMember e then (t.remotePush (some p.val) (s.getF (Reg.FABG_GRP e) Fld.FABG_GRP_BQUEUE) f none).1 else t).settle)) ∧
  (∀ (c : CompId) (s : State), (s.nextCmd c.val 4 = none → exec (.fabCmdBcast c) s = .next s) ∧
    (s.nextCmd c.val 5 = none → exec (.fabCmdSnap c) s = .next s)) ∧
  (∀ (c : CompId) (s : State) (x : FxcCmd), s.nextCmd c.val 4 = some x → s.isF (Reg.FXC_ACC c.val) Fld.FXC_ACC_EN = true →
    let bad := x.reserved = true ∨ x.len ≠ 256 ∨ s.isF (Reg.FABG_GRP x.grp) Fld.FABG_GRP_EN = false ∨
      s.isF (Reg.FABG_GRP x.grp) Fld.FABG_GRP_ROOT = false ∨ s.grpCid x.grp ≠ c.val
    (bad → exec (.fabCmdBcast c) s = .next (s.endCmd c.val x.idx 4)) ∧
    (¬bad → match State.moverRead (s.fxcMover c.val x) 6 s {} x.localA 256 0 with
      | (u, .error st) => exec (.fabCmdBcast c) s = .next (u.endCmd c.val x.idx st).settle
      | (u, .ok (l, q)) => (q ≠ 0 → exec (.fabCmdBcast c) s = .next (u.endCmd c.val x.idx 3).settle) ∧
        (q = 0 → u.grpPorts x.grp = [] → u.grpMember x.grp = true →
          ∃ f : Frame, f.payload = l ∧ f.poison = 0#8 ∧ exec (.fabCmdBcast c) s =
            .next (((u.remotePush none (u.getF (Reg.FABG_GRP x.grp) Fld.FABG_GRP_BQUEUE) f none).1).endCmd c.val x.idx 0).settle))) ∧
  (∀ (p : Fin 6) (f : Frame) (s t : State), Taken s p f 0x24#8 t →
    (s.groupOf f.fdom.toNat = none → exec (.snap p f) s = .next t) ∧
    (∀ e, s.groupOf f.fdom.toNat = some e → s.grpPorts e = [] → s.grpMember e = true →
      (s.now ≤ f.addr.toNat → ∃ u : State, exec (.snap p f) s = .next u.settle ∧ u.fab.snaps = s.fab.snaps ++ [(s.grpCid e, f.addr)] ∧
        u.fab.shots = s.fab.shots) ∧
      (∀ x, f.addr.toNat < s.now → s.fxcCmds (s.grpCid e) = [x] → x.started = true → x.status = none → x.op = 5 →
        ∃ u : State, exec (.snap p f) s = .next u.settle ∧
          u.fxcCmds (s.grpCid e) = [{ x with opids := [], result := s.tb, status := some 9 }]))) ∧
  (∀ (c : CompId) (s : State),
    ((∀ e ∈ s.fab.snaps, e.1 = c.val → s.now < e.2.toNat) → exec (.snapshotAct c) s = .next s) ∧
    (∀ x T, (c.val, T) ∈ s.fab.snaps → T.toNat ≤ s.now → s.fxcCmds c.val = [x] → x.started = true → x.status = none → x.op = 5 →
      ∃ u : State, exec (.snapshotAct c) s = .next u.settle ∧ u.fxcCmds c.val = [{ x with opids := [], result := s.tb, status := some 0 }] ∧
        (∀ e ∈ u.fab.snaps, e.1 ≠ c.val) ∧ smGet (fun _ => []) u.fab.shots c.val =
          [s.rd Reg.LG_SEQ_NEW, putN (s.rd Reg.FABG_SYNC) 32 32 s.syncErr] ++ [0, 1, 2, 3, 4, 5].map (fun p => s.rd (Reg.FAB_PORT_STAT p)))) ∧
  (∀ (c : CompId) (s : State) (x : FxcCmd) (e : Nat), OneCommand s c x 5 e → s.isF (Reg.FABG_GRP e) Fld.FABG_GRP_ROOT = false →
    ∃ u : State, exec (.fabCmdSnap c) s = .next u ∧ u.fxcCmds c.val = [{ x with started := true, opids := [], status := some 4 }]) ∧
  (∀ (c : CompId) (s : State) (x : FxcCmd) (e : Nat), OneCommand s c x 5 e → s.isF (Reg.FABG_GRP e) Fld.FABG_GRP_ROOT = true → s.grpPorts e = [] →
    (s.now ≤ (BitVec.ofNat 64 x.localA).toNat → ∃ u : State, exec (.fabCmdSnap c) s = .next u.settle ∧
      u.fab.snaps = s.fab.snaps ++ [(c.val, BitVec.ofNat 64 x.localA)] ∧ u.fxcCmds c.val = [{ x with started := true, startTb := s.now }]) ∧
    ((BitVec.ofNat 64 x.localA).toNat < s.now → ∃ u : State, exec (.fabCmdSnap c) s = .next u.settle ∧
      u.fxcCmds c.val = [{ x with started := true, startTb := s.now, opids := [], result := s.tb, status := some 9 }]))

/-! ### The remontoir, Index and the emergency throttle (chapter 17) -/

open Sys2Proof Sys2Proof.Machine Sys2Proof.Claims in
/-- Leave is granted only when the pool's committed credits and the leave's do not exceed the pool, and refused at once otherwise, counted
in the compartment's REFUSED; the credits are those of the tables (R413, R416). A SHARE or PLAT that would take the sum above ILIM is a
denial (R415). Crypto leave is asked, asked again after a refusal, and returned after 1 ms (R417). A boost leave lapses after BOOST_MS and
its cluster returns to nominal (R418); points change in steps of 100 MHz (R420). -/
def Obligations.LeaveIsGrantedWithinThePool : Prop :=
  ([0, 8, 14, 18, 21, 23].map credits = [4, 9, 15, 20, 27, 34] ∧ credits 1 = 5 ∧ credits 19 = 23 ∧ credits 22 = 31) ∧
  (∀ (o : LeaveOp) (s : State), let p := s.leavePool o
    (s.committed p + s.leaveCredits o ≤ s.poolSize p → ∃ t : State, exec (.leaveRequest o) s = .next t ∧
      t.power.leaves = s.power.leaves ++ [⟨o, s.leaveCredits o, s.now⟩] ∧
      (leaveIsBoost o = false → t.committed p = s.committed p + s.leaveCredits o) ∧ (leaveIsBoost o = true → t.committed p = s.committed p)) ∧
    (s.poolSize p < s.committed p + s.leaveCredits o →
      (p = none → exec (.leaveRequest o) s = .next s) ∧
      (∀ c, p = some c → exec (.leaveRequest o) s = .next (s.addF (Reg.RMT_POOL c) Fld.RMT_POOL_REFUSED 1)))) ∧
  (∀ (s : State) n p c k q f, s.leaveCredits (.boost n p) = credits p.val - (match s.code with | .b1s => 20 | .b1l => 15) ∧ s.leaveCredits (.crypto n) = 6 ∧ s.leaveCredits (.testCluster c) = 25 ∧
    s.leaveCredits (.testBand c) = 10 ∧ s.leaveCredits (.bandFlush c) = 8 ∧ s.leaveCredits (.colorSweep c) = 8 ∧ s.leaveCredits (.dram k) = 40 ∧
    s.leaveCredits (.pcie q) = 30 ∧ s.leaveCredits (.fabric f) = 25) ∧
  (∀ (a : Agent) (pool : Option CompId) (v : Word) (s : State) (w : Who),
    let k := match pool with | none => Reg.RMT_LIM | some c => Reg.RMT_POOL c.val
    Performed s a w k → let u := s.putFields k v
    (u.ilim < u.shareSum → exec (.rmtShareWrite a pool v) s = .next (s.denyAt k).settle) ∧
    (u.shareSum ≤ u.ilim → exec (.rmtShareWrite a pool v) s = .next u.settle)) ∧
  (∀ (n : ClusterId) (s : State), s.holdsLeave (.crypto n) = true → exec (.cryptoLeave n) s = .next s) ∧
  (∀ (i : ClusterId → Instr), i ∈ [Instr.cryptoLeave, .cryptoLeaveRetry] → ∀ (n : ClusterId) (s u : State),
    s.holdsLeave (.crypto n) = false → (∃ b, (s.cluster n.val).cryptoRef = some b ∧ b + 100000 ≤ s.now) →
    (s.askLeave (.crypto n) = (u, true) → ∃ t : State, exec (i n) s = .next t ∧ t.power.leaves = u.power.leaves ∧
      (t.cluster n.val).cryptoRef = none) ∧
    (s.askLeave (.crypto n) = (u, false) → ∃ t : State, exec (i n) s = .next t ∧ t.power.leaves = s.power.leaves ∧
      (t.cluster n.val).cryptoRef = some s.now)) ∧
  (∀ (n : ClusterId) (s : State), (∀ b, (s.cluster n.val).cryptoRef = some b → s.now < b + 100000) →
    exec (.cryptoLeaveRetry n) s = .next s) ∧
  (∀ (n : ClusterId) (s : State),
    (s.now < (s.cluster n.val).cryptoUse + 1000000 → exec (.cryptoLeaveReturn n) s = .next s) ∧
    (∀ b, (s.cluster n.val).cryptoUse + 1000000 ≤ s.now → s.power.leaves = [⟨.crypto n, 6, b⟩] →
      ∃ t : State, exec (.cryptoLeaveReturn n) s = .next t ∧ t.power.leaves = [] ∧ (t.cluster n.val).cryptoRef = none)) ∧
  (∀ (n : ClusterId) (s : State), (s.boostLeave n.val = none → exec (.boostLapse n) s = .next s) ∧
    (∀ l, s.boostLeave n.val = some l →
      let span := max 1 (s.getF Reg.RMT_CTL Fld.RMT_CTL_BOOST_MS) * 1000000
      (s.now < l.tb + span → exec (.boostLapse n) s = .next s) ∧
      (l.tb + span ≤ s.now → ∃ t : State, exec (.boostLapse n) s = .next t.settle ∧ t.power.leaves = s.power.leaves.erase l ∧
        t.wantedPoint n.val = s.nominal ∧ (t.cluster n.val).ramp = if s.opPoint n.val = s.nominal then none else some s.nominal))) ∧
  (∀ s : State, s.nominal = (match s.code with | .b1s => 18 | .b1l => 14)) ∧
  (∀ (n : ClusterId) (s : State), ((s.cluster n.val).ramp = none → exec (.rampStep n) s = .next s) ∧
    (∀ p, p ≤ 23 → (s.cluster n.val).ramp = some p → ∃ t : State, exec (.rampStep n) s = .next t ∧
      (s.opPoint n.val < p → t.opPoint n.val = s.opPoint n.val + 1) ∧ (p < s.opPoint n.val → t.opPoint n.val = s.opPoint n.val - 1) ∧
      (s.opPoint n.val = p → t.opPoint n.val = p) ∧ ((t.cluster n.val).ramp = none ↔ t.opPoint n.val = p)))

open Sys2Proof Sys2Proof.Machine Sys2Proof.Claims in
/-- A compartment's points stay within its bounds, at nominal or below in deterministic mode or under the throttle, are lowered until they
fit its share, and are raised above nominal only with boost leave (R432). Index changes margins, prefetch degrees, page policies and link
widths within their bounds (R431); a service core that stalls clears its ALIVE bit and leaves the rest (R434). -/
def Obligations.IndexDecidesWithinItsBounds : Prop :=
  (∀ (s : State) (n asked : Nat), s.wantPoint n asked ≤ 23 ∧ s.wantPoint n asked ≤ s.getF (Reg.IDX_CLB n) Fld.IDX_CLB_FMAX ∧
    (s.dtmCluster n = true ∨ s.throttle ≠ 0 → s.wantPoint n asked ≤ s.nominal) ∧
    (s.dtmCluster n = false → s.throttle = 0 → s.getF (Reg.IDX_CLB n) Fld.IDX_CLB_FMIN ≤ s.getF (Reg.IDX_CLB n) Fld.IDX_CLB_FMAX →
      s.getF (Reg.IDX_CLB n) Fld.IDX_CLB_FMIN ≤ 23 → s.getF (Reg.IDX_CLB n) Fld.IDX_CLB_FMIN ≤ s.wantPoint n asked)) ∧
  (∀ (l : List (Nat × Nat)) (room : Nat), (∀ e ∈ l, e.2 ≤ 23) →
    let r := fitShare (24 * l.length) l room
    r.map (·.1) = l.map (·.1) ∧ ((r.map (fun e => credits e.2)).sum ≤ room ∨ ∀ e ∈ r, e.2 = 0) ∧
      (∀ i, (r.getD i (0, 0)).2 ≤ (l.getD i (0, 0)).2)) ∧
  (∀ (c : CompId) (n : ClusterId) (p : Fin 24) (s : State), s.clustersOf c.val = [n.val] →
    let w := s.wantPoint n.val p.val
    credits w ≤ s.share c.val - s.otherLeaves c.val →
    (w ≤ s.nominal → ∃ t : State, exec (.operatingPointDecision c [p]) s = .next t.settle ∧ t.wantedPoint n.val = w ∧
      (s.throttle = 0 → (t.cluster n.val).ramp = if s.opPoint n.val = w then none else some w) ∧
      (t.getF Reg.IDX_STAT Fld.IDX_STAT_ALIVE).testBit (n.val / 24) = true) ∧
    (s.nominal < w → ∃ t : State, exec (.operatingPointDecision c [p]) s = .next t.settle ∧ t.wantedPoint n.val = w ∧
      ∃ l ∈ t.power.leaves, l.op = .boost n (Fin.ofNat 24 w) ∧ l.credits = credits w - credits s.nominal)) ∧
  (∀ (s : State) (r : Fin 13),
    (∀ (i : Fin 136) (mv : Fin 51), ∃ t : State, (exec (.indexDecision (.margin i mv) r) s = .next t ∨
      exec (.indexDecision (.margin i mv) r) s = .next t.settle) ∧ smGet (fun _ => 0) t.power.margins i.val = mv.val) ∧
    (∀ (n : ClusterId) (d : Fin 4), ∃ t : State, (exec (.indexDecision (.prefetch n d) r) s = .next t ∨
      exec (.indexDecision (.prefetch n d) r) s = .next t.settle) ∧ t.getF (Reg.L2C_PF n.val) Fld.L2C_PF_CUR =
        if d.val ≤ s.getF (Reg.L2C_PF n.val) Fld.L2C_PF_MAX then d.val else s.getF (Reg.L2C_PF n.val) Fld.L2C_PF_CUR) ∧
    (∀ (k : Fin 64) (o : Bool), ∃ t : State, (exec (.indexDecision (.pageColor k o) r) s = .next t ∨
      exec (.indexDecision (.pageColor k o) r) s = .next t.settle) ∧ smGet (fun _ => true) t.dram.pages k.val =
        if s.orderB then o else smGet (fun _ => true) s.dram.pages k.val) ∧
    (∀ (n : Fin 16) (o : Bool), ∃ t : State, (exec (.indexDecision (.pageChannel n o) r) s = .next t ∨
      exec (.indexDecision (.pageChannel n o) r) s = .next t.settle) ∧ smGet (fun _ => true) t.dram.pages (64 + n.val) =
        if s.orderB then smGet (fun _ => true) s.dram.pages (64 + n.val) else o) ∧
    (∀ (p : Fin 6) (w : Fin 3), s.fabUp p.val = true → w.val ≤ s.getF (Reg.FAB_PORT_CTL p.val) Fld.FAB_PORT_CTL_MINW →
      ∃ t : State, exec (.indexDecision (.linkWidth p w) r) s = .next t.settle ∧
        t.getF (Reg.FAB_PORT_STAT p.val) Fld.FAB_PORT_STAT_WIDTH = w.val)) ∧
  (∀ (k : Fin 4) (s : State), ∃ t : State, exec (.indexCoreStall k) s = .next t ∧ t.power = s.power ∧ t.clusters = s.clusters ∧
    ∀ j, j < 4 → (t.getF Reg.IDX_STAT Fld.IDX_STAT_ALIVE).testBit j =
      ((s.getF Reg.IDX_STAT Fld.IDX_STAT_ALIVE).testBit j && decide (j ≠ k.val))) ∧
  (∀ (i : Fin 136) (s : State), ∃ t : State, exec (.droopEvent i) s = .next t ∧
    smGet (fun _ => 0) t.power.droops i.val = smGet (fun _ => 0) s.power.droops i.val + 1 ∧ t.regs = s.regs)

open Sys2Proof Sys2Proof.Machine Sys2Proof.Claims in
/-- Level 1 of the emergency throttle rises at EMERG, level 2 at EMERG + 2 °C, at PROCHOT_N from outside, at the current limit, or where a
DRAM channel asks; every cluster is capped at nominal, PROCHOT_N is driven, and the start is announced (R435, R437, R419). At level 2 every
cluster steps down until the trigger clears; a level ends when its triggers have stayed clear for 1 ms and every sensor reads below
EMERG - 5 °C. Released, the pin follows the outside
(R517). At a thermal trip the device enters OFF without a checkpoint, THERMTRIP_N and FAULT_N asserted (R436). -/
def Obligations.TheEmergencyThrottleCapsAndTrips : Prop :=
  (∀ (s : State), s.emerg = min 100 (s.getF Reg.IDX_THERM Fld.IDX_THERM_EMERG)) ∧
  (∀ (t : BitVec 8) (s : State),
    (t.toNat < s.emerg → ∃ u : State, exec (.emergencyThrottleL1 t) s = .next u ∧ u.throttle = s.throttle ∧
      u.getF Reg.IDX_THERM Fld.IDX_THERM_HOT = t.toNat) ∧
    (s.emerg ≤ t.toNat → s.throttle = 0 → ∃ u : State, exec (.emergencyThrottleL1 t) s = .next u.settle ∧ u.throttle = 1 ∧
      u.power.prochotOut = true ∧ (∀ n, n < 96 → u.opPoint n ≤ s.nominal ∧ u.wantedPoint n ≤ s.nominal) ∧ (∃ d ∈ u.power.declared, d.kind = 1))) ∧
  (∀ (r : ThrottleCause) (s : State), s.throttle ≤ 1 →
    (match r with
      | .sensor t => s.emerg + 2 ≤ t
      | .prochot => s.power.prochotIn = true ∧ s.power.prochotOut = false
      | .current => 20 ≤ s.power.overs
      | .dram n => s.getF (Reg.DMC_STAT n.val) Fld.DMC_STAT_RATE = 2) →
    ∃ u : State, exec (.emergencyThrottleL2 r) s = .next u.settle ∧ u.throttle = 2 ∧ u.power.prochotOut = true ∧
      (∀ n, n < 96 → u.opPoint n ≤ s.nominal ∧ u.wantedPoint n ≤ s.nominal)) ∧
  (∀ (s : State), (s.throttle ≠ 2 ∨ s.level2Trigger = false → exec .throttleStepDown s = .next s) ∧
    (s.throttle = 2 → s.level2Trigger = true → ∃ u, exec .throttleStepDown s = .next u ∧
      (∀ n, n < 96 → u.opPoint n = s.opPoint n - 1) ∧ (∀ d, d < 8 → u.meshPoint d = s.meshPoint d - 1))) ∧
  (∀ (s : State), let hot := s.getF Reg.IDX_THERM Fld.IDX_THERM_HOT
    (s.throttle = 0 ∨ s.level2Trigger = true ∨ s.now < s.power.trigTb + 1000000 ∨ s.emerg ≤ hot + 5 → exec .throttleEnd s = .next s) ∧
    (s.throttle ≠ 0 → s.level2Trigger = false → s.power.trigTb + 1000000 ≤ s.now → hot + 5 < s.emerg → ∃ u : State, exec .throttleEnd s = .next u.settle ∧
      u.throttle = if s.throttle = 2 ∧ s.power.level1 = true then 1 else 0)) ∧
  (∀ (s : State), (s.power.prochotOut = true → exec .prochotAsserted s = .next s) ∧
    (s.power.prochotOut = false → s.throttle ≤ 1 → ∃ u : State, exec .prochotAsserted s = .next u.settle ∧ u.throttle = 2)) ∧
  (∀ (b : Bool) (s : State), (s.throttle ≠ 0 → exec (.prochotRelease b) s = .next s) ∧
    (s.throttle = 0 → ∃ u : State, exec (.prochotRelease b) s = .next u.settle ∧ u.power.prochotIn = b ∧
      u.throttle = (if b then 2 else 0) ∧ u.power.prochotOut = b)) ∧
  (∀ (c : BitVec 12) (s : State), ∃ u : State, exec (.currentMeasurement c) s = .next u.settle ∧
    u.getF Reg.RMT_STAT Fld.RMT_STAT_VIN = c.toNat ∧
    u.power.overs = (if s.ilim < c.toNat then min 20 (s.power.overs + 1) else 0) ∧
    (s.throttle ≤ 1 → u.throttle = if s.ilim < c.toNat ∧ 19 ≤ s.power.overs then 2 else s.throttle)) ∧
  (∀ (s : State), (s.boot.st ∈ [.noPower, .off, .offLocked] → exec .thermalTrip s = .next s) ∧
    (s.boot.st ∉ [.noPower, .off, .offLocked] → ∃ u : State, exec .thermalTrip s = .next u ∧ u.boot.st = .offLocked ∧
      u.pins.thermtripN = true ∧ u.pins.faultN = true ∧ u.getF Reg.RST_WAKE Fld.RST_WAKE_FAIL = 6 ∧
      u.ledger.checkpoint = s.ledger.checkpoint ∧ u.mem = []))

/-! ### Power states and the entry handshake (chapter 17) -/

open Sys2Proof Sys2Proof.Machine Sys2Proof.Claims in
/-- A request for a deeper state begins a handshake with every block of the island, PENDING set; RUN wakes it; a request written meanwhile
waits (R424). A block that must not enter refuses with the reason its state gives (R425), counted in REFUSALS, LAST_REASON and PWC_REFUSALS
(R426); a block without an answer in time refuses with 6. A refusal aborts with ABORTS counted; with every block's acknowledgement the
state is entered (R424, R426). Index begins the same handshake for a parked cluster (R421). -/
def Obligations.HandshakesAskEveryBlock : Prop :=
  (∀ (a : Agent) (page : BitVec 12) (v : Word) (s : State) (w : Who), Performed s a w (Reg.BLK_PWR page.toNat) →
    let i := pageIsland page.toNat
    s.islandState i < 2 → leadPage i = page.toNat → (v.toNat % 8 = 2 ∨ v.toNat % 8 = 3) →
    (s.hsOf i = none → ∃ t : State, exec (.blkPwrReq a page v) s = .next t.settle ∧
      t.getF (Reg.BLK_PWR page.toNat) Fld.BLK_PWR_REQ = v.toNat % 8 ∧ t.getF (Reg.BLK_PWR page.toNat) Fld.BLK_PWR_PENDING = 1 ∧
      t.power.hs = s.power.hs ++ [⟨i, v.toNat % 8, false, w.sec, islandPages i, s.now, none, false⟩]) ∧
    (s.hsOf i ≠ none → ∃ t : State, exec (.blkPwrReq a page v) s = .next t.settle ∧ t.power.hs = s.power.hs ∧
      (i, (v.toNat % 8, w.sec)) ∈ t.power.newReq)) ∧
  (∀ (a : Agent) (v : Word) (s : State) (w : Who), Performed s a w Reg.PWC_DEV_REQ → v.getLsbD 3 = true →
    s.getF Reg.PWC_DEV_STAT Fld.PWC_DEV_STAT_RESULT ≠ 1 →
    ((v.toNat % 8 = 2 ∨ v.toNat % 8 = 3 ∨ v.toNat % 8 = 4) → ∃ t : State, exec (.pwcDevReq a v) s = .next t.settle ∧
      t.getF Reg.PWC_DEV_STAT Fld.PWC_DEV_STAT_RESULT = 1 ∧
      t.power.hs = s.power.hs ++ (deviceIslands (v.toNat % 8)).map (fun i => ⟨i, v.toNat % 8, true, w.sec, islandPages i, s.now, none, false⟩)) ∧
    (v.toNat % 8 = 0 → ∃ t : State, exec (.pwcDevReq a v) s = .next t.settle ∧ t.devState = 0 ∧
      t.getF Reg.PWC_DEV_STAT Fld.PWC_DEV_STAT_RESULT = 2)) ∧
  (∀ (n : ClusterId) (s : State),
    let ok := s.isF (Reg.IDX_CLB n.val) Fld.IDX_CLB_AUTO = true ∧ s.islandState n.val < 2 ∧ s.hsOf n.val = none ∧
      (∀ c ∈ clusterCores n.val, (s.core c).run = .parked ∨ (s.core c).run = .off) ∧ s.islandFailed n.val = false
    (¬ok → exec (.autoSleep n) s = .next s) ∧
    (ok → ∃ t : State, exec (.autoSleep n) s = .next t ∧
      t.power.hs = s.power.hs ++ [⟨n.val, 2, false, true, islandPages n.val, s.now, none, true⟩])) ∧
  (∀ (i : BitVec 12 → HsAnswer → Instr), i ∈ [Instr.handshakeAnswer, .handshakeDelayEnd] → ∀ (page : BitVec 12) (s : State),
    (∀ r, s.hsWaiting page.toNat = none → exec (i page r) s = .next s) ∧
    (∀ h, s.hsWaiting page.toNat = some h →
      (∀ r k, s.hsReason h page.toNat = some k → exec (i page r) s = .next (s.hsRefuse h page.toNat k)) ∧
      (s.hsReason h page.toNat = none →
        (s.hsCanAck page.toNat = true → exec (i page .ack) s = .next (s.hsAck h page.toNat)) ∧
        (s.hsCanAck page.toNat = false → exec (i page .ack) s = .next s) ∧
        (∀ k : Fin 9, k.val ∈ [1, 3, 4, 5] → exec (i page (.refuse k)) s = .next (s.hsRefuse h page.toNat k.val)) ∧
        (∀ us, h.startTb + s.hsAllow h * 1000 < s.now + us * 1000 → exec (i page (.delay us)) s = .next s)))) ∧
  (∀ (page : BitVec 12) (s : State), (s.hsWaiting page.toNat = none → exec (.handshakeTimeout page) s = .next s) ∧
    (∀ h, s.hsWaiting page.toNat = some h →
      (s.now < h.startTb + s.hsAllow h * 1000 → exec (.handshakeTimeout page) s = .next s) ∧
      (h.startTb + s.hsAllow h * 1000 ≤ s.now → exec (.handshakeTimeout page) s = .next (s.hsRefuse h page.toNat 6)))) ∧
  (∀ (s : State) (h : Handshake) (page k : Nat), page < 4096 → 0 < k → k < 9 → k ≠ 2 → h.device = false → h ∈ s.power.hs →
    h.island < 136 → let t := s.hsRefuse h page k
    t.getF (Reg.BLK_PWR page) Fld.BLK_PWR_LAST_REASON = k ∧
    t.getF (Reg.BLK_PWR page) Fld.BLK_PWR_REFUSALS = min 0xFFFFFFFF (s.getF (Reg.BLK_PWR page) Fld.BLK_PWR_REFUSALS + 1) ∧
    t.getF (Reg.PWC_ISL h.island) Fld.PWC_ISL_LAST_BLK = page ∧ t.getF (Reg.PWC_ISL h.island) Fld.PWC_ISL_LAST_REASON = k ∧
    t.getF Reg.PWC_REFUSALS Fld.PWC_REFUSALS_COUNT = min 0xFFFFFFFF (s.getF Reg.PWC_REFUSALS Fld.PWC_REFUSALS_COUNT + 1) ∧
    { h with refused := some (h.refused.getD k) } ∈ t.power.hs) ∧
  (∀ (s : State) (n : Nat) (h : Handshake), n < 96 → h.island = n → s.islandFailed n = false → s.owner (0x100 + n) % 64 ≠ 63 →
    s.ist = [] → (s.cluster n).drain = none → (s.cluster n).resetKind = none →
    (s.hsReason h (0x100 + n) = if ∀ c ∈ clusterCores n, (s.core c).run = .parked ∨ (s.core c).run = .off then none else some 1) ∧
    (s.hsCanAck (0x100 + n) = true ↔ ∀ c ∈ clusterCores n, (s.core c).sb = [] ∧ (s.core c).posted = [])) ∧
  (∀ (i : Fin 136) (s : State), (s.hsOf i.val = none → exec (.handshakeAbort i) s = .next s ∧ exec (.handshakeCommit i) s = .next s) ∧
    (∀ h, s.hsOf i.val = some h → h.refused = none → exec (.handshakeAbort i) s = .next s) ∧
    (∀ h k, s.power.hs = [h] → h.island = i.val → h.device = false → s.power.newReq = [] → h.refused = some k →
      ∃ t : State, exec (.handshakeAbort i) s = .next t ∧ t.power.hs = [] ∧
        t.getF (Reg.PWC_ISL i.val) Fld.PWC_ISL_ABORTS = min 0xFFFFFFFF (s.getF (Reg.PWC_ISL i.val) Fld.PWC_ISL_ABORTS + 1) ∧
        t.getF (Reg.BLK_PWR (leadPage i.val)) Fld.BLK_PWR_PENDING = 0 ∧ t.islandState i.val = s.islandState i.val) ∧
    (∀ h, s.power.hs = [h] → h.island = i.val → h.device = false → h.refused = none → h.waiting ≠ [] →
      exec (.handshakeCommit i) s = .next s) ∧
    (∀ h, s.power.hs = [h] → h.island = i.val → h.device = false → s.power.newReq = [] → h.refused = none → h.waiting = [] → h.target < 8 →
      ∃ t : State, exec (.handshakeCommit i) s = .next t.settle ∧ t.power.hs = [] ∧ t.islandState i.val = h.target ∧
        t.getF (Reg.BLK_PWR (leadPage i.val)) Fld.BLK_PWR_PENDING = 0))

open Sys2Proof Sys2Proof.Machine Sys2Proof.Claims in
/-- A parked or waiting core, and a cluster of idle cores, enter IDLE on their own (R421). A wake event before the commit aborts the
handshake with reason 7, after it the island is in RUN again (R427, R422). An access to a block asleep with AUTOWAKE counts as a wake event
and wakes the island (R430, R427); one that is not awake in time gives the block's asleep response and is logged (R430). -/
def Obligations.IslandsIdleAndWake : Prop :=
  (∀ (c : CoreId) (s : State),
    ((s.core c.val).run = .parked ∨ (s.core c.val).run = .waiting →
      exec (.coreIdleEntry c) s = .next (s.setCore c.val { s.core c.val with idle := true })) ∧
    ((s.core c.val).run ≠ .parked → (s.core c.val).run ≠ .waiting → exec (.coreIdleEntry c) s = .next s)) ∧
  (∀ (i : Fin 136) (s : State),
    let ok := s.islandState i.val = 0 ∧ s.islandFailed i.val = false ∧
      (i.val < 96 → ∀ c ∈ clusterCores i.val, (s.core c).idle = true ∨ (s.core c).run = .off)
    (¬ok → exec (.islandIdleEntry i) s = .next s) ∧
    (ok → ∃ t : State, exec (.islandIdleEntry i) s = .next t.settle ∧ t.islandState i.val = 1)) ∧
  (∀ (i : Fin 136) (s : State), (s.islandFailed i.val = true → exec (.islandWake i) s = .next s) ∧
    (∀ h, s.islandFailed i.val = false → s.power.hs = [h] → h.island = i.val → h.device = false → s.power.newReq = [] →
      i.val ∈ s.power.wakeWait → ∃ t : State, exec (.islandWake i) s = .next t ∧ t.power.hs = [] ∧
        t.getF (Reg.PWC_ISL i.val) Fld.PWC_ISL_ABORTS = min 0xFFFFFFFF (s.getF (Reg.PWC_ISL i.val) Fld.PWC_ISL_ABORTS + 1)) ∧
    (s.islandFailed i.val = false → s.hsOf i.val = none → 2 ≤ s.islandState i.val → s.devState = 0 →
      (i.val ∈ s.power.wakeWait ∨ (i.val < 96 ∧ s.clusterWake i.val = true) → ∃ t : State, exec (.islandWake i) s = .next t.settle ∧
        t.islandState i.val = 0 ∧ i.val ∉ t.power.wakeWait) ∧
      (i.val ∉ s.power.wakeWait → (i.val < 96 → s.clusterWake i.val = false) → exec (.islandWake i) s = .next s))) ∧
  (∀ (s : State) (n c i : Nat), c ∈ clusterCores n → i < 64 → s.armed c i = true → s.clusterWake n = true) ∧
  (∀ (page : BitVec 12) (s : State), let i := pageIsland page.toNat
    (s.isF (Reg.BLK_PWR page.toNat) Fld.BLK_PWR_AUTOWAKE = false ∨ i = 255 ∨ s.islandFailed i = true →
      exec (.autowakeAccess page) s = .next s) ∧
    (s.isF (Reg.BLK_PWR page.toNat) Fld.BLK_PWR_AUTOWAKE = true → i ≠ 255 → s.islandFailed i = false →
      (∀ h, s.power.hs = [h] → h.island = i → h.device = false → s.power.newReq = [] → ∃ t, exec (.autowakeAccess page) s = .next t ∧ t.power.hs = []) ∧
      (s.hsOf i = none → 2 ≤ s.islandState i → ∃ t : State, exec (.autowakeAccess page) s = .next t ∧ i ∈ t.power.wakeWait ∧ t.regs = s.regs)) ∧
    (s.blockAsleep page.toNat = false ∨ s.isF (Reg.BLK_PWR page.toNat) Fld.BLK_PWR_AUTOWAKE = false →
      exec (.autowakeTimeout page) s = .next s) ∧
    (s.blockAsleep page.toNat = true → s.isF (Reg.BLK_PWR page.toNat) Fld.BLK_PWR_AUTOWAKE = true →
      ∃ t : State, exec (.autowakeTimeout page) s = .next t ∧ i ∉ t.power.wakeWait ∧
        t.getF Reg.ATL_HEAD Fld.ATL_HEAD_HEAD = (s.getF Reg.ATL_HEAD Fld.ATL_HEAD_HEAD + 1) % 2 ^ Fld.ATL_HEAD_HEAD.w ∧
        ∀ c e, s.storeWaiting page.toNat = some (c, e) → (t.core c).sb = (s.core c).sb.drop 1 ∧ t.mem = s.mem))

/-! ### The timebase and resets (chapter 18) -/

namespace Sys2Proof.Claims

open Sys2Proof.Machine

/-- What a cold reset keeps in the atlas: the words that stand for MRAM, and RST_WAKE (R451). -/
def coldKept : List Nat :=
  [Reg.RST_ARB 0, Reg.RST_ARB 1, Reg.RST_ARB 2, Reg.RST_ARB 3, Reg.LG_SEQ_NEW, Reg.LG_SEQ_EXP, Reg.LG_WIND, Reg.LG_LOSS, Reg.RST_WAKE]

/-- `t` is `s` behind a cold reset, about to start: caches, cores, memory and every register but those kept are as at reset; the timebase
goes on (R451). -/
def ColdReset (s t : State) : Prop :=
  t.boot.st = .starting ∧ t.getF Reg.RST_WAKE Fld.RST_WAKE_CAUSE = 1 ∧ t.tb = s.tb ∧ t.cores = [] ∧ t.lines = [] ∧ t.mem = [] ∧
  (∀ k, k ∉ coldKept → t.rd k = resetOf s.code k) ∧ (∀ k ∈ coldKept, k ≠ Reg.RST_WAKE → t.rd k = s.rd k) ∧ t.boot.flash = s.boot.flash ∧
  t.ledger.checkpoint = s.ledger.checkpoint

/-- The same for a warm device reset or a fabric-coordinated one, which keep DRAM where KEEPDRAM is set (R451). -/
def WarmReset (s t : State) (cause : Nat) : Prop :=
  t.boot.st = .starting ∧ t.getF Reg.RST_WAKE Fld.RST_WAKE_CAUSE = cause ∧ t.tb = s.tb ∧ t.cores = [] ∧ t.lines = [] ∧
  t.mem = (if s.isF Reg.RST_CFG Fld.RST_CFG_KEEPDRAM then s.mem else []) ∧
  (∀ k ∈ coldKept, k ≠ Reg.RST_WAKE → t.rd k = s.rd k) ∧ (∀ n, n < 96 → t.rd (Reg.CMT_CLUSTER n) = resetOf s.code (Reg.CMT_CLUSTER n)) ∧
  t.ledger.checkpoint = s.ledger.checkpoint

end Sys2Proof.Claims

open Sys2Proof Sys2Proof.Machine Sys2Proof.Claims in
/-- A value written to TBC_SET takes effect at the next correction, and is a denial on a device that follows a fabric master (R443); the
slew adds its parts per billion to each correction, no part lost (R443). -/
def Sys2Proof.Claims.TheTimebaseIsSetAndSlewed : Prop :=
  (∀ (a : Agent) (v : Word) (s : State) (w : Who), Performed s a w Reg.TBC_SET →
    let follows := s.getF Reg.FABG_SYNC Fld.FABG_SYNC_STATE = 1 ∧ s.isF Reg.FABG_SYNC Fld.FABG_SYNC_MASTER = false
    (follows → exec (.tbcSet a v) s = .next (s.denyAt Reg.TBC_SET).settle) ∧
    (¬follows → ∃ t : State, exec (.tbcSet a v) s = .next t.settle ∧ t.tbSet = some v ∧ t.tb = s.tb)) ∧
  (∀ (a : Agent) (v : Word) (s : State) (w : Who), Performed s a w Reg.TBC_SLEW → ∃ t : State, exec (.tbcSlew a v) s = .next t.settle ∧
    t.getF Reg.TBC_SLEW Fld.TBC_SLEW_PPB = v.toNat % 2 ^ 24 ∧ t.tb = s.tb) ∧
  (∀ (s : State), -100000 ≤ s.slew ∧ s.slew ≤ 100000 ∧
    (s.getF Reg.TBC_SLEW Fld.TBC_SLEW_PPB ≤ 100000 → s.slew = s.getF Reg.TBC_SLEW Fld.TBC_SLEW_PPB)) ∧
  (∀ (s : State) (v : Word), s.tbSet = some v → ∃ t : State, exec .timebaseCorrection s = .next t ∧ t.tb = v ∧ t.tbSet = none ∧
    t.isF Reg.TBC_STAT Fld.TBC_STAT_STEPPED = true) ∧
  (∀ (s : State), s.tbSet = none → ∃ (t : State) (whole : Int), exec .timebaseCorrection s = .next t ∧
    t.tb = BitVec.ofInt 64 ((s.tb.toNat : Int) + whole) ∧ s.slewAcc + s.slew = whole * 1000000 + t.slewAcc ∧
    0 ≤ t.slewAcc ∧ t.slewAcc < 1000000 ∧ t.regs = s.regs)

open Sys2Proof Sys2Proof.Machine Sys2Proof.Claims in
/-- Device resets by request of W, by RESET_N for its time low, by an accepted RESET of the fabric and by RSTOUT, and the loss of VSTBY:
what each keeps, and who may ask (R405, R448, R451, R452). A RESET with another key is a violation, reason 8 (R405). -/
def Obligations.DeviceResetsKeepWhatTheyMust : Prop :=
  (∀ (a : Agent) (s : State) (w : Who), Performed s a w Reg.RST_REQ →
    (w.wOrBoot = true → (∃ t : State, exec (.coldReset a) s = .next t.settle ∧ ColdReset s t) ∧
      (∃ t : State, exec (.warmDeviceReset a) s = .next t.settle ∧ WarmReset s t 2)) ∧
    (w.wOrBoot = false → (∃ t : State, exec (.coldReset a) s = .next t.settle ∧ t.getF Reg.RST_STAT Fld.RST_STAT_RESULT = 3 ∧
        t.cores = s.cores ∧ t.boot = s.boot) ∧
      (∃ t : State, exec (.warmDeviceReset a) s = .next t.settle ∧ t.getF Reg.RST_STAT Fld.RST_STAT_RESULT = 3 ∧ t.cores = s.cores ∧
        t.boot = s.boot))) ∧
  (∀ (ns : BitVec 64) (s : State),
    (s.boot.st = .noPower ∨ ns.toNat < 1000 → exec (.resetN ns) s = .next s) ∧
    (s.boot.st ≠ .noPower → 1000 ≤ ns.toNat → ns.toNat < 100000000 → s.boot.st ≠ .offLocked →
      ∃ t, exec (.resetN ns) s = .next t ∧ WarmReset s t 2) ∧
    (s.boot.st ≠ .noPower → 100000000 ≤ ns.toNat → ∃ t : State, exec (.resetN ns) s = .next t ∧ ColdReset s t ∧ t.pins.thermtripN = false)) ∧
  (∀ (p : Fin 6) (f : Frame) (s t : State), Taken s p f 0x25#8 t →
    (f.opnd ≠ s.rd Reg.FABG_RSTKEY → exec (.reset p f) s = .next (t.violate p.val f 8).settle) ∧
    (f.opnd = s.rd Reg.FABG_RSTKEY → s.isF Reg.FABG_CTL Fld.FABG_CTL_RSTIN = false → exec (.reset p f) s = .next t.settle) ∧
    (f.opnd = s.rd Reg.FABG_RSTKEY → s.isF Reg.FABG_CTL Fld.FABG_CTL_RSTIN = true → ∃ u : State, exec (.reset p f) s = .next u ∧
      WarmReset s u 3 ∧ u.rd Reg.FABG_NODE = s.rd Reg.FABG_NODE ∧ (∀ k, k < 6 → u.rd (Reg.FABG_SUB k) = s.rd (Reg.FABG_SUB k)) ∧
      u.fab.resetOut = s.resetPorts f.src.toNat (some p.val))) ∧
  (∀ (s : State) (src : Nat) (q : Option Nat) (k : Nat),
    (s.ring = false → (k ∈ s.resetPorts src q ↔ k < 6 ∧ s.isF (Reg.FABG_SUB k) Fld.FABG_SUB_EN = true ∧
      s.isF (Reg.FABG_SUB k) Fld.FABG_SUB_RSTFWD = true)) ∧
    (s.ring = true → 0 < s.getF Reg.FABG_NODE Fld.FABG_NODE_RINGN → (k ∈ s.resetPorts src q ↔ k = s.dnPort ∧ k < 6 ∧
      s.isF (Reg.FABG_SUB k) Fld.FABG_SUB_RSTFWD = true ∧ (s.node + 1) % s.getF Reg.FABG_NODE Fld.FABG_NODE_RINGN ≠ src ∧ q ≠ some k))) ∧
  (∀ (a : Agent) (v : Word) (s : State) (w : Who), Performed s a w Reg.FABG_CTL →
    (v.getLsbD 1 = true → ∃ t : State, exec (.fabgRstout a v) s = .next t.settle ∧ WarmReset s t 3 ∧
      t.fab.resetOut = s.resetPorts s.node none) ∧
    (v.getLsbD 1 = false → ∃ t : State, exec (.fabgRstout a v) s = .next t.settle ∧
      t.isF Reg.FABG_CTL Fld.FABG_CTL_RSTIN = v.getLsbD 0 ∧ t.boot = s.boot)) ∧
  (∀ s : State, ∃ t : State, exec .vstbyLoss s = .next t ∧ t.boot.st = .noPower ∧ t.tb = 0#64 ∧ t.cores = [] ∧ t.mem = [] ∧
    (∀ k, k ∉ coldKept ∨ k = Reg.RST_WAKE → t.rd k = resetOf s.code k) ∧ (∀ k ∈ coldKept, k ≠ Reg.RST_WAKE → t.rd k = s.rd k))

open Sys2Proof Sys2Proof.Machine Sys2Proof.Claims in
/-- Compartment, cluster, core and block resets: who may ask, what each resets, and that a narrower one is absorbed (R451 to R453). Held
cores keep their store buffers while these drain, and then park with their state gone (R201, R451). An anti-rollback value only grows (R456). -/
def Obligations.NarrowResetsReachTheirTargets : Prop :=
  (∀ (a : Agent) (c : CompId) (s : State) (w : Who), Performed s a w Reg.RST_REQ →
    (c.val = 63 ∨ (w.boot = false ∧ w.isH s.platform = false) → ∃ t : State, exec (.compartmentReset a c) s = .next t.settle ∧
      t.getF Reg.RST_STAT Fld.RST_STAT_RESULT = 3 ∧ t.cores = s.cores ∧ t.clusters = s.clusters) ∧
    (c.val ≤ 62 → (w.boot = true ∨ w.isH s.platform = true) → s.clustersOf c.val = [] →
      ∃ t : State, exec (.compartmentReset a c) s = .next t.settle ∧
        t.getF Reg.RST_STAT Fld.RST_STAT_RESULT = (if s.cores.all (fun e => e.2.resetting.isNone) ∧
          s.clusters.all (fun e => e.2.resetKind.isNone) then 2 else 1) ∧
        t.getF Reg.RST_STAT Fld.RST_STAT_LAST_KIND = 2 ∧ (∀ n ∈ s.enginesOf c.val, n ∈ t.io.dmaStop)) ∧
    (∀ n, c.val ≤ 62 → (w.boot = true ∨ w.isH s.platform = true) → s.clustersOf c.val = [n] → (s.cluster n).resetKind = none →
      ∃ t : State, exec (.compartmentReset a c) s = .next t.settle ∧ (t.cluster n).resetKind = some 2 ∧
        (∀ m ∈ s.enginesOf c.val, m ∈ t.io.dmaStop))) ∧
  (∀ (a : Agent) (n : ClusterId) (s : State) (w : Who), Performed s a w Reg.RST_REQ →
    (w.wOrBoot = false → w.isH (s.cid n.val) = false → ∃ t : State, exec (.clusterReset a n) s = .next t.settle ∧
      t.getF Reg.RST_STAT Fld.RST_STAT_RESULT = 3 ∧ t.cores = s.cores ∧ t.clusters = s.clusters) ∧
    ((w.wOrBoot = true ∨ w.isH (s.cid n.val) = true) →
      ((s.cluster n.val).resetKind ≠ none → ∃ t : State, exec (.clusterReset a n) s = .next t.settle ∧ t.cores = s.cores ∧
        t.clusters = s.clusters) ∧
      ((s.cluster n.val).resetKind = none → (s.cluster n.val).drain = none → s.islandState n.val < 2 → s.hsOf n.val = none →
        ∃ t : State, exec (.clusterReset a n) s = .next t.settle ∧ (t.cluster n.val).resetKind = some 1 ∧
          t.getF Reg.RST_STAT Fld.RST_STAT_RESULT = 1 ∧ t.getF Reg.RST_STAT Fld.RST_STAT_LAST_KIND = 3 ∧
          ∀ c ∈ clusterCores n.val, (t.core c).run = .off ∧ (t.core c).task = none ∧ (t.core c).stack = [] ∧
            (t.core c).sb = (s.core c).sb ∧ (t.core c).resetting = some 1))) ∧
  (∀ (a : Agent) (c : CoreId) (s : State) (w : Who), Performed s a w Reg.RST_REQ → let n := c.val / 16
    (w.wOrBoot = false → w.isH (s.cid n) = false → ∃ t : State, exec (.coreReset a c) s = .next t.settle ∧
      t.getF Reg.RST_STAT Fld.RST_STAT_RESULT = 3 ∧ t.cores = s.cores) ∧
    ((w.wOrBoot = true ∨ w.isH (s.cid n) = true) → (s.cluster n).resetKind = none → (s.core c.val).resetting = none →
      (s.cluster n).drain = none → s.islandState n < 2 → s.hsOf n = none →
      ∃ t : State, exec (.coreReset a c) s = .next t.settle ∧ (t.core c.val).run = .off ∧ (t.core c.val).task = none ∧
        (t.core c.val).sb = (s.core c.val).sb ∧ (t.core c.val).resetting = some 0 ∧ (∀ d, d ≠ c.val → t.core d = s.core d) ∧
        t.getF Reg.RST_STAT Fld.RST_STAT_LAST_KIND = 4)) ∧
  (∀ (n : ClusterId) (s : State), (∀ c ∈ clusterCores n.val, (s.core c).resetting ≠ none) → ∃ t : State,
    exec (.resetDrainEnd n) s = .next t.settle ∧ (t.cluster n.val).resetKind = none ∧ ∀ c ∈ clusterCores n.val,
      (t.core c).run = (if (s.core c).retired then .off else .parked) ∧ (t.core c).sb = [] ∧ (t.core c).resetting = none) ∧
  (∀ (a : Agent) (page : BitVec 12) (s : State) (w : Who), Performed s a w Reg.RST_REQ →
    (Blk.ofPage page.toNat = none → ∃ t : State, exec (.blockReset a page) s = .next t.settle ∧
      t.getF Reg.RST_STAT Fld.RST_STAT_RESULT = 3) ∧
    (∀ b i, Blk.ofPage page.toNat = some (b, i) →
      (w.boot = false → s.wardenOwned w page.toNat = true → ∃ t : State, exec (.blockReset a page) s = .next t.settle ∧
        t.getF Reg.RST_STAT Fld.RST_STAT_RESULT = 3 ∧ t.getF Reg.WDN_DENY Fld.WDN_DENY_LAST_BLK = page.toNat) ∧
      (w.boot = false → s.isOwner w page.toNat = false → ∃ t : State, exec (.blockReset a page) s = .next t.settle ∧
        t.getF Reg.RST_STAT Fld.RST_STAT_RESULT = 3 ∧ t.cores = s.cores) ∧
      (w.boot = true ∨ (s.wardenOwned w page.toNat = false ∧ s.isOwner w page.toNat = true) → page.toNat ≠ Reg.RST_REQ / 4096 →
        ∃ t : State, exec (.blockReset a page) s = .next t.settle ∧ t.getF Reg.RST_STAT Fld.RST_STAT_RESULT = 2 ∧
          (t.rd (Reg.BLK_OWNER page.toNat)).toNat % 256 = (s.rd (Reg.BLK_OWNER page.toNat)).toNat % 256 ∧
          ∀ k, k / 4096 = page.toNat → blockKeep b (k % 4096) = 0#64 → t.rd k = resetOf s.code k))) ∧
  (∀ (a : Agent) (k : Fin 4) (v : Word) (s : State) (w : Who), Performed s a w (Reg.RST_ARB k.val) →
    let m := s.getF (Reg.RST_ARB k.val) Fld.RST_ARB_MIN
    (k.val ∉ s.boot.arbBad → v.toNat % 2 ^ 32 ≤ m → exec (.rstArbWrite a k v) s = .next (s.denyAt (Reg.RST_ARB k.val)).settle) ∧
    (k.val ∈ s.boot.arbBad ∨ m < v.toNat % 2 ^ 32 → ∃ t : State, exec (.rstArbWrite a k v) s = .next t.settle ∧
      t.getF (Reg.RST_ARB k.val) Fld.RST_ARB_MIN = v.toNat % 2 ^ 32))

/-! ### Start-up, its failure branches, management and supplies (chapter 18) -/

namespace Sys2Proof.Claims

open Sys2Proof.Machine

/-- A start-up report without a fault of a clock, an island, a channel, a cluster or a way. -/
def Clean (r : StartReport) : Prop :=
  r.xtal25 = true ∧ r.xtal32k = true ∧ r.refclk = true ∧ r.ivrFailed = [] ∧ r.untrained = [] ∧ r.geoms = [] ∧ r.clusterBad = [] ∧
  r.coreBad = [] ∧ r.l3Bad = []

/-- Whether start-up meets order B on a single-rank population, which cannot use it (R334). -/
def SingleRankB (s : State) (r : StartReport) : Prop :=
  r.geom.rankBits.val = 0 ∧ if s.isF Reg.DMG_CFG Fld.DMG_CFG_LOCK then s.orderB = true else r.order.val = 1

end Sys2Proof.Claims

open Sys2Proof Sys2Proof.Machine Sys2Proof.Claims in
/-- Start-up ends before hand-over with every core parked at 0.8 GHz, DRAM zeroed and DMG_TOP set (R445, R446), or in the branch of its
failure: limp, OFF with the island named, recovery hold, or DRAM hold, each with its code in RST_WAKE.FAIL and FAULT_N asserted (R448). Every
channel trains with leave of 40 credits (R345, R416), and order B does not train a single-rank population (R334; log 148). An
IVR is retried 3 times; a channel that trains in DRAM hold lets start-up go on (R345, R448). -/
def Obligations.StartUpFollowsItsSteps : Prop :=
  (∀ (r : StartReport) (s : State), s.boot.st ≠ .noPower → s.boot.st ≠ .starting → exec (.startUp r) s = .next s) ∧
  (∀ (r : StartReport) (s : State), s.boot.st = .noPower ∨ s.boot.st = .starting →
    (r.xtal25 = false → ∃ t : State, exec (.startUp r) s = .next t.settle ∧ t.boot.st = .limp ∧ t.pins.faultN = true ∧
      t.getF Reg.RST_WAKE Fld.RST_WAKE_FAIL = 1 ∧ t.getF Reg.TBC_STAT Fld.TBC_STAT_SRC = if r.xtal32k then 1 else 2) ∧
    (∀ i, r.xtal25 = true → i ∈ [133, 134] → State.mainBad r (fun j => decide (j = 133 ∨ j = 134)) = some i →
      ∃ t : State, exec (.startUp r) s = .next t.settle ∧ t.boot.st = .offLocked ∧ t.pins.faultN = true ∧
        t.getF Reg.RST_WAKE Fld.RST_WAKE_FAIL = 2 ∧ t.getF Reg.RST_WAKE Fld.RST_WAKE_ISLAND = i) ∧
    (Clean r → ¬SingleRankB s r → s.boot.st ≠ .waitHandover → s.committed none + 640 ≤ s.poolSize none →
      ∃ t : State, exec (.startUp r) s = .next t.settle ∧
      match (s.slotPair 0).or (s.slotPair 0x1000000) with
      | none => t.boot.st = .recoveryHold ∧ t.pins.faultN = true ∧ t.getF Reg.RST_WAKE Fld.RST_WAKE_FAIL = 3 ∧
        t.getF Reg.RST_WAKE Fld.RST_WAKE_SLOT = 2
      | some u => t.boot.st = .waitHandover ∧ t.boot.inService = some u ∧
        t.getF Reg.RST_WAKE Fld.RST_WAKE_SLOT = (if s.slotPair 0 = none then 1 else 0) ∧ t.getF Reg.RST_WAKE Fld.RST_WAKE_STAGE = 8 ∧
        t.getF Reg.DMG_TOP Fld.DMG_TOP_TOP =
          min (if t.sparing then geomCapacity r.geom / 16 * 15 else geomCapacity r.geom) (2 ^ 42) ∧ t.pins.faultN = false ∧
        (∀ c, c < 1536 → (t.core c).run = .parked) ∧ (∀ n, n < 96 → t.opPoint n = 0) ∧
        (s.boot.st = .noPower ∨ s.isF Reg.RST_CFG Fld.RST_CFG_KEEPDRAM = false → t.mem = [])) ∧
    (Clean r → SingleRankB s r → ∃ t : State, exec (.startUp r) s = .next t.settle ∧ t.pins.faultN = true ∧
      (t.boot.st = .recoveryHold ∨ t.boot.st = .dramHold)) ∧
    (∀ n, Clean { r with untrained := [] } → r.untrained = [n] → r.spare = false → s.isF Reg.DMG_CFG Fld.DMG_CFG_LOCK = false →
      ∃ t : State, exec (.startUp r) s = .next t.settle ∧ t.pins.faultN = true ∧
        match (s.slotPair 0).or (s.slotPair 0x1000000) with
        | none => t.boot.st = .recoveryHold
        | some _ => t.boot.st = .dramHold ∧ t.getF Reg.RST_WAKE Fld.RST_WAKE_FAIL = 4 ∧ t.boot.report = some r ∧
          t.isF (Reg.DMC_STAT n.val) Fld.DMC_STAT_PRESENT = false)) ∧
  (∀ s : State, (s.boot.st ≠ .starting → s.boot.st ≠ .noPower → exec .xtal25Timeout s = .next s) ∧
    (s.boot.st = .starting ∨ s.boot.st = .noPower → ∃ t : State, exec .xtal25Timeout s = .next t ∧ t.boot.st = .limp ∧
      t.pins.faultN = true ∧ t.getF Reg.RST_WAKE Fld.RST_WAKE_FAIL = 1)) ∧
  (∀ (i : Fin 136) (s : State), s.boot.st = .starting →
    (s.getF Reg.RST_WAKE Fld.RST_WAKE_ISLAND ≠ i.val ∨ s.getF Reg.RST_WAKE Fld.RST_WAKE_RETRY < 3 →
      ∃ t : State, exec (.ivrReadyTimeout i) s = .next t ∧ t.getF Reg.RST_WAKE Fld.RST_WAKE_ISLAND = i.val ∧ t.boot = s.boot ∧
        t.getF Reg.RST_WAKE Fld.RST_WAKE_RETRY =
          if s.getF Reg.RST_WAKE Fld.RST_WAKE_ISLAND = i.val then s.getF Reg.RST_WAKE Fld.RST_WAKE_RETRY + 1 else 1) ∧
    (s.getF Reg.RST_WAKE Fld.RST_WAKE_ISLAND = i.val → s.getF Reg.RST_WAKE Fld.RST_WAKE_RETRY = 3 →
      (mainIsland i.val = true → ∃ t : State, exec (.ivrReadyTimeout i) s = .next t ∧ t.boot.st = .offLocked ∧ t.pins.faultN = true ∧
        t.getF Reg.RST_WAKE Fld.RST_WAKE_FAIL = 2 ∧ t.getF Reg.RST_WAKE Fld.RST_WAKE_ISLAND = i.val) ∧
      (i.val < 96 → ∃ t : State, exec (.ivrReadyTimeout i) s = .next t ∧ t.isF (Reg.CMT_CLUSTER i.val) Fld.CMT_CLUSTER_FAILED = true ∧
        t.isF (Reg.PWC_ISL i.val) Fld.PWC_ISL_FAILED = true ∧ t.boot = s.boot))) ∧
  (∀ (n : Fin 16) (ok : Bool) (s u : State) (r : StartReport), s.boot.st = .dramHold → s.boot.report = some r → r.geoms = [] →
    r.geom.rankBits.val ≠ 0 ∨ s.orderB = false → r.ivrFailed = [] → s.dram.copyWait = none → s.sparing = false →
    s.isF (Reg.DMC_STAT n.val) Fld.DMC_STAT_PRESENT = false →
    (∀ m, m < 16 → m ≠ n.val → s.isF (Reg.DMC_STAT m) Fld.DMC_STAT_PRESENT = true) →
    (s.askLeave (.dram n) = (u, false) → exec (.channelTraining n ok) s = .next s) ∧
    (s.askLeave (.dram n) = (u, true) →
      (ok = true → ∃ t : State, exec (.channelTraining n ok) s = .next t.settle ∧ t.boot.st = .waitHandover ∧
        t.isF (Reg.DMC_STAT n.val) Fld.DMC_STAT_PRESENT = true) ∧
      (ok = false → ∃ t : State, exec (.channelTraining n ok) s = .next t.settle ∧ t.boot.st = .dramHold ∧
        t.isF (Reg.DMC_STAT n.val) Fld.DMC_STAT_PRESENT = false ∧
        t.triesOf n.val = if s.triesOf n.val < 2 then s.triesOf n.val + 1 else 0))) ∧
  (∀ (n : Fin 16) (ok : Bool) (s : State), s.boot.st ≠ .dramHold → s.boot.st ≠ .running → exec (.channelTraining n ok) s = .next s)

open Sys2Proof Sys2Proof.Machine Sys2Proof.Claims in
/-- The Keeper answers STATUS, RETRY, OFF, FLASH_WRITE and FLASH_ERASE while it waits for management, the last two in recovery hold and
DRAM hold only and in slot B only (R449). WAKE_N and the I3C wake start a device in OFF (R450). A device whose supply goes down enters OFF,
MRAM, the timebase and RST_WAKE kept (R444, R450). -/
def Sys2Proof.Claims.ManagementAndSuppliesActAsStated : Prop :=
  (∀ (s : State),
    let waits := s.boot.st ∈ [.limp, .recoveryHold, .dramHold, .off, .offLocked]
    (¬waits → exec .status s = .next s ∧ exec .retry s = .next s ∧ exec .off s = .next s) ∧
    (waits → (∃ t, exec .status s = .next t ∧ t.boot.mgmtReply = some (s.rd Reg.RST_WAKE, s.rd Reg.DEV_IDENT) ∧ t.regs = s.regs) ∧
      (∃ t : State, exec .retry s = .next t ∧ ColdReset s t ∧ t.pins.thermtripN = false) ∧
      (∃ t : State, exec .off s = .next t ∧ (t.boot.st = .off ∨ t.boot.st = .offLocked) ∧ t.tb = s.tb ∧
        ∀ k ∈ coldKept, t.rd k = s.rd k))) ∧
  (∀ (off : BitVec 24) (data : List Byte) (s : State), data.length ≤ 256 →
    (s.boot.st ≠ .recoveryHold → s.boot.st ≠ .dramHold → exec (.flashWrite off data) s = .next s) ∧
    (s.boot.st = .recoveryHold ∨ s.boot.st = .dramHold → ∃ t, exec (.flashWrite off data) s = .next t ∧ t.regs = s.regs ∧
      ∀ a, t.flashByte a = if 0x1000000 + off.toNat ≤ a ∧ a < 0x1000000 + off.toNat + data.length ∧ a < 0x2000000 then
        data.getD (a - 0x1000000 - off.toNat) 0#8 else s.flashByte a)) ∧
  (∀ (off : BitVec 24) (data : List Byte) (s : State), 256 < data.length → exec (.flashWrite off data) s = .fault .illFormed) ∧
  (∀ (sector : BitVec 8) (s : State),
    (s.boot.st ≠ .recoveryHold → s.boot.st ≠ .dramHold → exec (.flashErase sector) s = .next s) ∧
    (s.boot.st = .recoveryHold ∨ s.boot.st = .dramHold → ∃ t, exec (.flashErase sector) s = .next t ∧ t.regs = s.regs ∧
      ∀ a, t.flashByte a = if a / 0x10000 = 0x100 + sector.toNat then 0xFF#8 else s.flashByte a)) ∧
  (∀ s : State, (s.boot.st = .off → ∀ i ∈ [Instr.wakeN, .i3cWake], ∃ t : State, exec i s = .next t ∧ t.boot.st = .starting ∧
      t.getF Reg.RST_WAKE Fld.RST_WAKE_CAUSE = 4 ∧ t.pins.pwrgood = true ∧ t.tb = s.tb) ∧
    (s.boot.st ≠ .off → exec .i3cWake s = .next s) ∧
    (s.boot.st ≠ .off → (∀ h ∈ s.power.hs, h.device = true → h.target ≠ 4) → exec .wakeN s = .next s)) ∧
  (∀ s : State, (s.pins.pwrgood = false → exec .vinUndervoltage s = .next s) ∧
    (∀ i, (i = Instr.pwrgoodDeassert ∨ (i = .vinUndervoltage ∧ s.pins.pwrgood = true)) →
      (s.boot.st ∈ [.noPower, .off, .offLocked] → ∃ t, exec i s = .next t ∧ t.pins.pwrgood = false ∧ t.boot = s.boot ∧ t.regs = s.regs) ∧
      (s.boot.st ∉ [.noPower, .off, .offLocked] → ∃ t : State, exec i s = .next t ∧ t.pins.pwrgood = false ∧ t.boot.st = .off ∧
        t.tb = s.tb ∧ t.mem = [] ∧ t.cores = [] ∧ t.ledger.checkpoint = s.ledger.checkpoint ∧ ∀ k ∈ coldKept, t.rd k = s.rd k)))

open Sys2Proof Sys2Proof.Machine Sys2Proof.Claims in
/-- Hand-over: at boot firmware's GO the platform compartment owns CMT and the other pages, core 0 of the cluster named starts at H at
RST_HOV_PC with interrupts disabled and its banks 0, and the hand-over registers are locked; the warden starts from its image with the
secure watchdog on, or hand-over goes on without it (R447, R448, R307). Nobody else may write RST_HOV_CTL. -/
def Sys2Proof.Claims.HandOverStartsThePlatform : Prop :=
  (∀ (a : Agent) (v : Word) (s : State) (w : Who), s.who a = some w → w.boot = false →
    exec (.rstHovGo a v) s = .next (if s.blockAsleep (Reg.RST_HOV_CTL / 4096) then s.strayBy 5 true (regAddr Reg.RST_HOV_CTL) w
      else s.logDeny (Reg.RST_HOV_CTL / 4096) (regAddr Reg.RST_HOV_CTL)).settle) ∧
  ∀ (a : Agent) (v : Word) (s : State) (w : Who), Performed s a w Reg.RST_HOV_CTL →
    (s.boot.hovLocked = true → exec (.rstHovGo a v) s = .next (s.denyAt Reg.RST_HOV_CTL).settle) ∧
    (w.boot = true → s.boot.hovLocked = false → v.getLsbD 52 = false ∨ s.boot.st ≠ .waitHandover →
      ∃ t : State, exec (.rstHovGo a v) s = .next t.settle ∧ t.boot = s.boot ∧ t.cores = s.cores) ∧
    (w.boot = true → s.boot.hovLocked = false → v.getLsbD 52 = true → s.boot.st = .waitHandover →
      let plat := v.toNat % 64
      let hcl := v.toNat / 64 % 128
      hcl < 96 → ∃ t : State, exec (.rstHovGo a v) s = .next t.settle ∧ t.boot.st = .running ∧ t.boot.hovLocked = true ∧
        t.getF Reg.IDX_STAT Fld.IDX_STAT_ALIVE = 15 ∧ t.getF Reg.RST_WAKE Fld.RST_WAKE_STAGE = 10 ∧
        (t.rd (Reg.BLK_OWNER pageCMT)).toNat = plat ∧ (t.rd (Reg.BLK_OWNER 0x10)).toNat = 0xFF ∧
        (t.core (hcl * 16)).lvl = 2#2 ∧ (t.core (hcl * 16)).pc = s.rd Reg.RST_HOV_PC &&& ~~~1#64 ∧ (t.core (hcl * 16)).ie = false ∧
        (t.core (hcl * 16)).run = .running ∧ (∀ l, ((t.core (hcl * 16)).bank l).osp = 0#64) ∧
        ((t.isF Reg.SWD_CTL Fld.SWD_CTL_EN = true ∧ t.getF Reg.WDN_STAT Fld.WDN_STAT_STATE = 1) ∨
          (s.wardenImage 0 = none ∧ s.wardenImage 1 = none ∧ t.pins.faultN = true ∧ t.getF Reg.RST_WAKE Fld.RST_WAKE_FAIL = 5 ∧
            t.isF Reg.SWD_CTL Fld.SWD_CTL_EN = s.isF Reg.SWD_CTL Fld.SWD_CTL_EN ∧ t.getF Reg.WDN_STAT Fld.WDN_STAT_STATE = 0)))

/-! ### The parcels of chapter 3 -/

open Sys2Proof in
/-- What the parcel decoder reads is a well-formed instruction of the core that reads it, and no two parcels spell the same
one-parcel instruction: no bit of an encoding is dropped (R50 to R75). -/
def Sys2Proof.Claims.DecodedParcelsAreWellFormedAndDistinct : Prop :=
  (∀ (c : CoreId) (ps : List Parcel) (i : Instr) (n : Nat), decodeParcels c ps = some (i, n) → i.wf = true ∧ 1 ≤ n ∧ n ≤ ps.length ∧ n ≤ 5) ∧
  (∀ (c : CoreId) (p q : Parcel) (i : Instr), decodeOne c p = some i → decodeOne c q = some i → p = q) ∧
  (∀ (c d : CoreId) (p : Parcel) (i : Instr), decodeOne c p = some i → decodeOne d p = some i → c = d) ∧
  (∀ (c : CoreId) (p : Parcel), parcelUndefined p = true ↔ ∀ rest : List Parcel, decodeParcels c (p :: rest) = none)

open Sys2Proof in
/-- Words written out from the encoding tables of chapter 3 read as the instructions they stand for. -/
def Sys2Proof.Claims.ParcelsOfEachClassDecode : Prop :=
  ∀ c : CoreId,
    decodeOne c 0x0002#16 = some (.dup c) ∧ decodeOne c 0x0203#16 = some (.put c 3#4) ∧ decodeOne c 0x1000#16 = some (.add c) ∧
    decodeOne c 0x37F0#16 = some (.lit c 0x7F0#11) ∧ decodeOne c 0x40FF#16 = some (.addi c 0xFF#8) ∧
    decodeOne c 0x5401#16 = some (.stl c 1#10) ∧ decodeOne c 0x6C02#16 = some (.ldd c 2#9) ∧ decodeOne c 0x7DFF#16 = some (.std c 0x1FF#9) ∧
    decodeOne c 0x82E0#16 = some (.aadd c true true) ∧ decodeOne c 0x8180#16 = some (.acas c false false) ∧
    decodeOne c 0xB001#16 = some (.ret c) ∧ decodeOne c 0xC000#16 = some (.mfs c 0#12) ∧ decodeOne c 0xE003#16 = some (.mbar c) ∧
    decodeOne c 0xF503#16 = some (.sealD c) ∧
    decodeParcels c [0x3B00#16, 0xFFFF#16, 0xFFFF#16] = some (.litx c true [0xFFFF#16, 0xFFFF#16], 3) ∧
    parcelUndefined 0x3F00#16 = true

/-! ### Statements made of several -/

/-- Parcels decode to well-formed instructions, no two parcels to the same one, and spelled-out words read right: the statements above, together. -/
def Obligations.DecodedInstructionsAreWellFormedAndDistinct : Prop :=
  Sys2Proof.Claims.DecodedParcelsAreWellFormedAndDistinct ∧ Sys2Proof.Claims.ParcelsOfEachClassDecode

/-- Stack instructions and literals have their stack effects: the statements above, together. -/
def Obligations.StackInstructionsHaveTheirStackEffects : Prop :=
  Sys2Proof.Claims.StackEffectsOfClassZero ∧ Sys2Proof.Claims.DepthLrAndFpInstructions ∧ Sys2Proof.Claims.LiteralsPushTheirValues

/-- Arithmetic pushes wrapped results and sets V and DZ exactly where the tables say: the statements above, together. -/
def Obligations.ArithmeticWrapsAndSetsItsStickyBits : Prop :=
  Sys2Proof.Claims.ArithmeticWrapsAndSetsOverflow ∧ Sys2Proof.Claims.DivisionAndHighProducts

/-- Logic, extensions, shifts, rotates, compares and SEL push their results: the statements above, together. -/
def Obligations.LogicShiftsAndComparesPushTheirResults : Prop :=
  Sys2Proof.Claims.LogicAndExtensions ∧ Sys2Proof.Claims.ShiftsSaturateAndRotatesWrap ∧ Sys2Proof.Claims.ComparesPushOneOrZero

/-- AES, SHA-2, carry-less, bit and SEAL instructions push their results; the last AES rounds are inverse: the statements above, together. -/
def Obligations.ExtensionInstructionsPushTheirResults : Prop :=
  Sys2Proof.Claims.AesInstructionsApplyTheirSteps ∧ Sys2Proof.Claims.LastAesRoundsAreInverse ∧
  Sys2Proof.Claims.Sha2FunctionsAndCarrylessMultiply ∧ Sys2Proof.Claims.BitManipulationAndSeal

/-- The stack checks are exact and a failed one raises its cause with no other effect: the statements above, together. -/
def Obligations.StackChecksAreExactAndRaiseTheirCauses : Prop :=
  Sys2Proof.Claims.StackChecksAreExact ∧ Sys2Proof.Claims.FailedChecksRaiseTheirCauses

/-- Loads push the bytes read, from the store buffer or from the line held: the statements above, together. -/
def Obligations.LoadsReadBufferLineAndMemory : Prop :=
  Sys2Proof.Claims.LoadsPushTheBytesRead ∧ Sys2Proof.Claims.LoadIsForwardedFromTheStoreBuffer ∧
  Sys2Proof.Claims.LoadOfAHeldLineReadsItsBytes

/-- Stores commit to the store buffer and write exactly their bytes when they leave it: the statements above, together. -/
def Obligations.StoresCommitAndDrainTheirBytes : Prop :=
  Sys2Proof.Claims.StoresCommitTheirBytes ∧ Sys2Proof.Claims.StoreEntersTheStoreBuffer ∧
  Sys2Proof.Claims.DrainedStoreWritesExactlyItsBytes

/-- Atomics push the old value and write the new one: the statements above, together. -/
def Obligations.AtomicsExchangeOldForNew : Prop :=
  Sys2Proof.Claims.AtomicsComputeTheirNewValue ∧ Sys2Proof.Claims.AtomicsPushTheOldValue

/-- Transfers, conditional branches and their delay slots: the statements above, together. -/
def Obligations.TransfersAndBranchesSetThePc : Prop :=
  Sys2Proof.Claims.TransfersSetThePcAndLr ∧ Sys2Proof.Claims.ConditionalBranchesAndTheirDelaySlots ∧
  Sys2Proof.Claims.ForbiddenDelaySlotsRaiseIllegalParcel

/-- Taking an exception saves and sets what the spec says; TRAP and HCALL take one; ERET restores it: the statements above, together. -/
def Obligations.ExceptionsEnterAndReturn : Prop :=
  Sys2Proof.Claims.ExceptionEntryCommits ∧ Sys2Proof.Claims.TrapAndHcallEnterTheirHandlers ∧
  Sys2Proof.Claims.EretRestoresTheSavedContext

/-- MFS and MTS read and write each system register at its levels, and raise its checks elsewhere: the statements above, together. -/
def Obligations.SystemRegistersAreCheckedReadAndWritten : Prop :=
  Sys2Proof.Claims.SystemRegistersAreReadAndWritten ∧ Sys2Proof.Claims.SystemRegisterChecks ∧
  Sys2Proof.Claims.StackRegisterAndStatusWrites

/-- Barriers, cache maintenance by line and range, and prefetches: the statements above, together. -/
def Obligations.BarriersAndMaintenanceActOnTheirLines : Prop :=
  Sys2Proof.Claims.BarriersAndSynchronisation ∧ Sys2Proof.Claims.CacheMaintenanceCommitsItsLines ∧
  Sys2Proof.Claims.PerformedMaintenanceOfALine ∧ Sys2Proof.Claims.PrefetchesNeverFault

/-- TLB invalidations complete and remove exactly the entries they name: the statements above, together. -/
def Obligations.TlbInvalidationsRemoveTheirEntries : Prop :=
  Sys2Proof.Claims.TlbInvalidationInstructions ∧ Sys2Proof.Claims.InvalidationsRemoveTheirEntries

/-- QPUSH, QPOP, WAIT, QDONE, YIELD and WCALL: the statements above, together. -/
def Obligations.QueueInstructionsAndRequestsComplete : Prop :=
  Sys2Proof.Claims.QueuePushAndPop ∧ Sys2Proof.Claims.WaitHoldsTheContext ∧ Sys2Proof.Claims.QdoneAndYieldEndTheTask ∧
  Sys2Proof.Claims.WcallQueuesItsRequest

/-- Exceptions outside the instructions, interrupts, late arrivals, deferred reports and pending bits: the statements above, together. -/
def Obligations.CoreEventsAreTakenInTheirOrder : Prop :=
  Sys2Proof.Claims.ExceptionsOutsideTheInstructions ∧ Sys2Proof.Claims.InterruptsAreTakenInTheirOrder ∧
  Sys2Proof.Claims.LateArrivalsReportsAndPendingBits

/-- Lines, far atomics, device accesses and lost flits at the home slice: the statements above, together. -/
def Obligations.LinesMoveThroughTheHomeSlice : Prop :=
  Sys2Proof.Claims.HomeSliceGrantsSharedAndExclusiveCopies ∧ Sys2Proof.Claims.CopiesReturnToTheHomeSlice ∧
  Sys2Proof.Claims.FarAtomicsAndDmaAtTheHomeSlice ∧ Sys2Proof.Claims.PostedStoresWalksAndLostFlits ∧
  Sys2Proof.Claims.LoadsFromDeviceWindows

/-- Dispatch loads a frame's context and preemption saves it: the statements above, together. -/
def Obligations.TasksAreDispatchedAndPreempted : Prop :=
  Sys2Proof.Claims.DispatchLoadsTheFramesContext ∧ Sys2Proof.Claims.PreemptionSavesTheTask

/-- Warden requests are delivered and answered; the warden restarts under its watchdog: the statements above, together. -/
def Obligations.TheWardenAnswersAndRestarts : Prop :=
  Sys2Proof.Claims.WardenRequestsAreDeliveredAndAnswered ∧ Sys2Proof.Claims.WardenRestartsAndTheSecureWatchdog

/-- Colors and steering change in place, and beat wheels grant their slots: the statements above, together. -/
def Obligations.ColorsSteeringAndBeatWheels : Prop :=
  Sys2Proof.Claims.ColorsAndSteeringChangeInPlace ∧ Sys2Proof.Claims.BeatWheelsGrantTheirSlots

/-- Compartment barriers, arbiters, spare ways, band flushes and the prefetch bound: the statements above, together. -/
def Obligations.BarriersArbitersAndWays : Prop :=
  Sys2Proof.Claims.BarrierReleasesWhenAllHaveArrived ∧ Sys2Proof.Claims.ArbitersGrantByPriorityAndTurn ∧
  Sys2Proof.Claims.SpareWaysBandFlushesAndPrefetchDegree

/-- Owners, secure attributes, error injection and block interrupts: the statements above, together. -/
def Obligations.OwnersAttributesAndBlockInterrupts : Prop :=
  Sys2Proof.Claims.OwnersAndSecureAttributesFollowTheirRule ∧ Sys2Proof.Claims.BlockInterruptsRaiseOneEvent

/-- Held events, GPIO edges, PCIe errors and link loss, and the TAP: the statements above, together. -/
def Obligations.HeldEventsPinsTapAndLinkFaults : Prop :=
  Sys2Proof.Claims.HeldEventsPinsAndLinkFaults ∧ Sys2Proof.Claims.TheTapFollowsItsStates

/-- The timebase follows its parent (slew in one piece: log 22), and is set and slewed by software: the statements above, together. -/
def Obligations.TheTimebaseFollowsAndIsSet : Prop :=
  Sys2Proof.Claims.TheTimebaseFollowsItsParent ∧ Sys2Proof.Claims.TheTimebaseIsSetAndSlewed

/-- Management commands, supplies and wakes, and hand-over: the statements above, together. -/
def Obligations.ManagementSuppliesAndHandOver : Prop :=
  Sys2Proof.Claims.ManagementAndSuppliesActAsStated ∧ Sys2Proof.Claims.HandOverStartsThePlatform
end

