-- ==== Sys2Proof/Laws/Map.lean ====
section
/-! SUPPORT. Sparse maps: what a key reads after a write, and that every operation keeps the canonical form. -/

namespace Sys2Proof.Machine

variable {α : Type}

/-! ### Reads -/

theorem smGet_smErase_self (d : Nat → α) (m : List (Nat × α)) (i : Nat) : smGet d (smErase m i) i = d i := by
  induction m with
  | nil => rfl
  | cons e t ih =>
    obtain ⟨k, v⟩ := e
    by_cases h : k = i
    · simpa [smErase, h] using ih
    · simpa [smErase, h, smGet] using ih

theorem smGet_smErase_ne (d : Nat → α) (m : List (Nat × α)) {i j : Nat} (h : j ≠ i) : smGet d (smErase m i) j = smGet d m j := by
  induction m with
  | nil => rfl
  | cons e t ih =>
    obtain ⟨k, v⟩ := e
    by_cases hk : k = i
    · have hij : ¬i = j := fun e => h e.symm
      simpa [smErase, hk, smGet, hij] using ih
    · by_cases hj : k = j
      · simp [smErase, smGet, hj, h]
      · simpa [smErase, hk, smGet, hj] using ih

theorem smGet_smIns_self (d : Nat → α) (m : List (Nat × α)) (i : Nat) (v : α) (h : ∀ x, (i, x) ∉ m) : smGet d (smIns i v m) i = v := by
  induction m with
  | nil => simp [smIns, smGet]
  | cons e t ih =>
    obtain ⟨k, x⟩ := e
    have hk : k ≠ i := fun e => h x (by simp [e])
    have ht : ∀ y, (i, y) ∉ t := fun y hy => h y (List.mem_cons_of_mem _ hy)
    unfold smIns
    split
    · simp [smGet]
    · simp [smGet, hk, ih ht]

theorem smGet_smIns_ne (d : Nat → α) (m : List (Nat × α)) {i j : Nat} (v : α) (h : j ≠ i) : smGet d (smIns i v m) j = smGet d m j := by
  have hij : ¬i = j := fun e => h e.symm
  induction m with
  | nil => simp [smIns, smGet, hij]
  | cons e t ih =>
    obtain ⟨k, x⟩ := e
    unfold smIns
    split
    · simp [smGet, hij]
    · simp [smGet, ih]

theorem not_mem_smErase (m : List (Nat × α)) (i : Nat) (x : α) : (i, x) ∉ smErase m i := by
  simp [smErase]

/-- A key reads the value last written to it. -/
@[simp] theorem smGet_smPut_self [DecidableEq α] (d : Nat → α) (m : List (Nat × α)) (i : Nat) (v : α) :
    smGet d (smPut d m i v) i = v := by
  unfold smPut
  split
  · rename_i h; rw [smGet_smErase_self, h]
  · exact smGet_smIns_self d _ i v (not_mem_smErase m i)

/-- A write leaves every other key alone. -/
theorem smGet_smPut_ne [DecidableEq α] (d : Nat → α) (m : List (Nat × α)) {i j : Nat} (v : α) (h : j ≠ i) :
    smGet d (smPut d m i v) j = smGet d m j := by
  unfold smPut
  split
  · exact smGet_smErase_ne d m h
  · rw [smGet_smIns_ne d _ v h, smGet_smErase_ne d m h]

theorem smErase_smErase (m : List (Nat × α)) (i : Nat) : smErase (smErase m i) i = smErase m i := by
  simp [smErase]

theorem smErase_smIns (m : List (Nat × α)) (i : Nat) (v : α) : smErase (smIns i v m) i = smErase m i := by
  induction m with
  | nil => simp [smIns, smErase]
  | cons e t ih =>
    obtain ⟨k, x⟩ := e
    unfold smIns
    split
    · simp [smErase]
    · by_cases hk : k = i
      · simpa [smErase, hk] using ih
      · simpa [smErase, hk] using ih

/-- The later of two writes to a key stands. -/
@[simp] theorem smPut_smPut [DecidableEq α] (d : Nat → α) (m : List (Nat × α)) (i : Nat) (v w : α) :
    smPut d (smPut d m i v) i w = smPut d m i w := by
  have h : smErase (smPut d m i v) i = smErase m i := by
    unfold smPut
    split
    · exact smErase_smErase m i
    · rw [smErase_smIns, smErase_smErase]
  show (if w = d i then smErase (smPut d m i v) i else smIns i w (smErase (smPut d m i v) i)) = _
  rw [h]; rfl

/-! ### The canonical form -/

/-- Keys strictly rising, all of them above `lo` where one is given. -/
theorem smWf_cons [DecidableEq α] (d : Nat → α) (k : Nat) (v : α) (t : List (Nat × α)) :
    smWf d ((k, v) :: t) = true ↔ v ≠ d k ∧ smWf d t = true ∧ ∀ e ∈ t.head?, k < e.1 := by
  cases t with
  | nil => simp [smWf]
  | cons e t =>
    obtain ⟨k', v'⟩ := e
    simp only [smWf, Bool.and_eq_true, decide_eq_true_eq, List.head?_cons, Option.mem_some_iff]
    exact ⟨fun h => ⟨h.1.2, h.2, fun x hx => hx ▸ h.1.1⟩, fun h => ⟨⟨h.2.2 _ rfl, h.1⟩, h.2.1⟩⟩

theorem smWf_tail [DecidableEq α] (d : Nat → α) {e : Nat × α} {t : List (Nat × α)} (h : smWf d (e :: t) = true) : smWf d t = true :=
  ((smWf_cons d e.1 e.2 t).1 h).2.1

theorem smWf_lt [DecidableEq α] (d : Nat → α) {k : Nat} {v : α} {t : List (Nat × α)} (h : smWf d ((k, v) :: t) = true) :
    ∀ e ∈ t, k < e.1 := by
  induction t generalizing k v with
  | nil => simp
  | cons e t ih =>
    obtain ⟨k', v'⟩ := e
    have h' := (smWf_cons d k v _).1 h
    have hk : k < k' := h'.2.2 (k', v') (by simp)
    intro x hx
    rcases List.mem_cons.1 hx with rfl | hx
    · exact hk
    · exact Nat.lt_trans hk (ih h'.2.1 x hx)

theorem smWf_of [DecidableEq α] (d : Nat → α) {k : Nat} {v : α} {t : List (Nat × α)} (hv : v ≠ d k) (ht : smWf d t = true)
    (hl : ∀ e ∈ t, k < e.1) : smWf d ((k, v) :: t) = true :=
  (smWf_cons d k v t).2 ⟨hv, ht, fun e he => hl e (List.mem_of_mem_head? he)⟩

theorem smWf_filter [DecidableEq α] (d : Nat → α) (p : Nat × α → Bool) {m : List (Nat × α)} (h : smWf d m = true) :
    smWf d (m.filter p) = true := by
  induction m with
  | nil => rfl
  | cons e t ih =>
    obtain ⟨k, v⟩ := e
    have ht := ih (smWf_tail d h)
    by_cases hp : p (k, v) = true
    · rw [List.filter_cons_of_pos hp]
      exact smWf_of d ((smWf_cons d k v t).1 h).1 ht (fun x hx => smWf_lt d h x (List.mem_filter.1 hx).1)
    · rw [List.filter_cons_of_neg hp]; exact ht

theorem smWf_smErase [DecidableEq α] (d : Nat → α) {m : List (Nat × α)} (i : Nat) (h : smWf d m = true) : smWf d (smErase m i) = true :=
  smWf_filter d _ h

theorem mem_smIns {i : Nat} {v : α} {m : List (Nat × α)} {e : Nat × α} (h : e ∈ smIns i v m) : e = (i, v) ∨ e ∈ m := by
  induction m with
  | nil => simpa [smIns] using h
  | cons x t ih =>
    obtain ⟨k, y⟩ := x
    unfold smIns at h
    split at h
    · rcases List.mem_cons.1 h with h | h
      · exact .inl h
      · exact .inr h
    · rcases List.mem_cons.1 h with h | h
      · exact .inr (by simp [h])
      · rcases ih h with h | h
        · exact .inl h
        · exact .inr (List.mem_cons_of_mem _ h)

theorem smWf_smIns [DecidableEq α] (d : Nat → α) {m : List (Nat × α)} {i : Nat} {v : α} (hv : v ≠ d i) (hi : ∀ e ∈ m, e.1 ≠ i)
    (h : smWf d m = true) : smWf d (smIns i v m) = true := by
  induction m with
  | nil => simp [smIns, smWf, hv]
  | cons x t ih =>
    obtain ⟨k, y⟩ := x
    have hk : k ≠ i := hi (k, y) (by simp)
    unfold smIns
    split
    · rename_i hlt
      refine smWf_of d hv h (fun e he => ?_)
      rcases List.mem_cons.1 he with rfl | he
      · exact hlt
      · exact Nat.lt_trans hlt (smWf_lt d h e he)
    · rename_i hge
      refine smWf_of d ((smWf_cons d k y t).1 h).1 (ih (fun e he => hi e (List.mem_cons_of_mem _ he)) (smWf_tail d h)) (fun e he => ?_)
      rcases mem_smIns he with rfl | he
      · simp; omega
      · exact smWf_lt d h e he

/-- A write keeps the canonical form. -/
theorem smWf_smPut [DecidableEq α] (d : Nat → α) {m : List (Nat × α)} (i : Nat) (v : α) (h : smWf d m = true) :
    smWf d (smPut d m i v) = true := by
  unfold smPut
  split
  · exact smWf_smErase d i h
  · rename_i hv
    refine smWf_smIns d hv (fun e he => ?_) (smWf_smErase d i h)
    have := (List.mem_filter.1 he).2
    simpa using this

end Sys2Proof.Machine
end

