-- ==== Sys2Proof/Laws/State.lean ====
section
/-! SUPPORT. What the plain updates of the state leave alone: one lemma for each field and update. -/

namespace Sys2Proof.Machine

/-! ### setCore -/

@[simp] theorem State.setCore_pending (s : State) (n : Nat) (k : Core) : (s.setCore n k).pending = s.pending := rfl
@[simp] theorem State.setCore_code (s : State) (n : Nat) (k : Core) : (s.setCore n k).code = s.code := rfl
@[simp] theorem State.setCore_free (s : State) (n : Nat) (k : Core) : (s.setCore n k).free = s.free := rfl
@[simp] theorem State.setCore_latched (s : State) (n : Nat) (k : Core) : (s.setCore n k).latched = s.latched := rfl
@[simp] theorem State.setCore_tb (s : State) (n : Nat) (k : Core) : (s.setCore n k).tb = s.tb := rfl
@[simp] theorem State.setCore_tbSet (s : State) (n : Nat) (k : Core) : (s.setCore n k).tbSet = s.tbSet := rfl
@[simp] theorem State.setCore_slewAcc (s : State) (n : Nat) (k : Core) : (s.setCore n k).slewAcc = s.slewAcc := rfl
@[simp] theorem State.setCore_regs (s : State) (n : Nat) (k : Core) : (s.setCore n k).regs = s.regs := rfl
@[simp] theorem State.setCore_clusters (s : State) (n : Nat) (k : Core) : (s.setCore n k).clusters = s.clusters := rfl
@[simp] theorem State.setCore_mem (s : State) (n : Nat) (k : Core) : (s.setCore n k).mem = s.mem := rfl
@[simp] theorem State.setCore_poison (s : State) (n : Nat) (k : Core) : (s.setCore n k).poison = s.poison := rfl
@[simp] theorem State.setCore_lines (s : State) (n : Nat) (k : Core) : (s.setCore n k).lines = s.lines := rfl
@[simp] theorem State.setCore_comp (s : State) (n : Nat) (k : Core) : (s.setCore n k).comp = s.comp := rfl
@[simp] theorem State.setCore_warden (s : State) (n : Nat) (k : Core) : (s.setCore n k).warden = s.warden := rfl
@[simp] theorem State.setCore_meters (s : State) (n : Nat) (k : Core) : (s.setCore n k).meters = s.meters := rfl
@[simp] theorem State.setCore_ledger (s : State) (n : Nat) (k : Core) : (s.setCore n k).ledger = s.ledger := rfl
@[simp] theorem State.setCore_dram (s : State) (n : Nat) (k : Core) : (s.setCore n k).dram = s.dram := rfl
@[simp] theorem State.setCore_io (s : State) (n : Nat) (k : Core) : (s.setCore n k).io = s.io := rfl
@[simp] theorem State.setCore_fab (s : State) (n : Nat) (k : Core) : (s.setCore n k).fab = s.fab := rfl
@[simp] theorem State.setCore_power (s : State) (n : Nat) (k : Core) : (s.setCore n k).power = s.power := rfl
@[simp] theorem State.setCore_boot (s : State) (n : Nat) (k : Core) : (s.setCore n k).boot = s.boot := rfl
@[simp] theorem State.setCore_apply (s : State) (n : Nat) (k : Core) : (s.setCore n k).apply = s.apply := rfl
@[simp] theorem State.setCore_ist (s : State) (n : Nat) (k : Core) : (s.setCore n k).ist = s.ist := rfl
@[simp] theorem State.setCore_units (s : State) (n : Nat) (k : Core) : (s.setCore n k).units = s.units := rfl
@[simp] theorem State.setCore_jtag (s : State) (n : Nat) (k : Core) : (s.setCore n k).jtag = s.jtag := rfl
@[simp] theorem State.setCore_pins (s : State) (n : Nat) (k : Core) : (s.setCore n k).pins = s.pins := rfl

/-! ### modCore -/

@[simp] theorem State.modCore_pending (s : State) (n : Nat) (f : Core → Core) : (s.modCore n f).pending = s.pending := rfl
@[simp] theorem State.modCore_code (s : State) (n : Nat) (f : Core → Core) : (s.modCore n f).code = s.code := rfl
@[simp] theorem State.modCore_free (s : State) (n : Nat) (f : Core → Core) : (s.modCore n f).free = s.free := rfl
@[simp] theorem State.modCore_latched (s : State) (n : Nat) (f : Core → Core) : (s.modCore n f).latched = s.latched := rfl
@[simp] theorem State.modCore_tb (s : State) (n : Nat) (f : Core → Core) : (s.modCore n f).tb = s.tb := rfl
@[simp] theorem State.modCore_tbSet (s : State) (n : Nat) (f : Core → Core) : (s.modCore n f).tbSet = s.tbSet := rfl
@[simp] theorem State.modCore_slewAcc (s : State) (n : Nat) (f : Core → Core) : (s.modCore n f).slewAcc = s.slewAcc := rfl
@[simp] theorem State.modCore_regs (s : State) (n : Nat) (f : Core → Core) : (s.modCore n f).regs = s.regs := rfl
@[simp] theorem State.modCore_clusters (s : State) (n : Nat) (f : Core → Core) : (s.modCore n f).clusters = s.clusters := rfl
@[simp] theorem State.modCore_mem (s : State) (n : Nat) (f : Core → Core) : (s.modCore n f).mem = s.mem := rfl
@[simp] theorem State.modCore_poison (s : State) (n : Nat) (f : Core → Core) : (s.modCore n f).poison = s.poison := rfl
@[simp] theorem State.modCore_lines (s : State) (n : Nat) (f : Core → Core) : (s.modCore n f).lines = s.lines := rfl
@[simp] theorem State.modCore_comp (s : State) (n : Nat) (f : Core → Core) : (s.modCore n f).comp = s.comp := rfl
@[simp] theorem State.modCore_warden (s : State) (n : Nat) (f : Core → Core) : (s.modCore n f).warden = s.warden := rfl
@[simp] theorem State.modCore_meters (s : State) (n : Nat) (f : Core → Core) : (s.modCore n f).meters = s.meters := rfl
@[simp] theorem State.modCore_ledger (s : State) (n : Nat) (f : Core → Core) : (s.modCore n f).ledger = s.ledger := rfl
@[simp] theorem State.modCore_dram (s : State) (n : Nat) (f : Core → Core) : (s.modCore n f).dram = s.dram := rfl
@[simp] theorem State.modCore_io (s : State) (n : Nat) (f : Core → Core) : (s.modCore n f).io = s.io := rfl
@[simp] theorem State.modCore_fab (s : State) (n : Nat) (f : Core → Core) : (s.modCore n f).fab = s.fab := rfl
@[simp] theorem State.modCore_power (s : State) (n : Nat) (f : Core → Core) : (s.modCore n f).power = s.power := rfl
@[simp] theorem State.modCore_boot (s : State) (n : Nat) (f : Core → Core) : (s.modCore n f).boot = s.boot := rfl
@[simp] theorem State.modCore_apply (s : State) (n : Nat) (f : Core → Core) : (s.modCore n f).apply = s.apply := rfl
@[simp] theorem State.modCore_ist (s : State) (n : Nat) (f : Core → Core) : (s.modCore n f).ist = s.ist := rfl
@[simp] theorem State.modCore_units (s : State) (n : Nat) (f : Core → Core) : (s.modCore n f).units = s.units := rfl
@[simp] theorem State.modCore_jtag (s : State) (n : Nat) (f : Core → Core) : (s.modCore n f).jtag = s.jtag := rfl
@[simp] theorem State.modCore_pins (s : State) (n : Nat) (f : Core → Core) : (s.modCore n f).pins = s.pins := rfl

/-! ### setCluster -/

@[simp] theorem State.setCluster_pending (s : State) (n : Nat) (k : Cluster) : (s.setCluster n k).pending = s.pending := rfl
@[simp] theorem State.setCluster_code (s : State) (n : Nat) (k : Cluster) : (s.setCluster n k).code = s.code := rfl
@[simp] theorem State.setCluster_free (s : State) (n : Nat) (k : Cluster) : (s.setCluster n k).free = s.free := rfl
@[simp] theorem State.setCluster_latched (s : State) (n : Nat) (k : Cluster) : (s.setCluster n k).latched = s.latched := rfl
@[simp] theorem State.setCluster_tb (s : State) (n : Nat) (k : Cluster) : (s.setCluster n k).tb = s.tb := rfl
@[simp] theorem State.setCluster_tbSet (s : State) (n : Nat) (k : Cluster) : (s.setCluster n k).tbSet = s.tbSet := rfl
@[simp] theorem State.setCluster_slewAcc (s : State) (n : Nat) (k : Cluster) : (s.setCluster n k).slewAcc = s.slewAcc := rfl
@[simp] theorem State.setCluster_regs (s : State) (n : Nat) (k : Cluster) : (s.setCluster n k).regs = s.regs := rfl
@[simp] theorem State.setCluster_cores (s : State) (n : Nat) (k : Cluster) : (s.setCluster n k).cores = s.cores := rfl
@[simp] theorem State.setCluster_mem (s : State) (n : Nat) (k : Cluster) : (s.setCluster n k).mem = s.mem := rfl
@[simp] theorem State.setCluster_poison (s : State) (n : Nat) (k : Cluster) : (s.setCluster n k).poison = s.poison := rfl
@[simp] theorem State.setCluster_lines (s : State) (n : Nat) (k : Cluster) : (s.setCluster n k).lines = s.lines := rfl
@[simp] theorem State.setCluster_comp (s : State) (n : Nat) (k : Cluster) : (s.setCluster n k).comp = s.comp := rfl
@[simp] theorem State.setCluster_warden (s : State) (n : Nat) (k : Cluster) : (s.setCluster n k).warden = s.warden := rfl
@[simp] theorem State.setCluster_meters (s : State) (n : Nat) (k : Cluster) : (s.setCluster n k).meters = s.meters := rfl
@[simp] theorem State.setCluster_ledger (s : State) (n : Nat) (k : Cluster) : (s.setCluster n k).ledger = s.ledger := rfl
@[simp] theorem State.setCluster_dram (s : State) (n : Nat) (k : Cluster) : (s.setCluster n k).dram = s.dram := rfl
@[simp] theorem State.setCluster_io (s : State) (n : Nat) (k : Cluster) : (s.setCluster n k).io = s.io := rfl
@[simp] theorem State.setCluster_fab (s : State) (n : Nat) (k : Cluster) : (s.setCluster n k).fab = s.fab := rfl
@[simp] theorem State.setCluster_power (s : State) (n : Nat) (k : Cluster) : (s.setCluster n k).power = s.power := rfl
@[simp] theorem State.setCluster_boot (s : State) (n : Nat) (k : Cluster) : (s.setCluster n k).boot = s.boot := rfl
@[simp] theorem State.setCluster_apply (s : State) (n : Nat) (k : Cluster) : (s.setCluster n k).apply = s.apply := rfl
@[simp] theorem State.setCluster_ist (s : State) (n : Nat) (k : Cluster) : (s.setCluster n k).ist = s.ist := rfl
@[simp] theorem State.setCluster_units (s : State) (n : Nat) (k : Cluster) : (s.setCluster n k).units = s.units := rfl
@[simp] theorem State.setCluster_jtag (s : State) (n : Nat) (k : Cluster) : (s.setCluster n k).jtag = s.jtag := rfl
@[simp] theorem State.setCluster_pins (s : State) (n : Nat) (k : Cluster) : (s.setCluster n k).pins = s.pins := rfl

/-! ### modCluster -/

@[simp] theorem State.modCluster_pending (s : State) (n : Nat) (f : Cluster → Cluster) : (s.modCluster n f).pending = s.pending := rfl
@[simp] theorem State.modCluster_code (s : State) (n : Nat) (f : Cluster → Cluster) : (s.modCluster n f).code = s.code := rfl
@[simp] theorem State.modCluster_free (s : State) (n : Nat) (f : Cluster → Cluster) : (s.modCluster n f).free = s.free := rfl
@[simp] theorem State.modCluster_latched (s : State) (n : Nat) (f : Cluster → Cluster) : (s.modCluster n f).latched = s.latched := rfl
@[simp] theorem State.modCluster_tb (s : State) (n : Nat) (f : Cluster → Cluster) : (s.modCluster n f).tb = s.tb := rfl
@[simp] theorem State.modCluster_tbSet (s : State) (n : Nat) (f : Cluster → Cluster) : (s.modCluster n f).tbSet = s.tbSet := rfl
@[simp] theorem State.modCluster_slewAcc (s : State) (n : Nat) (f : Cluster → Cluster) : (s.modCluster n f).slewAcc = s.slewAcc := rfl
@[simp] theorem State.modCluster_regs (s : State) (n : Nat) (f : Cluster → Cluster) : (s.modCluster n f).regs = s.regs := rfl
@[simp] theorem State.modCluster_cores (s : State) (n : Nat) (f : Cluster → Cluster) : (s.modCluster n f).cores = s.cores := rfl
@[simp] theorem State.modCluster_mem (s : State) (n : Nat) (f : Cluster → Cluster) : (s.modCluster n f).mem = s.mem := rfl
@[simp] theorem State.modCluster_poison (s : State) (n : Nat) (f : Cluster → Cluster) : (s.modCluster n f).poison = s.poison := rfl
@[simp] theorem State.modCluster_lines (s : State) (n : Nat) (f : Cluster → Cluster) : (s.modCluster n f).lines = s.lines := rfl
@[simp] theorem State.modCluster_comp (s : State) (n : Nat) (f : Cluster → Cluster) : (s.modCluster n f).comp = s.comp := rfl
@[simp] theorem State.modCluster_warden (s : State) (n : Nat) (f : Cluster → Cluster) : (s.modCluster n f).warden = s.warden := rfl
@[simp] theorem State.modCluster_meters (s : State) (n : Nat) (f : Cluster → Cluster) : (s.modCluster n f).meters = s.meters := rfl
@[simp] theorem State.modCluster_ledger (s : State) (n : Nat) (f : Cluster → Cluster) : (s.modCluster n f).ledger = s.ledger := rfl
@[simp] theorem State.modCluster_dram (s : State) (n : Nat) (f : Cluster → Cluster) : (s.modCluster n f).dram = s.dram := rfl
@[simp] theorem State.modCluster_io (s : State) (n : Nat) (f : Cluster → Cluster) : (s.modCluster n f).io = s.io := rfl
@[simp] theorem State.modCluster_fab (s : State) (n : Nat) (f : Cluster → Cluster) : (s.modCluster n f).fab = s.fab := rfl
@[simp] theorem State.modCluster_power (s : State) (n : Nat) (f : Cluster → Cluster) : (s.modCluster n f).power = s.power := rfl
@[simp] theorem State.modCluster_boot (s : State) (n : Nat) (f : Cluster → Cluster) : (s.modCluster n f).boot = s.boot := rfl
@[simp] theorem State.modCluster_apply (s : State) (n : Nat) (f : Cluster → Cluster) : (s.modCluster n f).apply = s.apply := rfl
@[simp] theorem State.modCluster_ist (s : State) (n : Nat) (f : Cluster → Cluster) : (s.modCluster n f).ist = s.ist := rfl
@[simp] theorem State.modCluster_units (s : State) (n : Nat) (f : Cluster → Cluster) : (s.modCluster n f).units = s.units := rfl
@[simp] theorem State.modCluster_jtag (s : State) (n : Nat) (f : Cluster → Cluster) : (s.modCluster n f).jtag = s.jtag := rfl
@[simp] theorem State.modCluster_pins (s : State) (n : Nat) (f : Cluster → Cluster) : (s.modCluster n f).pins = s.pins := rfl

/-! ### wr -/

@[simp] theorem State.wr_pending (s : State) (k : Nat) (v : Word) : (s.wr k v).pending = s.pending := rfl
@[simp] theorem State.wr_code (s : State) (k : Nat) (v : Word) : (s.wr k v).code = s.code := rfl
@[simp] theorem State.wr_free (s : State) (k : Nat) (v : Word) : (s.wr k v).free = s.free := rfl
@[simp] theorem State.wr_latched (s : State) (k : Nat) (v : Word) : (s.wr k v).latched = s.latched := rfl
@[simp] theorem State.wr_tb (s : State) (k : Nat) (v : Word) : (s.wr k v).tb = s.tb := rfl
@[simp] theorem State.wr_tbSet (s : State) (k : Nat) (v : Word) : (s.wr k v).tbSet = s.tbSet := rfl
@[simp] theorem State.wr_slewAcc (s : State) (k : Nat) (v : Word) : (s.wr k v).slewAcc = s.slewAcc := rfl
@[simp] theorem State.wr_cores (s : State) (k : Nat) (v : Word) : (s.wr k v).cores = s.cores := rfl
@[simp] theorem State.wr_clusters (s : State) (k : Nat) (v : Word) : (s.wr k v).clusters = s.clusters := rfl
@[simp] theorem State.wr_mem (s : State) (k : Nat) (v : Word) : (s.wr k v).mem = s.mem := rfl
@[simp] theorem State.wr_poison (s : State) (k : Nat) (v : Word) : (s.wr k v).poison = s.poison := rfl
@[simp] theorem State.wr_lines (s : State) (k : Nat) (v : Word) : (s.wr k v).lines = s.lines := rfl
@[simp] theorem State.wr_comp (s : State) (k : Nat) (v : Word) : (s.wr k v).comp = s.comp := rfl
@[simp] theorem State.wr_warden (s : State) (k : Nat) (v : Word) : (s.wr k v).warden = s.warden := rfl
@[simp] theorem State.wr_meters (s : State) (k : Nat) (v : Word) : (s.wr k v).meters = s.meters := rfl
@[simp] theorem State.wr_ledger (s : State) (k : Nat) (v : Word) : (s.wr k v).ledger = s.ledger := rfl
@[simp] theorem State.wr_dram (s : State) (k : Nat) (v : Word) : (s.wr k v).dram = s.dram := rfl
@[simp] theorem State.wr_io (s : State) (k : Nat) (v : Word) : (s.wr k v).io = s.io := rfl
@[simp] theorem State.wr_fab (s : State) (k : Nat) (v : Word) : (s.wr k v).fab = s.fab := rfl
@[simp] theorem State.wr_power (s : State) (k : Nat) (v : Word) : (s.wr k v).power = s.power := rfl
@[simp] theorem State.wr_boot (s : State) (k : Nat) (v : Word) : (s.wr k v).boot = s.boot := rfl
@[simp] theorem State.wr_apply (s : State) (k : Nat) (v : Word) : (s.wr k v).apply = s.apply := rfl
@[simp] theorem State.wr_ist (s : State) (k : Nat) (v : Word) : (s.wr k v).ist = s.ist := rfl
@[simp] theorem State.wr_units (s : State) (k : Nat) (v : Word) : (s.wr k v).units = s.units := rfl
@[simp] theorem State.wr_jtag (s : State) (k : Nat) (v : Word) : (s.wr k v).jtag = s.jtag := rfl
@[simp] theorem State.wr_pins (s : State) (k : Nat) (v : Word) : (s.wr k v).pins = s.pins := rfl

/-! ### setF -/

@[simp] theorem State.setF_pending (s : State) (k : Nat) (f : Fld) (x : Nat) : (s.setF k f x).pending = s.pending := rfl
@[simp] theorem State.setF_code (s : State) (k : Nat) (f : Fld) (x : Nat) : (s.setF k f x).code = s.code := rfl
@[simp] theorem State.setF_free (s : State) (k : Nat) (f : Fld) (x : Nat) : (s.setF k f x).free = s.free := rfl
@[simp] theorem State.setF_latched (s : State) (k : Nat) (f : Fld) (x : Nat) : (s.setF k f x).latched = s.latched := rfl
@[simp] theorem State.setF_tb (s : State) (k : Nat) (f : Fld) (x : Nat) : (s.setF k f x).tb = s.tb := rfl
@[simp] theorem State.setF_tbSet (s : State) (k : Nat) (f : Fld) (x : Nat) : (s.setF k f x).tbSet = s.tbSet := rfl
@[simp] theorem State.setF_slewAcc (s : State) (k : Nat) (f : Fld) (x : Nat) : (s.setF k f x).slewAcc = s.slewAcc := rfl
@[simp] theorem State.setF_cores (s : State) (k : Nat) (f : Fld) (x : Nat) : (s.setF k f x).cores = s.cores := rfl
@[simp] theorem State.setF_clusters (s : State) (k : Nat) (f : Fld) (x : Nat) : (s.setF k f x).clusters = s.clusters := rfl
@[simp] theorem State.setF_mem (s : State) (k : Nat) (f : Fld) (x : Nat) : (s.setF k f x).mem = s.mem := rfl
@[simp] theorem State.setF_poison (s : State) (k : Nat) (f : Fld) (x : Nat) : (s.setF k f x).poison = s.poison := rfl
@[simp] theorem State.setF_lines (s : State) (k : Nat) (f : Fld) (x : Nat) : (s.setF k f x).lines = s.lines := rfl
@[simp] theorem State.setF_comp (s : State) (k : Nat) (f : Fld) (x : Nat) : (s.setF k f x).comp = s.comp := rfl
@[simp] theorem State.setF_warden (s : State) (k : Nat) (f : Fld) (x : Nat) : (s.setF k f x).warden = s.warden := rfl
@[simp] theorem State.setF_meters (s : State) (k : Nat) (f : Fld) (x : Nat) : (s.setF k f x).meters = s.meters := rfl
@[simp] theorem State.setF_ledger (s : State) (k : Nat) (f : Fld) (x : Nat) : (s.setF k f x).ledger = s.ledger := rfl
@[simp] theorem State.setF_dram (s : State) (k : Nat) (f : Fld) (x : Nat) : (s.setF k f x).dram = s.dram := rfl
@[simp] theorem State.setF_io (s : State) (k : Nat) (f : Fld) (x : Nat) : (s.setF k f x).io = s.io := rfl
@[simp] theorem State.setF_fab (s : State) (k : Nat) (f : Fld) (x : Nat) : (s.setF k f x).fab = s.fab := rfl
@[simp] theorem State.setF_power (s : State) (k : Nat) (f : Fld) (x : Nat) : (s.setF k f x).power = s.power := rfl
@[simp] theorem State.setF_boot (s : State) (k : Nat) (f : Fld) (x : Nat) : (s.setF k f x).boot = s.boot := rfl
@[simp] theorem State.setF_apply (s : State) (k : Nat) (f : Fld) (x : Nat) : (s.setF k f x).apply = s.apply := rfl
@[simp] theorem State.setF_ist (s : State) (k : Nat) (f : Fld) (x : Nat) : (s.setF k f x).ist = s.ist := rfl
@[simp] theorem State.setF_units (s : State) (k : Nat) (f : Fld) (x : Nat) : (s.setF k f x).units = s.units := rfl
@[simp] theorem State.setF_jtag (s : State) (k : Nat) (f : Fld) (x : Nat) : (s.setF k f x).jtag = s.jtag := rfl
@[simp] theorem State.setF_pins (s : State) (k : Nat) (f : Fld) (x : Nat) : (s.setF k f x).pins = s.pins := rfl

/-! ### addF -/

@[simp] theorem State.addF_pending (s : State) (k : Nat) (f : Fld) (x : Nat) : (s.addF k f x).pending = s.pending := rfl
@[simp] theorem State.addF_code (s : State) (k : Nat) (f : Fld) (x : Nat) : (s.addF k f x).code = s.code := rfl
@[simp] theorem State.addF_free (s : State) (k : Nat) (f : Fld) (x : Nat) : (s.addF k f x).free = s.free := rfl
@[simp] theorem State.addF_latched (s : State) (k : Nat) (f : Fld) (x : Nat) : (s.addF k f x).latched = s.latched := rfl
@[simp] theorem State.addF_tb (s : State) (k : Nat) (f : Fld) (x : Nat) : (s.addF k f x).tb = s.tb := rfl
@[simp] theorem State.addF_tbSet (s : State) (k : Nat) (f : Fld) (x : Nat) : (s.addF k f x).tbSet = s.tbSet := rfl
@[simp] theorem State.addF_slewAcc (s : State) (k : Nat) (f : Fld) (x : Nat) : (s.addF k f x).slewAcc = s.slewAcc := rfl
@[simp] theorem State.addF_cores (s : State) (k : Nat) (f : Fld) (x : Nat) : (s.addF k f x).cores = s.cores := rfl
@[simp] theorem State.addF_clusters (s : State) (k : Nat) (f : Fld) (x : Nat) : (s.addF k f x).clusters = s.clusters := rfl
@[simp] theorem State.addF_mem (s : State) (k : Nat) (f : Fld) (x : Nat) : (s.addF k f x).mem = s.mem := rfl
@[simp] theorem State.addF_poison (s : State) (k : Nat) (f : Fld) (x : Nat) : (s.addF k f x).poison = s.poison := rfl
@[simp] theorem State.addF_lines (s : State) (k : Nat) (f : Fld) (x : Nat) : (s.addF k f x).lines = s.lines := rfl
@[simp] theorem State.addF_comp (s : State) (k : Nat) (f : Fld) (x : Nat) : (s.addF k f x).comp = s.comp := rfl
@[simp] theorem State.addF_warden (s : State) (k : Nat) (f : Fld) (x : Nat) : (s.addF k f x).warden = s.warden := rfl
@[simp] theorem State.addF_meters (s : State) (k : Nat) (f : Fld) (x : Nat) : (s.addF k f x).meters = s.meters := rfl
@[simp] theorem State.addF_ledger (s : State) (k : Nat) (f : Fld) (x : Nat) : (s.addF k f x).ledger = s.ledger := rfl
@[simp] theorem State.addF_dram (s : State) (k : Nat) (f : Fld) (x : Nat) : (s.addF k f x).dram = s.dram := rfl
@[simp] theorem State.addF_io (s : State) (k : Nat) (f : Fld) (x : Nat) : (s.addF k f x).io = s.io := rfl
@[simp] theorem State.addF_fab (s : State) (k : Nat) (f : Fld) (x : Nat) : (s.addF k f x).fab = s.fab := rfl
@[simp] theorem State.addF_power (s : State) (k : Nat) (f : Fld) (x : Nat) : (s.addF k f x).power = s.power := rfl
@[simp] theorem State.addF_boot (s : State) (k : Nat) (f : Fld) (x : Nat) : (s.addF k f x).boot = s.boot := rfl
@[simp] theorem State.addF_apply (s : State) (k : Nat) (f : Fld) (x : Nat) : (s.addF k f x).apply = s.apply := rfl
@[simp] theorem State.addF_ist (s : State) (k : Nat) (f : Fld) (x : Nat) : (s.addF k f x).ist = s.ist := rfl
@[simp] theorem State.addF_units (s : State) (k : Nat) (f : Fld) (x : Nat) : (s.addF k f x).units = s.units := rfl
@[simp] theorem State.addF_jtag (s : State) (k : Nat) (f : Fld) (x : Nat) : (s.addF k f x).jtag = s.jtag := rfl
@[simp] theorem State.addF_pins (s : State) (k : Nat) (f : Fld) (x : Nat) : (s.addF k f x).pins = s.pins := rfl

/-! ### tick -/

@[simp] theorem State.tick_pending (s : State) : (s.tick).pending = s.pending := rfl
@[simp] theorem State.tick_latched (s : State) : (s.tick).latched = s.latched := rfl
@[simp] theorem State.tick_code (s : State) : (s.tick).code = s.code := rfl
@[simp] theorem State.tick_tb (s : State) : (s.tick).tb = s.tb := rfl
@[simp] theorem State.tick_tbSet (s : State) : (s.tick).tbSet = s.tbSet := rfl
@[simp] theorem State.tick_slewAcc (s : State) : (s.tick).slewAcc = s.slewAcc := rfl
@[simp] theorem State.tick_regs (s : State) : (s.tick).regs = s.regs := rfl
@[simp] theorem State.tick_cores (s : State) : (s.tick).cores = s.cores := rfl
@[simp] theorem State.tick_clusters (s : State) : (s.tick).clusters = s.clusters := rfl
@[simp] theorem State.tick_mem (s : State) : (s.tick).mem = s.mem := rfl
@[simp] theorem State.tick_poison (s : State) : (s.tick).poison = s.poison := rfl
@[simp] theorem State.tick_lines (s : State) : (s.tick).lines = s.lines := rfl
@[simp] theorem State.tick_comp (s : State) : (s.tick).comp = s.comp := rfl
@[simp] theorem State.tick_warden (s : State) : (s.tick).warden = s.warden := rfl
@[simp] theorem State.tick_meters (s : State) : (s.tick).meters = s.meters := rfl
@[simp] theorem State.tick_ledger (s : State) : (s.tick).ledger = s.ledger := rfl
@[simp] theorem State.tick_dram (s : State) : (s.tick).dram = s.dram := rfl
@[simp] theorem State.tick_io (s : State) : (s.tick).io = s.io := rfl
@[simp] theorem State.tick_fab (s : State) : (s.tick).fab = s.fab := rfl
@[simp] theorem State.tick_power (s : State) : (s.tick).power = s.power := rfl
@[simp] theorem State.tick_boot (s : State) : (s.tick).boot = s.boot := rfl
@[simp] theorem State.tick_apply (s : State) : (s.tick).apply = s.apply := rfl
@[simp] theorem State.tick_ist (s : State) : (s.tick).ist = s.ist := rfl
@[simp] theorem State.tick_units (s : State) : (s.tick).units = s.units := rfl
@[simp] theorem State.tick_jtag (s : State) : (s.tick).jtag = s.jtag := rfl
@[simp] theorem State.tick_pins (s : State) : (s.tick).pins = s.pins := rfl

/-! ### memSet -/

@[simp] theorem State.memSet_pending (s : State) (a : Nat) (b : Byte) : (s.memSet a b).pending = s.pending := rfl
@[simp] theorem State.memSet_code (s : State) (a : Nat) (b : Byte) : (s.memSet a b).code = s.code := rfl
@[simp] theorem State.memSet_free (s : State) (a : Nat) (b : Byte) : (s.memSet a b).free = s.free := rfl
@[simp] theorem State.memSet_latched (s : State) (a : Nat) (b : Byte) : (s.memSet a b).latched = s.latched := rfl
@[simp] theorem State.memSet_tb (s : State) (a : Nat) (b : Byte) : (s.memSet a b).tb = s.tb := rfl
@[simp] theorem State.memSet_tbSet (s : State) (a : Nat) (b : Byte) : (s.memSet a b).tbSet = s.tbSet := rfl
@[simp] theorem State.memSet_slewAcc (s : State) (a : Nat) (b : Byte) : (s.memSet a b).slewAcc = s.slewAcc := rfl
@[simp] theorem State.memSet_regs (s : State) (a : Nat) (b : Byte) : (s.memSet a b).regs = s.regs := rfl
@[simp] theorem State.memSet_cores (s : State) (a : Nat) (b : Byte) : (s.memSet a b).cores = s.cores := rfl
@[simp] theorem State.memSet_clusters (s : State) (a : Nat) (b : Byte) : (s.memSet a b).clusters = s.clusters := rfl
@[simp] theorem State.memSet_poison (s : State) (a : Nat) (b : Byte) : (s.memSet a b).poison = s.poison := rfl
@[simp] theorem State.memSet_lines (s : State) (a : Nat) (b : Byte) : (s.memSet a b).lines = s.lines := rfl
@[simp] theorem State.memSet_comp (s : State) (a : Nat) (b : Byte) : (s.memSet a b).comp = s.comp := rfl
@[simp] theorem State.memSet_warden (s : State) (a : Nat) (b : Byte) : (s.memSet a b).warden = s.warden := rfl
@[simp] theorem State.memSet_meters (s : State) (a : Nat) (b : Byte) : (s.memSet a b).meters = s.meters := rfl
@[simp] theorem State.memSet_ledger (s : State) (a : Nat) (b : Byte) : (s.memSet a b).ledger = s.ledger := rfl
@[simp] theorem State.memSet_dram (s : State) (a : Nat) (b : Byte) : (s.memSet a b).dram = s.dram := rfl
@[simp] theorem State.memSet_io (s : State) (a : Nat) (b : Byte) : (s.memSet a b).io = s.io := rfl
@[simp] theorem State.memSet_fab (s : State) (a : Nat) (b : Byte) : (s.memSet a b).fab = s.fab := rfl
@[simp] theorem State.memSet_power (s : State) (a : Nat) (b : Byte) : (s.memSet a b).power = s.power := rfl
@[simp] theorem State.memSet_boot (s : State) (a : Nat) (b : Byte) : (s.memSet a b).boot = s.boot := rfl
@[simp] theorem State.memSet_apply (s : State) (a : Nat) (b : Byte) : (s.memSet a b).apply = s.apply := rfl
@[simp] theorem State.memSet_ist (s : State) (a : Nat) (b : Byte) : (s.memSet a b).ist = s.ist := rfl
@[simp] theorem State.memSet_units (s : State) (a : Nat) (b : Byte) : (s.memSet a b).units = s.units := rfl
@[simp] theorem State.memSet_jtag (s : State) (a : Nat) (b : Byte) : (s.memSet a b).jtag = s.jtag := rfl
@[simp] theorem State.memSet_pins (s : State) (a : Nat) (b : Byte) : (s.memSet a b).pins = s.pins := rfl

end Sys2Proof.Machine
end

