-- ==== Sys2Proof/Laws/Ops.lean ====
section
/-! SUPPORT. Registers, cores and clusters: what reads after a write, and that every named operation keeps the canonical forms. -/

namespace Sys2Proof.Machine

/-! ### Registers -/

@[simp] theorem State.rd_wr_self (s : State) (k : Nat) (v : Word) : (s.wr k v).rd k = v := by simp [State.rd, State.wr]

theorem State.rd_wr_ne (s : State) {k j : Nat} (v : Word) (h : j ≠ k) : (s.wr k v).rd j = s.rd j := by
  simp [State.rd, State.wr, smGet_smPut_ne _ _ v h]

@[simp] theorem State.wr_wr (s : State) (k : Nat) (v w : Word) : (s.wr k v).wr k w = s.wr k w := by simp [State.wr]

theorem State.rd_setF_ne (s : State) {k j : Nat} (f : Fld) (x : Nat) (h : j ≠ k) : (s.setF k f x).rd j = s.rd j :=
  State.rd_wr_ne s _ h

@[simp] theorem State.rd_setF_self (s : State) (k : Nat) (f : Fld) (x : Nat) : (s.setF k f x).rd k = putN (s.rd k) f.lo f.w x := by
  simp [State.setF]

/-! ### Cores -/

@[simp] theorem State.core_setCore_self (s : State) (n : Nat) (k : Core) : (s.setCore n k).core n = k := by
  simp [State.core, State.setCore]

theorem State.core_setCore_ne (s : State) {n m : Nat} (k : Core) (h : m ≠ n) : (s.setCore n k).core m = s.core m := by
  simp [State.core, State.setCore, smGet_smPut_ne _ _ k h]

@[simp] theorem State.core_modCore_self (s : State) (n : Nat) (f : Core → Core) : (s.modCore n f).core n = f (s.core n) := by
  simp [State.modCore]

theorem State.core_modCore_ne (s : State) {n m : Nat} (f : Core → Core) (h : m ≠ n) : (s.modCore n f).core m = s.core m :=
  State.core_setCore_ne s _ h

@[simp] theorem State.setCore_setCore (s : State) (n : Nat) (k l : Core) : (s.setCore n k).setCore n l = s.setCore n l := by
  simp [State.setCore]

@[simp] theorem State.modCore_modCore (s : State) (n : Nat) (f g : Core → Core) :
    (s.modCore n f).modCore n g = s.modCore n (fun k => g (f k)) := by simp [State.modCore]

/-! ### Clusters -/

@[simp] theorem State.cluster_setCluster_self (s : State) (n : Nat) (k : Cluster) : (s.setCluster n k).cluster n = k := by
  simp [State.cluster, State.setCluster]

theorem State.cluster_setCluster_ne (s : State) {n m : Nat} (k : Cluster) (h : m ≠ n) : (s.setCluster n k).cluster m = s.cluster m := by
  simp [State.cluster, State.setCluster, smGet_smPut_ne _ _ k h]

@[simp] theorem State.cluster_modCluster_self (s : State) (n : Nat) (f : Cluster → Cluster) : (s.modCluster n f).cluster n = f (s.cluster n) := by
  simp [State.modCluster]

theorem State.cluster_modCluster_ne (s : State) {n m : Nat} (f : Cluster → Cluster) (h : m ≠ n) :
    (s.modCluster n f).cluster m = s.cluster m := State.cluster_setCluster_ne s _ h

/-! ### Reads that an update of another part leaves alone -/

@[simp] theorem State.rd_setCore (s : State) (n : Nat) (k : Core) (r : Nat) : (s.setCore n k).rd r = s.rd r := rfl
@[simp] theorem State.rd_modCore (s : State) (n : Nat) (f : Core → Core) (r : Nat) : (s.modCore n f).rd r = s.rd r := rfl
@[simp] theorem State.rd_setCluster (s : State) (n : Nat) (k : Cluster) (r : Nat) : (s.setCluster n k).rd r = s.rd r := rfl
@[simp] theorem State.rd_modCluster (s : State) (n : Nat) (f : Cluster → Cluster) (r : Nat) : (s.modCluster n f).rd r = s.rd r := rfl
@[simp] theorem State.rd_tick (s : State) (r : Nat) : s.tick.rd r = s.rd r := rfl
@[simp] theorem State.core_wr (s : State) (k : Nat) (v : Word) (n : Nat) : (s.wr k v).core n = s.core n := rfl
@[simp] theorem State.core_setF (s : State) (k : Nat) (f : Fld) (x n : Nat) : (s.setF k f x).core n = s.core n := rfl
@[simp] theorem State.core_tick (s : State) (n : Nat) : s.tick.core n = s.core n := rfl
@[simp] theorem State.core_modCluster (s : State) (m : Nat) (f : Cluster → Cluster) (n : Nat) : (s.modCluster m f).core n = s.core n := rfl
@[simp] theorem State.cluster_modCore (s : State) (m : Nat) (f : Core → Core) (n : Nat) : (s.modCore m f).cluster n = s.cluster n := rfl
@[simp] theorem State.cluster_wr (s : State) (k : Nat) (v : Word) (n : Nat) : (s.wr k v).cluster n = s.cluster n := rfl
@[simp] theorem State.cluster_tick (s : State) (n : Nat) : s.tick.cluster n = s.cluster n := rfl

/-! ### Memory -/

@[simp] theorem State.memByte_memSet_self (s : State) (a : Nat) (b : Byte) : (s.memSet a b).memByte a = b := by
  simp [State.memByte, State.memSet]

theorem State.memByte_memSet_ne (s : State) {a i : Nat} (b : Byte) (h : i ≠ a) : (s.memSet a b).memByte i = s.memByte i := by
  simp [State.memByte, State.memSet, smGet_smPut_ne _ _ b h]

theorem State.memSet_wf (s : State) (a : Nat) (b : Byte) (h : Memory.wf s.mem = true) : Memory.wf (s.memSet a b).mem = true :=
  smWf_smPut _ _ _ h

/-- A fold of updates keeps what each of them keeps. -/
theorem foldl_keeps {β γ : Type} (P : β → Prop) (f : β → γ → β) (hf : ∀ b c, P b → P (f b c)) (l : List γ) (b : β) (h : P b) :
    P (l.foldl f b) := by
  induction l generalizing b with
  | nil => exact h
  | cons c t ih => exact ih _ (hf b c h)

/-- A store into a line keeps the canonical form. -/
theorem State.memPut_wf (s : State) (l : Nat) (d : BitVec 512) (mask : BitVec 64) (h : Memory.wf s.mem = true) :
    Memory.wf (s.memPut l d mask).mem = true := by
  unfold State.memPut
  refine foldl_keeps (fun s : State => Memory.wf s.mem = true) _ (fun s i hs => ?_) _ _ h
  split
  · exact State.memSet_wf s _ _ hs
  · exact hs

theorem State.memWrite_wf (s : State) (l : Nat) (d : BitVec 512) (mask : BitVec 64) (p : Bool) (h : Memory.wf s.mem = true) :
    Memory.wf (s.memWrite l d mask p).mem = true := by
  unfold State.memWrite State.setPoison
  exact State.memPut_wf _ l d mask h

theorem State.queuedWrite_wf (s : State) (r : DramReq) (h : Memory.wf s.mem = true) : Memory.wf (s.queuedWrite r).mem = true := by
  unfold State.queuedWrite
  refine State.memWrite_wf _ _ _ _ _ ?_
  unfold State.charge
  repeat' split
  all_goals exact h

theorem State.settleLine_wf (s : State) (l : Nat) (h : Memory.wf s.mem = true) : Memory.wf (s.settleLine l).mem = true := by
  unfold State.settleLine State.setDramQ
  exact foldl_keeps (fun s : State => Memory.wf s.mem = true) _ (fun s r hs => State.queuedWrite_wf s r hs) _ _ h

/-- The memory after reset is in its canonical form. -/
theorem State.reset_mem_wf : Memory.wf State.reset.mem = true := rfl

end Sys2Proof.Machine
end

