-- ==== Sys2Proof/Laws/Fields.lean ====
section
/-! SUPPORT. Fields of words and registers: what a field reads after a field is written. -/

namespace Sys2Proof.Machine

/-- Each bit of a word whose field has been replaced. -/
theorem testBit_putN (v : Word) {lo w : Nat} (x i : Nat) (h : lo + w ≤ 64) :
    (putN v lo w x).toNat.testBit i = (decide (i < 64) && if lo ≤ i ∧ i < lo + w then x.testBit (i - lo) else v.toNat.testBit i) := by
  have hm : ∀ j, ((2 ^ w - 1) <<< lo).testBit j = (decide (lo ≤ j) && decide (j - lo < w)) := by
    intro j
    rw [Nat.testBit_shiftLeft, Nat.testBit_two_pow_sub_one]
  have hlt : (2 ^ w - 1) <<< lo < 2 ^ 64 := by
    refine Nat.lt_pow_two_of_testBit _ fun j hj => ?_
    rw [hm]
    have : ¬ (j - lo < w) := by omega
    simp [this]
  unfold putN
  simp only [BitVec.toNat_ofNat, Nat.testBit_mod_two_pow, Nat.testBit_or, Nat.testBit_and, Nat.testBit_shiftLeft]
  rw [Nat.sub_sub, Nat.add_comm 1, Nat.testBit_two_pow_sub_succ hlt, hm]
  by_cases hi : i < 64
  · by_cases h1 : lo ≤ i
    · have h2 : i < lo + w ↔ i - lo < w := by omega
      by_cases h3 : i - lo < w <;> simp [hi, h1, h2, h3]
    · simp [hi, h1]
  · simp [hi]

/-- Each bit of a field. -/
theorem testBit_fieldN (v : Word) (lo w i : Nat) : (fieldN v lo w).testBit i = (decide (i < w) && v.toNat.testBit (lo + i)) := by
  unfold fieldN
  rw [Nat.testBit_mod_two_pow, Nat.testBit_shiftRight]

theorem fieldN_lt (v : Word) (lo w : Nat) : fieldN v lo w < 2 ^ w := Nat.mod_lt _ (Nat.two_pow_pos w)

/-- A field reads what was put into it, cut to its width. -/
theorem fieldN_putN_self (v : Word) {lo w : Nat} (x : Nat) (h : lo + w ≤ 64) : fieldN (putN v lo w x) lo w = x % 2 ^ w := by
  refine Nat.eq_of_testBit_eq fun i => ?_
  rw [testBit_fieldN, testBit_putN v x _ h, Nat.testBit_mod_two_pow]
  by_cases hi : i < w
  · have h1 : lo + i < 64 := by omega
    simp [hi, h1]
  · simp [hi]

/-- A field beside the one put keeps its value. -/
theorem fieldN_putN_ne (v : Word) {lo w lo' w' : Nat} (x : Nat) (h : lo + w ≤ 64) (h' : lo' + w' ≤ 64) (hd : lo' + w' ≤ lo ∨ lo + w ≤ lo') :
    fieldN (putN v lo w x) lo' w' = fieldN v lo' w' := by
  refine Nat.eq_of_testBit_eq fun i => ?_
  rw [testBit_fieldN, testBit_fieldN, testBit_putN v x _ h]
  by_cases hi : i < w'
  · have h1 : lo' + i < 64 := by omega
    have h2 : ¬ (lo ≤ lo' + i ∧ lo' + i < lo + w) := by omega
    simp [hi, h1, h2]
  · simp [hi]

/-- A bit of a word whose field has been replaced. -/
theorem bitN_putN (v : Word) {lo w : Nat} (x : Nat) {i : Nat} (h : lo + w ≤ 64) (hi : i < 64) :
    bitN (putN v lo w x) i = if lo ≤ i ∧ i < lo + w then x.testBit (i - lo) else bitN v i := by
  unfold bitN
  rw [testBit_putN v x i h]
  simp [hi]

/-! ### Fields of registers -/

theorem State.getF_wr_self (s : State) (k : Nat) (v : Word) (f : Fld) : (s.wr k v).getF k f = fieldN v f.lo f.w := by
  simp [State.getF]

theorem State.getF_wr_ne (s : State) {k j : Nat} (v : Word) (f : Fld) (h : j ≠ k) : (s.wr k v).getF j f = s.getF j f := by
  simp only [State.getF, State.rd_wr_ne s v h]

theorem State.getF_setF_self (s : State) (k : Nat) (f : Fld) (x : Nat) (h : f.lo + f.w ≤ 64) : (s.setF k f x).getF k f = x % 2 ^ f.w := by
  simp only [State.getF, State.rd_setF_self, fieldN_putN_self _ x h]

theorem State.getF_setF_fld (s : State) (k : Nat) {f g : Fld} (x : Nat) (h : f.lo + f.w ≤ 64) (h' : g.lo + g.w ≤ 64)
    (hd : g.lo + g.w ≤ f.lo ∨ f.lo + f.w ≤ g.lo) : (s.setF k f x).getF k g = s.getF k g := by
  simp only [State.getF, State.rd_setF_self, fieldN_putN_ne _ x h h' hd]

theorem State.getF_setF_ne (s : State) {k j : Nat} (f g : Fld) (x : Nat) (h : j ≠ k) : (s.setF k f x).getF j g = s.getF j g := by
  simp only [State.getF, State.rd_setF_ne s f x h]

theorem State.isF_setF_self (s : State) (k : Nat) (f : Fld) (x : Nat) (h : f.lo + f.w ≤ 64) (hw : 0 < f.w) :
    (s.setF k f x).isF k f = x.testBit 0 := by
  unfold State.isF
  rw [State.rd_setF_self, bitN_putN _ x h (by omega)]
  simp [hw]

theorem State.isF_setF_fld (s : State) (k : Nat) {f g : Fld} (x : Nat) (h : f.lo + f.w ≤ 64) (h' : g.lo < 64)
    (hd : g.lo < f.lo ∨ f.lo + f.w ≤ g.lo) : (s.setF k f x).isF k g = s.isF k g := by
  unfold State.isF
  rw [State.rd_setF_self, bitN_putN _ x h h']
  have : ¬ (f.lo ≤ g.lo ∧ g.lo < f.lo + f.w) := by omega
  simp [this]

theorem State.isF_setF_ne (s : State) {k j : Nat} (f g : Fld) (x : Nat) (h : j ≠ k) : (s.setF k f x).isF j g = s.isF j g := by
  simp only [State.isF, State.rd_setF_ne s f x h]

/-- A counter field sticks at its largest value. -/
theorem State.getF_addF_self (s : State) (k : Nat) (f : Fld) (n : Nat) (h : f.lo + f.w ≤ 64) :
    (s.addF k f n).getF k f = min (2 ^ f.w - 1) (s.getF k f + n) := by
  unfold State.addF
  rw [State.getF_setF_self _ _ _ _ h]
  have := Nat.two_pow_pos f.w
  unfold stick
  split <;> rw [Nat.mod_eq_of_lt (by omega)] <;> omega

theorem State.getF_addF_fld (s : State) (k : Nat) {f g : Fld} (n : Nat) (h : f.lo + f.w ≤ 64) (h' : g.lo + g.w ≤ 64)
    (hd : g.lo + g.w ≤ f.lo ∨ f.lo + f.w ≤ g.lo) : (s.addF k f n).getF k g = s.getF k g := State.getF_setF_fld s k _ h h' hd

theorem State.getF_addF_ne (s : State) {k j : Nat} (f g : Fld) (n : Nat) (h : j ≠ k) : (s.addF k f n).getF j g = s.getF j g :=
  State.getF_setF_ne s f g _ h

theorem State.isF_addF_ne (s : State) {k j : Nat} (f g : Fld) (n : Nat) (h : j ≠ k) : (s.addF k f n).isF j g = s.isF j g :=
  State.isF_setF_ne s f g _ h

@[simp] theorem State.getF_setCore (s : State) (n : Nat) (c : Core) (k : Nat) (f : Fld) : (s.setCore n c).getF k f = s.getF k f := rfl
@[simp] theorem State.getF_modCore (s : State) (n : Nat) (g : Core → Core) (k : Nat) (f : Fld) : (s.modCore n g).getF k f = s.getF k f := rfl
@[simp] theorem State.getF_setCluster (s : State) (n : Nat) (c : Cluster) (k : Nat) (f : Fld) : (s.setCluster n c).getF k f = s.getF k f := rfl
@[simp] theorem State.getF_modCluster (s : State) (n : Nat) (g : Cluster → Cluster) (k : Nat) (f : Fld) :
    (s.modCluster n g).getF k f = s.getF k f := rfl
@[simp] theorem State.isF_setCore (s : State) (n : Nat) (c : Core) (k : Nat) (f : Fld) : (s.setCore n c).isF k f = s.isF k f := rfl
@[simp] theorem State.isF_modCore (s : State) (n : Nat) (g : Core → Core) (k : Nat) (f : Fld) : (s.modCore n g).isF k f = s.isF k f := rfl
@[simp] theorem State.isF_setCluster (s : State) (n : Nat) (c : Cluster) (k : Nat) (f : Fld) : (s.setCluster n c).isF k f = s.isF k f := rfl
@[simp] theorem State.isF_modCluster (s : State) (n : Nat) (g : Cluster → Cluster) (k : Nat) (f : Fld) :
    (s.modCluster n g).isF k f = s.isF k f := rfl

end Sys2Proof.Machine
end

