-- ==== Sys2Proof/Laws/Keeps.lean ====
section
/-! SUPPORT. What every operation keeps: the queue of waiting commands, and the canonical form of the sparse maps. `Keeps s t` says it
of a change from `s` to `t`; it is closed under composition, and every named write of a map has it. -/

namespace Sys2Proof.Machine

/-- `t` has the queue of `s`, and each map of `t` is in its canonical form where that of `s` is. -/
structure Keeps (s t : State) : Prop where
  pending : t.pending = s.pending
  mem : Memory.wf s.mem = true → Memory.wf t.mem = true
  regs : smWf (resetOf s.code) s.regs = true → smWf (resetOf t.code) t.regs = true
  cores : smWf (fun _ => ({} : Core)) s.cores = true → smWf (fun _ => ({} : Core)) t.cores = true
  clusters : smWf (fun _ => ({} : Cluster)) s.clusters = true → smWf (fun _ => ({} : Cluster)) t.clusters = true

theorem Keeps.refl (s : State) : Keeps s s := ⟨rfl, id, id, id, id⟩

theorem Keeps.trans {s t u : State} (h : Keeps s t) (k : Keeps t u) : Keeps s u :=
  ⟨k.pending.trans h.pending, fun x => k.mem (h.mem x), fun x => k.regs (h.regs x), fun x => k.cores (h.cores x), fun x => k.clusters (h.clusters x)⟩

/-- An update that touches neither the queue nor one of the maps. -/
theorem Keeps.of_eq {s t : State} (hp : t.pending = s.pending) (hm : t.mem = s.mem) (hr : t.regs = s.regs) (hc : t.cores = s.cores)
    (hk : t.clusters = s.clusters) (ho : t.code = s.code := by rfl) : Keeps s t := by
  refine ⟨hp, ?_, ?_, ?_, ?_⟩
  · rw [hm]; exact id
  · rw [hr, ho]; exact id
  · rw [hc]; exact id
  · rw [hk]; exact id

theorem Keeps.ite {s t u : State} {p : Prop} [Decidable p] (h : Keeps s t) (k : Keeps s u) : Keeps s (if p then t else u) := by
  split <;> assumption

/-- A fold of steps that each keep. -/
theorem Keeps.foldl {γ : Type} {f : State → γ → State} (h : ∀ s c, Keeps s (f s c)) (l : List γ) (s : State) : Keeps s (l.foldl f s) := by
  induction l generalizing s with
  | nil => exact .refl s
  | cons c t ih => exact (h s c).trans (ih (f s c))

theorem Keeps.foldN {f : Nat → State → State} (h : ∀ n s, Keeps s (f n s)) (l : List Nat) (s : State) : Keeps s (foldN f l s) := by
  induction l generalizing s with
  | nil => exact .refl s
  | cons a t ih => exact (h a s).trans (ih (f a s))

/-! ### The named writes -/

theorem State.wr_keeps (s : State) (k : Nat) (v : Word) : Keeps s (s.wr k v) := ⟨rfl, id, smWf_smPut _ _ _, id, id⟩
theorem State.setF_keeps (s : State) (k : Nat) (f : Fld) (x : Nat) : Keeps s (s.setF k f x) := s.wr_keeps k _
theorem State.addF_keeps (s : State) (k : Nat) (f : Fld) (x : Nat) : Keeps s (s.addF k f x) := s.wr_keeps k _
theorem State.putFields_keeps (s : State) (k : Nat) (v : Word) : Keeps s (s.putFields k v) := by
  unfold State.putFields
  split
  · exact .refl s
  · exact s.wr_keeps k _
theorem State.setCore_keeps (s : State) (n : Nat) (k : Core) : Keeps s (s.setCore n k) := ⟨rfl, id, id, smWf_smPut _ _ _, id⟩
theorem State.modCore_keeps (s : State) (n : Nat) (f : Core → Core) : Keeps s (s.modCore n f) := s.setCore_keeps n _
theorem State.setCluster_keeps (s : State) (n : Nat) (k : Cluster) : Keeps s (s.setCluster n k) := ⟨rfl, id, id, id, smWf_smPut _ _ _⟩
theorem State.modCluster_keeps (s : State) (n : Nat) (f : Cluster → Cluster) : Keeps s (s.modCluster n f) := s.setCluster_keeps n _
theorem State.tick_keeps (s : State) : Keeps s s.tick := .of_eq rfl rfl rfl rfl rfl
theorem State.setLine_keeps (s : State) (l : Nat) (x : Option CLine) : Keeps s (s.setLine l x) := by
  cases x <;> exact .of_eq rfl rfl rfl rfl rfl
theorem State.memSet_keeps (s : State) (a : Nat) (b : Byte) : Keeps s (s.memSet a b) := ⟨rfl, smWf_smPut _ _ _, id, id, id⟩
theorem State.memPut_keeps (s : State) (l : Nat) (d : BitVec 512) (mask : BitVec 64) : Keeps s (s.memPut l d mask) := by
  unfold State.memPut
  refine Keeps.foldl (fun s i => ?_) _ s
  split
  · exact s.memSet_keeps _ _
  · exact .refl s
theorem State.memWrite_keeps (s : State) (l : Nat) (d : BitVec 512) (mask : BitVec 64) (p : Bool) : Keeps s (s.memWrite l d mask p) := by
  let ch := (s.dramAddr (l * 64)).ch
  let tab := (smGet (fun _ => []) s.dram.poisonTab ch).filter (fun x => x != l)
  let t : State := { s with dram := { s.dram with poisonTab := smPut (fun _ => []) s.dram.poisonTab ch tab } }
  have h : Keeps s t := .of_eq rfl rfl rfl rfl rfl
  have k (u : State) (b : Bool) : Keeps u (u.setPoison l b) := .of_eq rfl rfl rfl rfl rfl
  exact (h.trans (t.memPut_keeps l d mask)).trans (k _ _)
theorem State.charge_keeps (s : State) (p : Nat) (key : Option (Nat × Nat)) (i n : Nat) : Keeps s (s.charge p key i n) := by
  unfold State.charge
  split
  · exact .refl s
  · split
    · exact .refl s
    · exact .of_eq rfl rfl rfl rfl rfl
theorem State.queuedWrite_keeps (s : State) (r : DramReq) : Keeps s (s.queuedWrite r) :=
  ((Keeps.ite (.refl s) (s.charge_keeps _ _ _ _)).trans (State.charge_keeps _ _ _ _ _)).trans (State.memWrite_keeps _ _ _ _ _)
theorem State.settleLine_keeps (s : State) (l : Nat) : Keeps s (s.settleLine l) := by
  unfold State.settleLine
  have k (u : State) (e : Nat) (q w : List DramReq) : Keeps u { u.setDramQ e q with dram := { (u.setDramQ e q).dram with wait := w } } :=
    .of_eq rfl rfl rfl rfl rfl
  exact (Keeps.foldl State.queuedWrite_keeps _ s).trans (k _ _ _ _)

/-! ### Logs, interrupt lines and denials -/

theorem State.openWord_keeps (s : State) : Keeps s s.openWord.2 := .of_eq rfl rfl rfl rfl rfl
theorem State.irqFire_keeps (s : State) (page : Nat) (old : Word) : Keeps s (s.irqFire page old) := by
  unfold State.irqFire
  dsimp only
  split
  · exact .of_eq rfl rfl rfl rfl rfl
  · exact .refl s
theorem State.irqRaise_keeps (s : State) (page : Nat) (bits : Word) : Keeps s (s.irqRaise page bits) :=
  (s.wr_keeps _ _).trans (State.irqFire_keeps _ _ _)
theorem State.logErr_keeps (s : State) (page sev : Nat) (addr info : Word) : Keeps s (s.logErr page sev addr info) := by
  unfold State.logErr
  dsimp only
  refine Keeps.trans ?_ (State.irqRaise_keeps _ _ _)
  refine Keeps.trans ?_ (State.wr_keeps _ _ _)
  refine Keeps.trans ?_ (State.wr_keeps _ _ _)
  have h1 := s.setF_keeps (Reg.ERR_STAT page) Fld.ERR_STAT_SEV sev
  have h2 (t : State) : Keeps t (if sev = 0 then t.setF (Reg.ERR_STAT page) Fld.ERR_STAT_CE 1 else t.setF (Reg.ERR_STAT page) Fld.ERR_STAT_UE 1) :=
    .ite (t.setF_keeps _ _ _) (t.setF_keeps _ _ _)
  have h3 (t : State) (b : Bool) : Keeps t (if b then t.setF (Reg.ERR_STAT page) Fld.ERR_STAT_OVER 1 else t) := .ite (t.setF_keeps _ _ _) (.refl t)
  have h4 (t : State) : Keeps t (if sev = 0 then t else t.addF (Reg.ERR_COUNT page) Fld.ERR_COUNT_UECOUNT 1) := .ite (.refl t) (t.addF_keeps _ _ _)
  exact (((h1.trans (h2 _)).trans (h3 _ _)).trans (State.addF_keeps _ _ _ _)).trans (h4 _)
theorem State.logErrOpen_keeps (s : State) (page sev pa : Nat) : Keeps s (s.logErrOpen page sev pa) :=
  s.openWord_keeps.trans (State.logErr_keeps _ _ _ _ _)
theorem State.logDeny_keeps (s : State) (page pa : Nat) : Keeps s (s.logDeny page pa) :=
  (((s.setF_keeps _ _ _).trans (State.addF_keeps _ _ _ _)).trans (State.wr_keeps _ _ _)).trans (State.irqRaise_keeps _ _ _)
theorem State.denyAt_keeps (s : State) (key : Nat) : Keeps s (s.denyAt key) := s.logDeny_keeps _ _
theorem State.stray_keeps (s : State) (kind : Nat) (write : Bool) (addr cid : Nat) (sec : Bool) (lvl cluster core vec : Nat) :
    Keeps s (s.stray kind write addr cid sec lvl cluster core vec) :=
  (((s.wr_keeps _ _).trans (State.wr_keeps _ _ _)).trans (State.wr_keeps _ _ _)).trans (State.setF_keeps _ _ _ _)
theorem State.strayBy_keeps (s : State) (kind : Nat) (write : Bool) (addr : Nat) (w : Who) : Keeps s (s.strayBy kind write addr w) :=
  s.stray_keeps _ _ _ _ _ _ _ _ _
theorem State.logRing_keeps (s : State) (n kind sev : Nat) (addr info : Word) (cid core : Nat) (inj : Bool) :
    Keeps s (s.logRing n kind sev addr info cid core inj) :=
  ((((s.wr_keeps _ _).trans (State.wr_keeps _ _ _)).trans (State.wr_keeps _ _ _)).trans (State.wr_keeps _ _ _)).trans (State.setF_keeps _ _ _ _)
theorem State.logCluster_keeps (s : State) (n kind sev : Nat) (addr info : Word) (cid core : Nat) (inj : Bool) :
    Keeps s (s.logCluster n kind sev addr info cid core inj) := (s.logRing_keeps n kind sev addr info cid core inj).trans (State.logErrOpen_keeps _ _ _ _)
theorem State.setPend_keeps (s : State) (core id : Nat) : Keeps s (s.setPend core id) := s.wr_keeps _ _
theorem State.clrPend_keeps (s : State) (core id : Nat) : Keeps s (s.clrPend core id) := s.wr_keeps _ _

/-! ### Loss of power -/

theorem State.powerDown_keeps (s : State) (keep : Nat → Bool) (m : Bool) : Keeps s (s.powerDown keep m) := by
  refine ⟨rfl, fun h => ?_, fun h => smWf_filter _ _ h, fun _ => rfl, fun _ => rfl⟩
  unfold State.powerDown
  cases m
  · rfl
  · exact h

theorem State.setBoot_keeps (s : State) (b : BootState) : Keeps s (s.setBoot b) := .of_eq rfl rfl rfl rfl rfl
theorem State.setFail_keeps (s : State) (c : Nat) : Keeps s (s.setFail c) := s.setF_keeps _ _ c
theorem State.enterOff_keeps (s : State) (locked : Bool) : Keeps s (s.enterOff locked) := (s.powerDown_keeps _ _).trans (State.setBoot_keeps _ _)

end Sys2Proof.Machine
end

