-- ==== Sys2Proof/Laws/RunOp.lean ====
section
/-! SUPPORT. Everything that an instruction can do (R57): a core that does not run is left alone, a failed check is an exception, and
otherwise the instruction's operation acts on its operands, leaves its results, and retires. -/

namespace Sys2Proof.Machine

/-- A charge changes the meters alone. -/
theorem State.charge_only (s : State) (p : Nat) (key : Option (Nat × Nat)) (i n : Nat) :
    ∃ m, s.charge p key i n = { s with meters := m } := by
  unfold State.charge
  split
  · exact ⟨_, rfl⟩
  · split <;> exact ⟨_, rfl⟩

/-- What the settling of a core's use changes: the meters, and the use counted for the core (R46). -/
theorem State.settleUse_only (s : State) (core : Nat) :
    ∃ m, s.settleUse core = { s with meters := m }.modCore core (fun k => { k with useInstr := 0, chargeTb := s.now }) := by
  unfold State.settleUse
  obtain ⟨m, hm⟩ := s.charge_only (ptCluster (core / 16)) (s.coreKey core) 0 (s.core core).useInstr
  dsimp only
  rw [hm]
  obtain ⟨m', hm'⟩ := State.charge_only { s with meters := m } (ptCluster (core / 16)) (s.coreKey core) 1
    (s.now - (s.core core).chargeTb)
  rw [hm']
  exact ⟨m', rfl⟩

/-- An instruction that goes to the tag its core's use already goes to begins without a trace. -/
theorem State.begin_same (s : State) (core : Nat) (h : (s.core core).useTag = (s.ctx core).regs.ttag.setWidth 16) : s.begin core = s := by
  simp [State.begin, State.setUseTag, h]

/-- What the beginning of an instruction for another tag changes: the meters, and the use counted for its core (R46). -/
theorem State.begin_other (s : State) (core : Nat) (h : (s.core core).useTag ≠ (s.ctx core).regs.ttag.setWidth 16) :
    ∃ m, s.begin core = ({ s with meters := m }.modCore core (fun k => { k with useInstr := 0, chargeTb := s.now })).modCore core
      (fun k => { k with useTag := (s.ctx core).regs.ttag.setWidth 16 }) := by
  obtain ⟨m, hm⟩ := s.settleUse_only core
  exact ⟨m, by simp only [State.begin, State.setUseTag, h, if_false, hm]⟩

/-- A core that does not run executes nothing. -/
theorem State.runOp_stopped (s : State) (core len : Nat) (op : Op) (h : (s.core core).run ≠ .running) : s.runOp core len op = s := by
  simp [State.runOp, h]

/-- What a boundary has for a core it takes before its next instruction (R122, R125, R128). -/
theorem State.runOp_boundary (s : State) (core len : Nat) (op : Op) (t : State) (h : (s.core core).run = .running)
    (hb : s.boundary core = some t) : s.runOp core len op = t := by
  simp [State.runOp, h, hb]

/-- A failed check of the feature gate, the level or the stack raises its cause (R31, R47, R57). -/
theorem State.runOp_check (s : State) (core len : Nat) (op : Op) (cause : Nat) (h : (s.core core).run = .running)
    (hb : s.boundary core = none) (hc : (s.begin core).preCheck (s.ctx core) op = some cause) :
    s.runOp core len op = (s.begin core).tick.takeSync core (plainFault cause) false false := by
  simp [State.runOp, h, hb, State.doOp, hc]

/-- The operands of an instruction that starts and passes its checks: the boundary has nothing for the core, the places of the
instruction's spills translate and its fills succeed, which leaves the state `t`. -/
structure OpReady (op : Op) (s : State) (core : Nat) (t : State) (ps : List (List Part)) : Prop where
  runs : (s.core core).run = .running
  starts : s.boundary core = none
  checks : (s.begin core).preCheck (s.ctx core) op = none
  fills : ∃ u, State.checkSpills (s.ctx core) (spillsFor ((s.begin core).core core).stack.length op.pops op.pushes) (s.begin core)
      ((((s.begin core).core core).bank (s.ctx core).lvl).osp -
        BitVec.ofNat 64 (8 * (op.pops - ((s.begin core).core core).stack.length))) = (u, .ok ps) ∧
    State.fillN (s.ctx core) (op.pops - ((s.begin core).core core).stack.length) u = (t, none)

/-- The state in which an operation runs: its operands popped. -/
def State.pop (t : State) (core m : Nat) : State := t.modCore core (fun k => { k with stack := k.stack.drop m })

theorem State.runOp_ready {s t : State} {core : Nat} {op : Op} {ps : List (List Part)} (len : Nat) (h : OpReady op s core t ps) :
    s.runOp core len op = match t.applyOp (s.ctx core) op ps with
      | (s, .done) => s.retire core len
      | (s, .jump pc) => s.retireTo core 1 pc
      | (s, .trap f stk) => s.tick.takeSync core f stk false
      | (s, .own) => s := by
  obtain ⟨u, h1, h2⟩ := h.fills
  have hc : (s.ctx core).core = core := rfl
  simp only [State.runOp, h.runs, h.starts, State.doOp, h.checks, h1, h2, hc, ne_eq, not_true_eq_false, if_false]
  all_goals
    rcases t.applyOp (s.ctx core) op ps with ⟨w, r⟩
    cases r <;> rfl

/-- An operation that completes: its results are pushed, the spills they need are made, and the instruction retires. -/
theorem State.runOp_ok {s t w : State} {core : Nat} {op : Op} {ps : List (List Part)} {rs : List Word} (len : Nat) (h : OpReady op s core t ps)
    (hr : op.run (s.ctx core) ((t.core core).stack.take op.pops) (t.pop core op.pops) = (w, .ok rs)) :
    s.runOp core len op = (State.spillTo (s.ctx core) (w.pushes core rs) ps).retire core len := by
  have hc : (s.ctx core).core = core := rfl
  rw [State.runOp_ready len h]
  unfold State.pop at hr
  simp [State.applyOp, hc, hr]

/-- An operation that transfers control. -/
theorem State.runOp_jump {s t w : State} {core : Nat} {op : Op} {ps : List (List Part)} {rs : List Word} {pc : Word} (len : Nat)
    (h : OpReady op s core t ps)
    (hr : op.run (s.ctx core) ((t.core core).stack.take op.pops) (t.pop core op.pops) = (w, .jump rs pc)) :
    s.runOp core len op = (State.spillTo (s.ctx core) (w.pushes core rs) ps).retireTo core 1 pc := by
  have hc : (s.ctx core).core = core := rfl
  rw [State.runOp_ready len h]
  unfold State.pop at hr
  simp [State.applyOp, hc, hr]

/-- An operation that raises an exception: its operands are back on the stack. -/
theorem State.runOp_trap {s t w : State} {core : Nat} {op : Op} {ps : List (List Part)} {f : FaultInfo} {stk : Bool} (len : Nat)
    (h : OpReady op s core t ps)
    (hr : op.run (s.ctx core) ((t.core core).stack.take op.pops) (t.pop core op.pops) = (w, .trap f stk)) :
    s.runOp core len op = (w.pushes core ((t.core core).stack.take op.pops)).tick.takeSync core f stk false := by
  have hc : (s.ctx core).core = core := rfl
  rw [State.runOp_ready len h]
  unfold State.pop at hr
  simp [State.applyOp, hc, hr]

/-- An operation that has moved the core on by itself. -/
theorem State.runOp_own {s t w : State} {core : Nat} {op : Op} {ps : List (List Part)} (len : Nat) (h : OpReady op s core t ps)
    (hr : op.run (s.ctx core) ((t.core core).stack.take op.pops) (t.pop core op.pops) = (w, .own)) : s.runOp core len op = w := by
  have hc : (s.ctx core).core = core := rfl
  rw [State.runOp_ready len h]
  unfold State.pop at hr
  simp [State.applyOp, hc, hr]

/-- Operands that are cached need no fill, and results that fit need no spill. -/
theorem opReady_cached {s : State} {core : Nat} {op : Op} (hr : (s.core core).run = .running) (hb : s.boundary core = none)
    (hc : (s.begin core).preCheck (s.ctx core) op = none) (hm : op.pops ≤ ((s.begin core).core core).stack.length)
    (hs : spillsFor ((s.begin core).core core).stack.length op.pops op.pushes = 0) : OpReady op s core (s.begin core) [] := by
  refine ⟨hr, hb, hc, s.begin core, ?_, ?_⟩
  · rw [hs]; rfl
  · rw [Nat.sub_eq_zero_of_le hm]; rfl

end Sys2Proof.Machine
end

