-- ==== Sys2Proof/Tests/Slice0.lean ====
section
/-! SUPPORT. The model's own tests: what the well-formedness checks refuse, words decoded, small steps, and for every statement
with premises a state and operands that meet them. -/

namespace Sys2Proof.Tests

open Sys2Proof Sys2Proof.Machine Sys2Proof.Claims

set_option Elab.async false

/-! ### Small states -/

/-- A running core at the top level with a stack area of 4 KiB and the given cached entries. -/
def cpu (st : List Word) : Core :=
  { run := .running, lvl := 2#2, pc := 0x4000#64, bankHW := ⟨0x1000#64, 0x2000#64, 0x1100#64⟩, stack := st }

/-- The reset state with DRAM mapped and core 0 as given. -/
def on (k : Core) : State := (State.reset.wr Reg.DMG_TOP 0x100000#64).setCore 0 k

/-- Line 0x3000 held exclusive by core 0. -/
def held : CLine := ⟨0#512, false, false, 0, 0, [⟨0, .e, [(0, .e)], []⟩]⟩

/-- The same with that line in the L3, core 0's L1D and its L2. -/
def onHeld (k : Core) : State := (on k).setLine 0xC0 (some held)

/-- A store waiting in the buffer. -/
def waitingStore : SbEntry := { kind := .store, pa := 0x3008, size := 8, data := 0x1122334455667788#64, va := 0x3008#64, lvl := 2#2 }

/-! ### The ill-formed terms that the checks refuse -/

theorem test_wf_litx : Instr.wf (.litx 0 true [1#16, 2#16, 3#16, 4#16]) = false ∧ Instr.wf (.litx 0 false []) = false ∧
    Instr.wf (.litx 0 false [1#16]) = true := by decide
theorem test_wf_bz : Instr.wf (.bz 0 false false 0#7 [1#16, 2#16, 3#16] 0#16) = false := by decide
theorem test_wf_bnz : Instr.wf (.bnz 0 false false 0#7 [1#16, 2#16, 3#16] 0#16) = false := by decide
theorem test_wf_br : Instr.wf (.br 0 0#9 [1#16, 2#16, 3#16]) = false := by decide
theorem test_wf_call : Instr.wf (.call 0 0#9 [1#16, 2#16, 3#16]) = false := by decide
theorem test_wf_flashWrite : Instr.wf (.flashWrite 0#24 (List.replicate 257 0#8)) = false ∧
    Instr.wf (.flashWrite 0#24 (List.replicate 256 0#8)) = true := by
  simp only [Instr.wf, wfFlash, List.length_replicate]
  decide

/-! ### Witnesses: states and operands that meet the premises of the statements -/

theorem witness_IdleStepCountsOneNanosecond : State.reset.pending = [] := rfl

theorem witness_CommandsLeaveTheQueueInOrder : ∃ t, step { State.reset with pending := [.wakeN, .wakeN] } = .next t := ⟨_, rfl⟩

theorem witness_EveryStepKeepsTheCanonicalForm : Canonical State.reset ∧ ∃ t, step State.reset = .next t :=
  ⟨⟨rfl, rfl, rfl, rfl⟩, _, rfl⟩

/-- Four entries popped and six pushed, within the cache; sixteen popped and seventeen pushed, with a spill. -/
theorem witness_StackEffectsOfClassZero :
    (∃ s t, Ready s 0 4 6 none t [] ∧ (t.core 0).stack = [4#64, 3#64, 2#64, 1#64]) ∧
    (∃ s t ps, Ready s 0 16 17 none t ps ∧ ps ≠ [] ∧ (t.core 0).stack = List.replicate 15 7#64 ++ 7#64 :: []) := by
  refine ⟨⟨on (cpu [4#64, 3#64, 2#64, 1#64]), _, ⟨⟨rfl, rfl⟩, rfl, rfl, _, rfl, rfl⟩, rfl⟩,
    on (cpu (List.replicate 16 7#64)), _, _, ⟨⟨rfl, rfl⟩, rfl, rfl, _, rfl, rfl⟩, ?_, rfl⟩
  exact List.cons_ne_nil _ _

theorem witness_DepthLrAndFpInstructions :
    (∃ s t, Ready s 0 0 1 none t [] ∧
      ((t.core 0).bank (s.ctx 0).lvl).osb.toNat ≤ ((t.core 0).bank (s.ctx 0).lvl).osp.toNat) ∧
    (∃ s t, Ready s 0 1 0 none t [] ∧ (t.core 0).stack = [9#64]) :=
  ⟨⟨on (cpu []), _, ⟨⟨rfl, rfl⟩, rfl, rfl, _, rfl, rfl⟩, by decide⟩, on (cpu [9#64]), _, ⟨⟨rfl, rfl⟩, rfl, rfl, _, rfl, rfl⟩, rfl⟩

/-- One, two and three operands; an operand pair that overflows with the trap on, and a zero divisor with its trap on. -/
theorem witness_ArithmeticLogicAndCompares :
    (∃ s t, Ready s 0 1 1 none t [] ∧ (t.core 0).stack = [minW]) ∧
    (∃ s t, Ready s 0 2 1 none t [] ∧ (t.core 0).stack = [onesW, minW] ∧ (t.core 0).ovtrap = true) ∧
    (∃ s t, Ready s 0 2 1 none t [] ∧ (t.core 0).stack = [0#64, 5#64] ∧ (t.core 0).dztrap = true) ∧
    (∃ s t, Ready s 0 3 1 none t [] ∧ (t.core 0).stack = [0#64, 2#64, 1#64]) :=
  ⟨⟨on (cpu [minW]), _, ⟨⟨rfl, rfl⟩, rfl, rfl, _, rfl, rfl⟩, rfl⟩,
   ⟨on { cpu [onesW, minW] with ovtrap := true }, _, ⟨⟨rfl, rfl⟩, rfl, rfl, _, rfl, rfl⟩, rfl, rfl⟩,
   ⟨on { cpu [0#64, 5#64] with dztrap := true }, _, ⟨⟨rfl, rfl⟩, rfl, rfl, _, rfl, rfl⟩, rfl, rfl⟩,
   on (cpu [0#64, 2#64, 1#64]), _, ⟨⟨rfl, rfl⟩, rfl, rfl, _, rfl, rfl⟩, rfl⟩

theorem witness_LiteralsPushTheirValues :
    (∃ s t, Ready s 0 0 1 none t []) ∧ (∃ imm : List (BitVec 16), 4 < imm.length) :=
  ⟨⟨on (cpu []), _, ⟨rfl, rfl⟩, rfl, rfl, _, rfl, rfl⟩, List.replicate 5 0#16, by decide⟩

/-- Each feature bit shown, with the operands of its group. -/
theorem witness_Extensions :
    (∃ s t, Ready s 0 4 2 (some 0) t [] ∧ (t.core 0).stack = [4#64, 3#64, 2#64, 1#64]) ∧
    (∃ s t, Ready s 0 2 2 (some 0) t [] ∧ (t.core 0).stack = [2#64, 1#64]) ∧
    (∃ s t, Ready s 0 1 1 (some 1) t [] ∧ (t.core 0).stack = [1#64]) ∧
    (∃ s t, Ready s 0 1 1 (some 2) t [] ∧ (t.core 0).stack = [1#64]) ∧
    (∃ s t, Ready s 0 2 1 (some 3) t [] ∧ (t.core 0).stack = [2#64, 1#64]) ∧
    (∃ s t, Ready s 0 3 1 (some 4) t [] ∧ (t.core 0).stack = [3#64, 2#64, 1#64]) ∧
    (∃ s t, Ready s 0 2 1 (some 5) t [] ∧ (t.core 0).stack = [2#64, 1#64]) :=
  ⟨⟨on (cpu [4#64, 3#64, 2#64, 1#64]), _, ⟨⟨rfl, rfl⟩, rfl, rfl, _, rfl, rfl⟩, rfl⟩,
   ⟨on (cpu [2#64, 1#64]), _, ⟨⟨rfl, rfl⟩, rfl, rfl, _, rfl, rfl⟩, rfl⟩, ⟨on (cpu [1#64]), _, ⟨⟨rfl, rfl⟩, rfl, rfl, _, rfl, rfl⟩, rfl⟩,
   ⟨on (cpu [1#64]), _, ⟨⟨rfl, rfl⟩, rfl, rfl, _, rfl, rfl⟩, rfl⟩, ⟨on (cpu [2#64, 1#64]), _, ⟨⟨rfl, rfl⟩, rfl, rfl, _, rfl, rfl⟩, rfl⟩,
   ⟨on (cpu [3#64, 2#64, 1#64]), _, ⟨⟨rfl, rfl⟩, rfl, rfl, _, rfl, rfl⟩, rfl⟩, on (cpu [2#64, 1#64]), _, ⟨⟨rfl, rfl⟩, rfl, rfl, _, rfl, rfl⟩, rfl⟩

/-- A deferred report and an interrupt at the boundary; a hidden extension at U, an empty stack, a full stack area, a core that is off. -/
theorem witness_FailedChecksRaiseTheirCauses :
    (∃ s : State, (s.core 0).run = .running ∧ (s.core 0).deferred ≠ []) ∧
    (∃ s : State, (s.core 0).run = .running ∧ (s.core 0).deferred = [] ∧
      s.pickIrq 0 (s.core 0).lvl.toNat (s.core 0).ie = some (5, true)) ∧
    (∃ s : State, shape (.aese 0) = some (0, 4, 2, some 0) ∧ Starts s 0 ∧ (s.ctx 0).gate (some 0) = false) ∧
    (∃ s : State, shape (.drop 0) = some (0, 1, 0, none) ∧ Starts s 0 ∧ (s.ctx 0).gate none = true ∧
      (s.core 0).stackCheck (s.ctx 0).lvl 1 0 = some 0x04) ∧
    (∃ s : State, memShape (.ldl 0 0#10) = some (0, 0, 1) ∧ Starts s 0 ∧ (s.ctx 0).gate none = true ∧
      (s.core 0).stackCheck (s.ctx 0).lvl 0 1 = some 0x03) ∧
    (∃ s : State, (s.core 0).run ≠ .running) :=
  ⟨⟨on { cpu [] with deferred := [⟨0x1E, 0#64, true, none⟩] }, rfl, List.cons_ne_nil _ _⟩,
   ⟨((on { cpu [] with ie := true }).wr (Reg.CII_PEND 0 0) 0x20#64).wr (Reg.CII_EN 0 0) 0x20#64, rfl, rfl, by decide +kernel⟩,
   ⟨on { cpu [] with lvl := 0#2, eff := { fmask := 0#64 }, sync := { fmask := 0#64 } }, rfl, ⟨rfl, rfl⟩, rfl⟩,
   ⟨on { cpu [] with bankHW := ⟨0x1000#64, 0x2000#64, 0x1000#64⟩ }, rfl, ⟨rfl, rfl⟩, rfl, rfl⟩,
   ⟨on { cpu [] with bankHW := ⟨0x1000#64, 0x2000#64, 0x2000#64⟩ }, rfl, ⟨rfl, rfl⟩, rfl, rfl⟩, State.reset, by decide⟩

/-- The tag of the core's use as it was, too. -/
theorem witness_StackInstructionsLeaveTheRestAlone : ∃ s : State, shape (.over2 0) = some (0, 4, 6, none) ∧
    Starts s 0 ∧ (s.ctx 0).gate none = true ∧ (s.core 0).stackCheck (s.ctx 0).lvl 4 6 = none ∧
    4 ≤ (s.core 0).stack.length ∧ (s.core 0).stack.length - 4 + 6 ≤ 16 ∧ (s.core 0).ovtrap = false ∧ (s.core 0).dztrap = false ∧
    (s.core 0).useTag = (s.ctx 0).regs.ttag.setWidth 16 :=
  ⟨on (cpu (List.replicate 14 7#64)), rfl, ⟨rfl, rfl⟩, rfl, rfl, by decide, by decide, rfl, rfl, rfl⟩

/-- A load that reads the line held, and one of an address above every space, which faults; a local load of each kind. -/
theorem witness_LoadsPushTheBytesRead :
    (∃ s t w v, Ready s 0 1 1 none t [] ∧ (t.core 0).stack = [0x3008#64] ∧
      (Popped t 0 1).loadVA (s.ctx 0) 0x3008 8 none = (w, .ok v)) ∧
    (∃ s t w f, Ready s 0 1 1 none t [] ∧ (t.core 0).stack = [onesW] ∧
      (Popped t 0 1).loadVA (s.ctx 0) onesW.toNat 1 none = (w, .error f)) ∧
    (∃ s t w v, Ready s 0 0 1 none t [] ∧ (Popped t 0 0).loadVA (s.ctx 0) ((t.core 0).fp + 8184#64).toNat 8 none = (w, .ok v)) ∧
    (∃ s t w f, Ready s 0 0 1 none t [] ∧ (Popped t 0 0).loadVA (s.ctx 0) ((t.core 0).fp + 0#64).toNat 8 none = (w, .error f)) :=
  ⟨⟨on { cpu [0x3008#64] with sb := [waitingStore] }, _, _, _, ⟨⟨rfl, rfl⟩, rfl, rfl, _, rfl, rfl⟩, rfl, rfl⟩,
   ⟨on (cpu [onesW]), _, _, _, ⟨⟨rfl, rfl⟩, rfl, rfl, _, rfl, rfl⟩, rfl, rfl⟩,
   ⟨on { cpu [] with sb := [waitingStore], fp := 0x1010#64 }, _, _, _, ⟨⟨rfl, rfl⟩, rfl, rfl, _, rfl, rfl⟩, rfl⟩,
   on { cpu [] with fp := 0x10000000000000#64 }, _, _, _, ⟨⟨rfl, rfl⟩, rfl, rfl, _, rfl, rfl⟩, rfl⟩

theorem witness_StoresCommitTheirBytes :
    (∃ s t w, Ready s 0 2 0 none t [] ∧ (t.core 0).stack = [0x3008#64, 5#64] ∧
      (Popped t 0 2).storeVA (s.ctx 0) 0x3008 8 5#64 = (w, none)) ∧
    (∃ s t w f, Ready s 0 2 0 none t [] ∧ (t.core 0).stack = [onesW, 5#64] ∧
      (Popped t 0 2).storeVA (s.ctx 0) onesW.toNat 1 5#64 = (w, some f)) ∧
    (∃ s t w, Ready s 0 1 0 none t [] ∧ (t.core 0).stack = [5#64] ∧
      (Popped t 0 1).storeVA (s.ctx 0) ((t.core 0).fp + 8184#64).toNat 8 5#64 = (w, none)) ∧
    (∃ s t w f, Ready s 0 1 0 none t [] ∧ (t.core 0).stack = [5#64] ∧
      (Popped t 0 1).storeVA (s.ctx 0) ((t.core 0).fp + 0#64).toNat 8 5#64 = (w, some f)) :=
  ⟨⟨on (cpu [0x3008#64, 5#64]), _, _, ⟨⟨rfl, rfl⟩, rfl, rfl, _, rfl, rfl⟩, rfl, rfl⟩,
   ⟨on (cpu [onesW, 5#64]), _, _, _, ⟨⟨rfl, rfl⟩, rfl, rfl, _, rfl, rfl⟩, rfl, rfl⟩,
   ⟨on (cpu [5#64]), _, _, ⟨⟨rfl, rfl⟩, rfl, rfl, _, rfl, rfl⟩, rfl, rfl⟩,
   on { cpu [5#64] with fp := 0x10000000000000#64 }, _, _, _, ⟨⟨rfl, rfl⟩, rfl, rfl, _, rfl, rfl⟩, rfl, rfl⟩

theorem witness_StoreEntersTheStoreBuffer : ∃ s : State, Starts s 0 ∧ TopLevel s 0 ∧
    (s.core 0).stack = [0x3038#64, 5#64] ∧ (s.core 0).stack.length ≤ 16 ∧ (s.core 0).sb.length < 16 ∧
    (∀ e, e ∈ (s.core 0).sb → ¬(e.kind = .store ∧ e.mt = .devStrict)) ∧
    (0x3038#64 + (0#9).signExtend 64 * BitVec.ofNat 64 8).toNat < 2 ^ 52 ∧
    (0x3038#64 + (0#9).signExtend 64 * BitVec.ofNat 64 8).toNat % 64 + 8 ≤ 64 ∧
    s.fixedType (0x3038#64 + (0#9).signExtend 64 * BitVec.ofNat 64 8).toNat = some .wb ∧ MemType.wb.device = false :=
  ⟨on { cpu [0x3038#64, 5#64] with sb := [waitingStore] }, ⟨rfl, rfl⟩, ⟨by decide, rfl⟩, rfl, by decide, by decide, by decide, by decide,
    by decide, rfl, rfl⟩

theorem witness_LoadIsForwardedFromTheStoreBuffer : ∃ s : State, (s.core 0).sb = [] ++ [waitingStore] ∧
    waitingStore.kind = .store ∧ waitingStore.mt.device = false ∧ waitingStore.parityBad = false ∧
    waitingStore.pa ≤ 0x300F ∧ 0x300F + 1 ≤ waitingStore.pa + waitingStore.size ∧
    s.getF (Reg.ERR_INJECT (pageL2C 0)) Fld.ERR_INJECT_TYPE ≠ 3 :=
  ⟨on { cpu [] with sb := [waitingStore] }, rfl, rfl, rfl, rfl, by decide, by decide, by decide⟩

theorem witness_LoadOfAHeldLineReadsItsBytes : ∃ s cp, TopLevel s 0 ∧ s.fixedType 0x303C = some .wb ∧ (s.core 0).sb = [] ∧
    HeldLine s 0 0x303C false held cp ∧ held.poison = false ∧ 0x303C % 64 + 4 ≤ 64 :=
  ⟨onHeld (cpu []), _, ⟨by decide, rfl⟩, rfl, rfl, ⟨rfl, rfl, rfl, by decide, rfl⟩, rfl, by decide⟩

theorem witness_DrainedStoreWritesExactlyItsBytes : ∃ s cp, (s.ctx 0).dtm = false ∧ (s.core 0).sb = [waitingStore] ∧
    waitingStore.kind = .store ∧ waitingStore.mt = .wb ∧ waitingStore.parityBad = false ∧
    s.getF (Reg.ERR_INJECT (pageL2C 0)) Fld.ERR_INJECT_TYPE ≠ 3 ∧ waitingStore.pa % 64 + waitingStore.size ≤ 64 ∧
    s.fixedType waitingStore.pa = some .wb ∧ HeldLine s 0 waitingStore.pa true held cp ∧ waitingStore.bar = false ∧ s.io.evq = [] :=
  ⟨onHeld { cpu [] with sb := [waitingStore] }, _, rfl, rfl, rfl, rfl, rfl, by decide, by decide, rfl,
   ⟨rfl, rfl, rfl, by decide, rfl⟩, rfl, rfl⟩

/-- An atomic that completes on the line held and one that faults; ACAS both ways. -/
theorem witness_AtomicsPushTheOldValue :
    (∃ s t w f, Ready s 0 2 1 none t [] ∧ (t.core 0).stack = [onesW, 5#64] ∧
      (Popped t 0 2).atomVA (s.ctx 0) false .aadd onesW.toNat 8 5 0 = (w, .error f)) ∧
    (∃ s t w f, Ready s 0 3 1 none t [] ∧ (t.core 0).stack = [onesW, 5#64, 0#64] ∧
      (Popped t 0 3).atomVA (s.ctx 0) false .acas onesW.toNat 8 5 0 = (w, .error f)) ∧
    (∃ s cp, TopLevel s 0 ∧ 0x3038 % 8 = 0 ∧ s.fixedType 0x3038 = some .wb ∧ (s.core 0).sb = [] ∧
      HeldLine s 0 0x3038 true held cp ∧ held.poison = false) :=
  ⟨⟨on (cpu [onesW, 5#64]), _, _, _, ⟨⟨rfl, rfl⟩, rfl, rfl, _, rfl, rfl⟩, rfl, rfl⟩,
   ⟨on (cpu [onesW, 5#64, 0#64]), _, _, _, ⟨⟨rfl, rfl⟩, rfl, rfl, _, rfl, rfl⟩, rfl, rfl⟩,
   onHeld (cpu []), _, ⟨by decide, rfl⟩, by decide, rfl, rfl, ⟨rfl, rfl, rfl, by decide, rfl⟩, rfl⟩

/-- An answer that is no error, as a pair. -/
theorem ok_pair {α β ε : Type} (x : α × Except ε β) (h : x.2.toBool = true) : ∃ w v, x = (w, .ok v) := by
  obtain ⟨w, e⟩ := x
  cases e with
  | ok v => exact ⟨w, v, rfl⟩
  | error e => cases h

theorem witness_AtomicThatCompletes :
    (∃ s t, Ready s 0 2 1 none t [] ∧ (t.core 0).stack = [0x3038#64, 5#64] ∧
      ∃ w old, (Popped t 0 2).atomVA (s.ctx 0) false .aadd 0x3038 8 5 0 = (w, .ok old)) ∧
    (∃ s t, Ready s 0 3 1 none t [] ∧ (t.core 0).stack = [0x3038#64, 5#64, 0#64] ∧
      ∃ w old, (Popped t 0 3).atomVA (s.ctx 0) false .acas 0x3038 8 5 0 = (w, .ok old)) :=
  ⟨⟨onHeld (cpu [0x3038#64, 5#64]), _, ⟨⟨rfl, rfl⟩, rfl, rfl, _, rfl, rfl⟩, rfl, ok_pair _ (by decide +kernel)⟩,
   onHeld (cpu [0x3038#64, 5#64, 0#64]), _, ⟨⟨rfl, rfl⟩, rfl, rfl, _, rfl, rfl⟩, rfl, ok_pair _ (by decide +kernel)⟩

/-! ### Control flow, exceptions, system registers -/

theorem witness_TransfersSetThePcAndLr :
    (∃ s t, [0xFFFF#16, 0x7FFF#16].length ≤ 2 ∧ Ready s 0 0 0 none t [] ∧ (t.core 0).rstack.head? = some (even (t.core 0).lr) ∧
      (s.ctx 0).dtm = false) ∧
    (∃ s t, Ready s 0 1 0 none t [] ∧ (t.core 0).stack = [0x5001#64] ∧ (s.ctx 0).dtm = true) ∧
    (∃ (s t : State), Ready (s.pushInD 0) 0 1 0 none t [] ∧ (t.core 0).stack = [0x5001#64] ∧ (s.ctx 0).dtm = true) ∧
    (∃ (s t : State), Ready (s.pushInD 0) 0 1 0 none t [] ∧ (t.core 0).stack = [0x5001#64] ∧ Starts s 0 ∧ (s.ctx 0).dtm = false) ∧
    2 < (List.replicate 3 0#16).length :=
  ⟨⟨on { cpu [] with lr := 0x5001#64, rstack := [0x5000#64] }, _, by decide, ⟨⟨rfl, rfl⟩, rfl, rfl, _, rfl, rfl⟩, rfl, rfl⟩,
   ⟨on { cpu [0x5001#64] with sync := { coreCtl := 1#64 }, eff := { coreCtl := 1#64 } }, _, ⟨⟨rfl, rfl⟩, rfl, rfl, _, rfl, rfl⟩, rfl, rfl⟩,
   ⟨on { cpu [0x5001#64] with sync := { coreCtl := 1#64 }, eff := { coreCtl := 1#64 } }, _, ⟨⟨rfl, rfl⟩, rfl, rfl, _, rfl, rfl⟩, rfl, rfl⟩,
   ⟨on (cpu [0x5001#64]), _, ⟨⟨rfl, rfl⟩, rfl, rfl, _, rfl, rfl⟩, rfl, ⟨rfl, rfl⟩, rfl⟩, by decide⟩

/-- A taken branch that its field H foretells and whose slot (DUP) completes, one that is not taken with A = 1, and one whose slot (DROP)
underflows. -/
theorem witness_ConditionalBranchesAndTheirDelaySlots :
    (∃ (s t : State) (v : Word), Starts s 0 ∧ parcelUndefined 0x0002#16 = false ∧ slotForbidden 0x0002#16 = false ∧
      (s.begin 0).doOp (s.ctx 0) condOp = (t, .done) ∧ (t.core 0).stack = v :: [7#64] ∧ v = 0#64 ∧ (s.ctx 0).dtm = false ∧
      decodeOne 0 0x0002#16 = some (.dup 0) ∧ ∃ u, (((t.modCore 0 (fun k => { k with stack := [7#64] })).tick).begin 0).doOp
        ((((t.modCore 0 (fun k => { k with stack := [7#64] })).tick).begin 0).ctx 0) (slotOp (.dup 0)) = (u, .done)) ∧
    (∃ (s t : State) (v : Word), Starts s 0 ∧ (s.begin 0).doOp (s.ctx 0) condOp = (t, .done) ∧ (t.core 0).stack = v :: [] ∧ v ≠ 0#64 ∧
      decodeOne 0 0x0003#16 = some (.drop 0) ∧ ∃ u f stk, (((t.modCore 0 (fun k => { k with stack := [] })).tick).begin 0).doOp
        ((((t.modCore 0 (fun k => { k with stack := [] })).tick).begin 0).ctx 0) (slotOp (.drop 0)) = (u, .trap f stk)) :=
  ⟨⟨on (cpu [0#64, 7#64]), _, _, ⟨rfl, rfl⟩, rfl, rfl, rfl, rfl, rfl, rfl, rfl, _, rfl⟩,
   on { cpu [1#64] with bankHW := ⟨0x1000#64, 0x2000#64, 0x1000#64⟩ }, _, _, ⟨rfl, rfl⟩, rfl, rfl, by decide, rfl, _, _, _, rfl⟩

/-- An undefined parcel, and a branch, which no slot holds. -/
theorem witness_ForbiddenDelaySlotsRaiseIllegalParcel :
    Starts (on (cpu [])) 0 ∧ (∃ p, parcelUndefined p = true) ∧ (∃ p, slotForbidden p = true) :=
  ⟨⟨rfl, rfl⟩, ⟨0xBFFF#16, by decide⟩, 0xA000#16, by decide⟩

theorem witness_ExceptionEntryCommits : ∃ e : Exc, e.irq = none ∧ e.f.cause < 256 ∧ e.syndrome = true :=
  ⟨{ f := { cause := 0x18 }, epc := 0#64, opAddr := 0#64 }, rfl, by decide, rfl⟩

/-- The contexts of TRAP (U), of HCALL (K), and of a level at which each is refused. -/
theorem witness_TrapAndHcallEnterTheirHandlers :
    (∃ s t w, Ready s 0 0 0 none t [] ∧ (s.core 0).lvl = 0#2 ∧
      ((Popped t 0 0).tick.syncPoint 0).spillAll (((Popped t 0 0).tick.syncPoint 0).ctx 0) = (w, none) ∧
      (((Popped t 0 0).tick.syncPoint 0).core 0).lvl = 0#2 ∧ (w.core 0).lvl = 0#2) ∧
    (∃ s t w, Ready s 0 0 0 none t [] ∧ (s.core 0).lvl = 1#2 ∧ s.secure 0 = false ∧
      ((Popped t 0 0).tick.syncPoint 0).spillAll (((Popped t 0 0).tick.syncPoint 0).ctx 0) = (w, none) ∧
      (((Popped t 0 0).tick.syncPoint 0).core 0).lvl = 1#2 ∧ ((Popped t 0 0).tick.syncPoint 0).secure 0 = false ∧
      (w.core 0).lvl = 1#2) ∧
    (∃ s t, Ready s 0 0 0 none t [] ∧ (s.core 0).lvl ≠ 0#2 ∧ (s.core 0).lvl ≠ 1#2) :=
  ⟨⟨on { cpu [] with lvl := 0#2 }, _, _, ⟨⟨rfl, rfl⟩, rfl, rfl, _, rfl, rfl⟩, rfl, rfl, rfl, rfl⟩,
   ⟨on { cpu [] with lvl := 1#2 }, _, _, ⟨⟨rfl, rfl⟩, rfl, rfl, _, rfl, rfl⟩, rfl, rfl, rfl, rfl, rfl, rfl⟩,
   on (cpu []), _, ⟨⟨rfl, rfl⟩, rfl, rfl, _, rfl, rfl⟩, by decide, by decide⟩

/-- A vector that can be fetched: the handler's line stands in the core's L1I. -/
theorem witness_VectorFetch : ∃ u : State, (u.core 0).pc = 0x3000#64 ∧ ∃ x p, u.fetchVA (u.ctx 0) 0x3000 = (x, .ok p) :=
  ⟨(on { cpu [] with pc := 0x3000#64 }).setLine 0xC0 (some ⟨0#512, false, false, 0, 0, [⟨0, .s, [], [0]⟩]⟩), rfl,
   ok_pair _ (by decide +kernel)⟩

/-- ERET at U; from H back to H and to U; with an ESR of the other world. -/
theorem witness_EretRestoresTheSavedContext :
    (∃ s : State, Starts s 0 ∧ Ready s 0 0 0 none (s.begin 0) [] ∧ (s.core 0).lvl = 0#2) ∧
    (∃ s u, Ready s 0 0 0 none (s.begin 0) [] ∧ (s.core 0).lvl ≠ 0#2 ∧ ((s.core 0).exc (s.core 0).lvl.toNat).esr = 0x200#64 ∧
      s.secure 0 = false ∧
      ((Popped (s.begin 0) 0 0).syncPoint 0).spillChecked (((Popped (s.begin 0) 0 0).syncPoint 0).ctx 0) = (u, none)) ∧
    (∃ s, Ready s 0 0 0 none (s.begin 0) [] ∧ ((s.core 0).exc (s.core 0).lvl.toNat).esr = 0#64 ∧ s.secure 0 = false) ∧
    (∃ s, Ready s 0 0 0 none (s.begin 0) [] ∧ ((s.core 0).exc (s.core 0).lvl.toNat).esr = 0x400#64 ∧ s.secure 0 = false) :=
  ⟨⟨on { cpu [] with lvl := 0#2 }, ⟨rfl, rfl⟩, ⟨⟨rfl, rfl⟩, rfl, rfl, _, rfl, rfl⟩, rfl⟩,
   ⟨on { cpu [] with excHW := { esr := 0x200#64 } }, _, ⟨⟨rfl, rfl⟩, rfl, rfl, _, rfl, rfl⟩, by decide, rfl, rfl, rfl⟩,
   ⟨on (cpu [5#64]), ⟨⟨rfl, rfl⟩, rfl, rfl, _, rfl, rfl⟩, rfl, rfl⟩,
   on { cpu [] with excHW := { esr := 0x400#64 } }, ⟨⟨rfl, rfl⟩, rfl, rfl, _, rfl, rfl⟩, rfl, rfl⟩

/-- The top level, and K. -/
theorem witness_SystemRegistersAreReadAndWritten :
    (∃ s t, Ready s 0 0 1 none t [] ∧ 2 ≤ (s.ctx 0).lvl) ∧ (∃ s t, Ready s 0 0 1 none t [] ∧ (s.ctx 0).lvl = 1) ∧
    (∃ s t, Ready s 0 1 0 none t [] ∧ 2 ≤ (s.ctx 0).lvl ∧ (t.core 0).stack = [onesW]) :=
  ⟨⟨on (cpu []), _, ⟨⟨rfl, rfl⟩, rfl, rfl, _, rfl, rfl⟩, by decide⟩,
   ⟨on { cpu [] with lvl := 1#2, bankK := (cpu []).bankHW }, _, ⟨⟨rfl, rfl⟩, rfl, rfl, _, rfl, rfl⟩, by decide⟩,
   on (cpu [onesW]), _, ⟨⟨rfl, rfl⟩, rfl, rfl, _, rfl, rfl⟩, by decide, rfl⟩

theorem witness_SystemRegisterChecks :
    (∃ s : State, Starts s 0 ∧ sysLevels (s.uen 0) 0xFFF = none) ∧
    (∃ s : State, Starts s 0 ∧ sysLevels (s.uen 0) 0x040 = some (0, none)) ∧
    (∃ s : State, Starts s 0 ∧ sysLevels (s.uen 0) 0x030 = some (1, some 1) ∧ (s.ctx 0).lvl < 1) :=
  ⟨⟨on (cpu []), ⟨rfl, rfl⟩, rfl⟩, ⟨on (cpu []), ⟨rfl, rfl⟩, rfl⟩, on { cpu [] with lvl := 0#2 }, ⟨rfl, rfl⟩, rfl, by decide⟩

theorem witness_StackRegisterAndStatusWrites : ∃ s t w, Ready s 0 1 0 none t [] ∧ (t.core 0).stack = [7#64] ∧
    (Popped t 0 1).spillChecked (s.ctx 0) = (w, none) :=
  ⟨on (cpu [7#64]), _, _, ⟨⟨rfl, rfl⟩, rfl, rfl, _, rfl, rfl⟩, rfl, rfl⟩

/-! ### Barriers, maintenance, TLBs -/

theorem witness_BarriersAndSynchronisation : ∃ s t, Ready s 0 0 0 none t [] ∧
    (t.core 0).useTag = (t.core 0).sync.ttag.setWidth 16 ∧ (t.core 0).sync.coreCtl = (t.core 0).eff.coreCtl ∧
    (∀ e ∈ (t.core 0).sb, e.kind ≠ .iclean) :=
  ⟨on { cpu [] with sb := [waitingStore] }, _, ⟨⟨rfl, rfl⟩, rfl, rfl, _, rfl, rfl⟩, rfl, rfl, by decide⟩

/-- A line operation that commits, one whose translation faults; a range of no byte, of two bytes across a line, and one that
faults; a level below DINV's. -/
theorem witness_CacheMaintenanceCommitsItsLines :
    (∃ s t w x, Ready s 0 1 0 none t [] ∧ 2 ≤ (s.ctx 0).lvl ∧ (t.core 0).stack = [0x3008#64] ∧
      ((Popped t 0 1).strictFirst (s.ctx 0)).translate (s.ctx 0) .load 0x3008 = (w, .ok x)) ∧
    (∃ s t w x, Ready s 0 1 0 none t [] ∧ (t.core 0).stack = [0x3008#64] ∧
      ((Popped t 0 1).strictFirst (s.ctx 0)).translate (s.ctx 0) .iclean 0x3008 = (w, .ok x)) ∧
    (∃ s t w f, Ready s 0 1 0 none t [] ∧ (t.core 0).stack = [onesW] ∧
      ((Popped t 0 1).strictFirst (s.ctx 0)).translate (s.ctx 0) .load onesW.toNat = (w, .error f)) ∧
    (∃ s t, Ready s 0 2 0 none t [] ∧ (t.core 0).stack = [0#64, 0x3008#64]) ∧
    (∃ s t w l, Ready s 0 2 0 none t [] ∧ (t.core 0).stack = [2#64, 0x303F#64] ∧
      State.rangeLines (s.ctx 0) .clean ((2#64).toNat / 4096 + 2) ((Popped t 0 2).strictFirst (s.ctx 0)) 0x303F 2 [] = (w, .ok l)) ∧
    (∃ s t w f, Ready s 0 2 0 none t [] ∧ (t.core 0).stack = [2#64, onesW] ∧
      State.rangeLines (s.ctx 0) .clean ((2#64).toNat / 4096 + 2) ((Popped t 0 2).strictFirst (s.ctx 0)) onesW.toNat 2 [] = (w, .error f)) ∧
    (∃ s : State, Starts s 0 ∧ (s.ctx 0).lvl < 2) :=
  ⟨⟨on (cpu [0x3008#64]), _, _, _, ⟨⟨rfl, rfl⟩, rfl, rfl, _, rfl, rfl⟩, by decide, rfl, rfl⟩,
   ⟨on (cpu [0x3008#64]), _, _, _, ⟨⟨rfl, rfl⟩, rfl, rfl, _, rfl, rfl⟩, rfl, rfl⟩,
   ⟨on (cpu [onesW]), _, _, _, ⟨⟨rfl, rfl⟩, rfl, rfl, _, rfl, rfl⟩, rfl, rfl⟩,
   ⟨on (cpu [0#64, 0x3008#64]), _, ⟨⟨rfl, rfl⟩, rfl, rfl, _, rfl, rfl⟩, rfl⟩,
   ⟨on (cpu [2#64, 0x303F#64]), _, _, _, ⟨⟨rfl, rfl⟩, rfl, rfl, _, rfl, rfl⟩, rfl, rfl⟩,
   ⟨on (cpu [2#64, onesW]), _, _, _, ⟨⟨rfl, rfl⟩, rfl, rfl, _, rfl, rfl⟩, rfl, rfl⟩, on { cpu [] with lvl := 1#2 }, ⟨rfl, rfl⟩, by decide⟩

theorem witness_PerformedMaintenanceOfALine : (onHeld (cpu [])).line 0xC0 = some held := rfl

/-- A prefetch that becomes a miss, one of a device, one that faults, one in deterministic mode, and a returning miss. -/
theorem witness_PrefetchesNeverFault :
    (∃ s t, Ready s 0 1 0 none t [] ∧ (t.core 0).stack = [0x3008#64]) ∧
    (∃ (s u : State) (y : Xlat), (s.ctx 0).dtm = false ∧ (s.strictFirst (s.ctx 0)).translate (s.ctx 0) .prefetch 0x3008 = (u, .ok y) ∧ y.mt = some .wb ∧
      (u.core 0).misses.length < 8 ∧ u.l1dServes 0 (y.pa / 64) false = false) ∧
    (∃ (s u : State) (f : FaultInfo), (s.ctx 0).dtm = false ∧ (s.strictFirst (s.ctx 0)).translate (s.ctx 0) .prefetch onesW.toNat = (u, .error f)) ∧
    (∃ s : State, (s.ctx 0).dtm = true) ∧
    (∃ s : State, (s.core 0).run ≠ .off ∧ (s.core 0).misses = [⟨0x3008, false, false⟩] ∧ (s.ctx 0).dtm = true) ∧
    (∃ s : State, (s.core 0).run ≠ .off ∧ (s.core 0).misses = [⟨0x3008, false, false⟩] ∧
      ∃ cp, HeldLine s 0 0x3008 false held cp) :=
  ⟨⟨on (cpu [0x3008#64]), _, ⟨⟨rfl, rfl⟩, rfl, rfl, _, rfl, rfl⟩, rfl⟩,
   ⟨on (cpu []), _, _, rfl, rfl, rfl, by decide, rfl⟩, ⟨on (cpu []), _, _, rfl, rfl⟩,
   ⟨on { cpu [] with sync := { coreCtl := 1#64 }, eff := { coreCtl := 1#64 } }, rfl⟩,
   ⟨on { cpu [] with sync := { coreCtl := 1#64 }, eff := { coreCtl := 1#64 }, misses := [⟨0x3008, false, false⟩] }, by decide, rfl, rfl⟩,
   onHeld { cpu [] with misses := [⟨0x3008, false, false⟩] }, by decide, rfl, _, rfl, rfl, rfl, by decide, rfl⟩

theorem witness_TlbInvalidationInstructions :
    (∃ s t, Ready s 0 1 0 none t [] ∧ 2 ≤ (s.ctx 0).lvl ∧ (t.core 0).stack = [onesW]) ∧
    (∃ s t, Ready s 0 0 0 none t [] ∧ 2 ≤ (s.ctx 0).lvl) ∧
    (∃ s : State, Starts s 0 ∧ (s.ctx 0).lvl < 1) :=
  ⟨⟨on (cpu [onesW]), _, ⟨⟨rfl, rfl⟩, rfl, rfl, _, rfl, rfl⟩, by decide, rfl⟩, ⟨on (cpu []), _, ⟨⟨rfl, rfl⟩, rfl, rfl, _, rfl, rfl⟩, by decide⟩,
   on { cpu [] with lvl := 0#2 }, ⟨rfl, rfl⟩, by decide⟩

theorem witness_InvalidationsRemoveTheirEntries :
    (∃ a : Word, canonical a.toNat = true) ∧
    (∃ s t, Ready s 0 0 0 none t [] ∧ 1 ≤ (s.ctx 0).lvl ∧ (t.core 0).tlbPend = []) ∧
    (∃ s : State, (s.cluster 0).inv = [.hall] ∧ ∀ c, c ∈ clusterCores 0 → (s.core c).sb = []) ∧
    (State.reset.cluster 95).inv = [] := by
  refine ⟨⟨0#64, rfl⟩, ⟨on (cpu []), _, ⟨⟨rfl, rfl⟩, rfl, rfl, _, rfl, rfl⟩, by decide, rfl⟩,
    ⟨State.reset.setCluster 0 { inv := [.hall] }, rfl, fun c _ => rfl⟩, rfl⟩

/-! ### Queue instructions and WCALL -/

/-- Cluster 0 of compartment 5, whose queues start at 0. -/
def inComp (k : Core) : State := ((on k).wr (Reg.CMT_CLUSTER 0) 0x45#64).wr (Reg.QM_RANGE 5) 0x1000000#64

/-- That cluster with a slot of its compartment on the wheels of die 0, a descriptor of queue 0 (four frames at 0x40000, tasks of
level K), its ring, and the line 0x3000 with the three after it, all in the L3. -/
def queued (k : Core) : State :=
  let s := inComp k
  let maps := (([0, 8, 9, 10, 11, 12, 13, 14, 15].map (fun w => (w * 64, (0x45#64 : Word)))))
  let line := fun (d : BitVec 512) => (⟨d, false, false, 0, 0, []⟩ : CLine)
  { s with
    comp := { s.comp with maps := maps }
    lines := [(0, line (0x40000 * 2 ^ 64 + 0xA2005)), (0xC0, held), (0xC1, line 0#512), (0xC2, line 0#512), (0xC3, line 0#512),
      (0x1000, line 0#512), (0x1001, line 0#512), (0x1002, line 0#512), (0x1003, line 0#512)] }


/-- Whether the checks and accesses of QPUSH and QPOP to queue 0 with the frame at `a` are all allowed. -/
def queueRuns (s : State) (t : State) (a : Word) : Bool :=
  (match State.xlatParts (s.ctx 0) .load (Popped t 0 2) (pageParts a.toNat 256) with
   | (u1, .ok _) => (match u1.checkDesc (s.ctx 0) 0 true with
     | (u2, .ok _) => (match State.readBuf (s.ctx 0) ((State.xlatParts (s.ctx 0) .load (Popped t 0 2) (pageParts a.toNat 256)).2.toOption.getD [])
         (u2.fullBarrier (s.ctx 0)) (bufLines a.toNat) with | (_, .ok _) => true | _ => false)
     | _ => false)
   | _ => false) &&
  (match State.xlatParts (s.ctx 0) .store (Popped t 0 2) (pageParts a.toNat 256) with
   | (u1, .ok l) => (match (u1.fullBarrier (s.ctx 0)).checkDesc (s.ctx 0) 0 false with
     | (u2, .ok d) => (match u2.qpopRun (s.ctx 0) a 0#64 d l with | (_, .ok [_]) => true | _ => false)
     | _ => false)
   | _ => false)

theorem queueRuns_push (s t : State) (a : Word) (h : queueRuns s t a = true) : ∃ u1 l u2 d u3 f w st,
    State.xlatParts (s.ctx 0) .load (Popped t 0 2) (pageParts a.toNat 256) = (u1, .ok l) ∧ u1.checkDesc (s.ctx 0) 0 true = (u2, .ok d) ∧
    State.readBuf (s.ctx 0) l (u2.fullBarrier (s.ctx 0)) (bufLines a.toNat) = (u3, .ok f) ∧ u3.pushLocal (s.ctx 0) 0 d f = (w, st) := by
  unfold queueRuns at h
  obtain ⟨h, -⟩ := (Bool.and_eq_true _ _).mp h
  split at h
  · next u1 l h1 =>
    split at h
    · next u2 d h2 =>
      rw [h1] at h
      split at h
      · next u3 f h3 => exact ⟨_, _, _, _, _, _, _, _, h1, h2, h3, rfl⟩
      · cases h
    · cases h
  · cases h

theorem queueRuns_pop (s t : State) (a : Word) (h : queueRuns s t a = true) : ∃ u1 l u2 d w st,
    State.xlatParts (s.ctx 0) .store (Popped t 0 2) (pageParts a.toNat 256) = (u1, .ok l) ∧
    (u1.fullBarrier (s.ctx 0)).checkDesc (s.ctx 0) 0 false = (u2, .ok d) ∧
    u2.qpopRun (s.ctx 0) a 0#64 d l = (w, .ok [st]) := by
  unfold queueRuns at h
  obtain ⟨-, h⟩ := (Bool.and_eq_true _ _).mp h
  split at h
  · next u1 l h1 =>
    split at h
    · next u2 d h2 =>
      split at h
      · next w st h3 => exact ⟨_, _, _, _, _, _, h1, h2, h3⟩
      · cases h
    · cases h
  · cases h

/-- An unaligned frame, a queue above the range's last, a remote queue, and a push and a pop that run. -/
theorem witness_QueuePushAndPop :
    (∃ s t, Ready s 0 2 1 none t [] ∧ (t.core 0).stack = [0#64, 0x3001#64]) ∧
    (∃ s t, Ready s 0 2 1 none t [] ∧ (t.core 0).stack = [16#64, 0x3000#64] ∧ t.inRange (t.cid 0) 16 = false) ∧
    (∃ s t, Ready s 0 2 1 none t [] ∧ (t.core 0).stack = [0x1000000000#64, 0x3000#64]) ∧
    (∃ s t, Ready s 0 2 1 none t [] ∧ (t.core 0).stack = [0#64, 0x3000#64] ∧ t.inRange (t.cid 0) 0 = true ∧ queueRuns s t 0x3000#64 = true) :=
  ⟨⟨inComp (cpu [0#64, 0x3001#64]), _, ⟨⟨rfl, rfl⟩, rfl, rfl, _, rfl, rfl⟩, rfl⟩,
   ⟨inComp (cpu [16#64, 0x3000#64]), _, ⟨⟨rfl, rfl⟩, rfl, rfl, _, rfl, rfl⟩, rfl, rfl⟩,
   ⟨inComp (cpu [0x1000000000#64, 0x3000#64]), _, ⟨⟨rfl, rfl⟩, rfl, rfl, _, rfl, rfl⟩, rfl⟩,
   ⟨queued (cpu [0#64, 0x3000#64]), _, ⟨⟨rfl, rfl⟩, rfl, rfl, _, rfl, rfl⟩, rfl, rfl, by decide +kernel⟩⟩


theorem bool_pair {α : Type} (x : α × Bool) (b : Bool) (h : (x.2 == b) = true) : ∃ w, x = (w, b) := by
  obtain ⟨w, e⟩ := x
  exact ⟨w, congrArg (Prod.mk w) (beq_iff_eq.mp h)⟩

/-- A core whose interrupt 5 is pending and enabled. -/
def interrupted (s : State) : State := (s.wr (Reg.CII_PEND 0 0) 0x20#64).wr (Reg.CII_EN 0 0) 0x20#64

/-- A task of queue 0 at K, and a core that runs it. -/
def taskZero : Task := ⟨0#18, 1#2, false, 0, false, 0, 0, 0#64, [], 0, 0⟩
def tasked : Core := { cpu [] with lvl := 1#2, task := some taskZero }

/-- A wait that holds, one of a task whose preemption is due, a waiting core with a frame, and one without. -/
theorem witness_WaitHoldsTheContext :
    (∃ s t, Ready s 0 0 0 none t [] ∧
      (((Popped t 0 0).fullBarrier (s.ctx 0)).irqTakeable 0 || ((Popped t 0 0).fullBarrier (s.ctx 0)).preemptDue 0) = false) ∧
    (∃ s t, Ready s 0 0 0 none t [] ∧
      (((Popped t 0 0).fullBarrier (s.ctx 0)).irqTakeable 0 || ((Popped t 0 0).fullBarrier (s.ctx 0)).preemptDue 0) = true) ∧
    (∃ s : State, (s.core 0).run = .waiting ∧ (s.core 0).homeFrame = true) ∧
    (∃ s : State, (s.core 0).run = .waiting ∧ (s.core 0).homeFrame = false ∧ s.irqTakeable 0 = false ∧ s.preemptDue 0 = false) := by
  refine ⟨⟨on (cpu []), _, ⟨⟨rfl, rfl⟩, rfl, rfl, _, rfl, rfl⟩, ?_⟩, ⟨on { tasked with task := some { taskZero with preempt := true }, hot := true }, _, ⟨⟨rfl, rfl⟩, rfl, rfl, _, rfl, rfl⟩, ?_⟩,
    ⟨on { cpu [] with run := .waiting, homeFrame := true }, rfl, rfl⟩,
    on { cpu [] with run := .waiting }, rfl, rfl, ?_, ?_⟩ <;> decide +kernel

/-- The same core at the top level, interrupted: its ESR leads back to the task, or to U. -/
def above (esr : Word) : Core := { tasked with lvl := 2#2, excHW := { esr := esr } }

/-- A task of queue 0 at K, whose save can be made or not, a core at the top level without a task, and one at U; the task seen from above,
with a return that leads to it and its save, and one that does not. -/
theorem witness_QdoneAndYieldEndTheTask :
    (∃ s t x w, Ready s 0 0 0 none t [] ∧ (t.core 0).task = some x ∧ (t.core 0).lvl = x.lvl ∧
      ((Popped t 0 0).retire 0 2).saveTask 0 x false false = (w, true)) ∧
    (∃ s t x w, Ready s 0 0 0 none t [] ∧ (t.core 0).task = some x ∧ (t.core 0).lvl = x.lvl ∧
      ((Popped t 0 0).retire 0 2).saveTask 0 x false false = (w, false)) ∧
    (∃ s t, Ready s 0 0 0 none t [] ∧ (t.core 0).task = none ∧ 2 ≤ (t.core 0).lvl.toNat) ∧
    (∃ s t, Ready s 0 0 0 none t [] ∧ (t.core 0).task = none ∧ (t.core 0).lvl.toNat < 2) ∧
    (∃ s t x w b, Ready s 0 0 0 none t [] ∧ (t.core 0).task = some x ∧ (t.core 0).lvl ≠ x.lvl ∧ x.lvl.toNat < (t.core 0).lvl.toNat ∧
      ((t.core 0).exc (t.core 0).lvl.toNat).esr.toNat / 2 ^ 8 % 4 = x.lvl.toNat ∧
      eretOk (t.core 0).lvl.toNat (t.secure 0) ((t.core 0).exc (t.core 0).lvl.toNat).esr = true ∧
      ((Popped t 0 0).retire 0 2).saveTask 0 x true false = (w, b)) ∧
    (∃ s t x, Ready s 0 0 0 none t [] ∧ (t.core 0).task = some x ∧ (t.core 0).lvl ≠ x.lvl ∧
      ((t.core 0).exc (t.core 0).lvl.toNat).esr.toNat / 2 ^ 8 % 4 ≠ x.lvl.toNat) := by
  obtain ⟨w, h⟩ := bool_pair (((Popped (queued tasked) 0 0).retire 0 2).saveTask 0 taskZero false false) true (by decide +kernel)
  obtain ⟨w', h'⟩ := bool_pair (((Popped (on tasked) 0 0).retire 0 2).saveTask 0 taskZero false false) false (by decide +kernel)
  exact ⟨⟨queued tasked, queued tasked, _, w, ⟨⟨rfl, rfl⟩, rfl, rfl, _, rfl, rfl⟩, rfl, rfl, h⟩,
    ⟨on tasked, on tasked, _, w', ⟨⟨rfl, rfl⟩, rfl, rfl, _, rfl, rfl⟩, rfl, rfl, h'⟩, ⟨on (cpu []), _, ⟨⟨rfl, rfl⟩, rfl, rfl, _, rfl, rfl⟩, rfl, by decide⟩,
    ⟨on { cpu [] with lvl := 1#2 }, _, ⟨⟨rfl, rfl⟩, rfl, rfl, _, rfl, rfl⟩, rfl, by decide⟩,
    ⟨on (above 0x100#64), on (above 0x100#64), taskZero, _, _, ⟨⟨rfl, rfl⟩, rfl, rfl, _, rfl, rfl⟩, rfl, by decide, by decide, rfl, rfl, rfl⟩,
    on (above 0#64), on (above 0#64), taskZero, ⟨⟨rfl, rfl⟩, rfl, rfl, _, rfl, rfl⟩, rfl, by decide, by decide⟩

/-- An open warden mailbox with cluster 1 as its cluster. -/
def wardenOpen (s : State) : State :=
  let s := ((s.wr (Reg.CMT_CLUSTER 1) 0x7F#64).setF Reg.WDN_CTL Fld.WDN_CTL_WCL 1).setF Reg.WDN_CTL Fld.WDN_CTL_OPEN 1
  { s with warden := { s.warden with down := false, openedOnce := true, restarted := false } }

/-- A call accepted, one refused, one at U, and one answered. -/
theorem witness_WcallQueuesItsRequest :
    (∃ s t w, Ready s 0 2 2 none t [] ∧ 1 ≤ (s.ctx 0).lvl ∧ s.secure 0 = false ∧ (t.core 0).stack = [1#64, 2#64] ∧
      (Popped t 0 2).wcallRefusal (t.cid 0) = (w, none)) ∧
    (∃ s t w st, Ready s 0 2 2 none t [] ∧ 1 ≤ (s.ctx 0).lvl ∧ s.secure 0 = false ∧ (t.core 0).stack = [1#64, 2#64] ∧
      (Popped t 0 2).wcallRefusal (t.cid 0) = (w, some st)) ∧
    (∃ s : State, Starts s 0 ∧ (s.ctx 0).lvl < 1) ∧
    (∃ s : State, (s.core 0).run = .wcalling ∧ (s.core 0).wresult = some (5#64, 0#64)) :=
  ⟨⟨wardenOpen (inComp (cpu [1#64, 2#64])), _, _, ⟨⟨rfl, rfl⟩, rfl, rfl, _, rfl, rfl⟩, by decide, rfl, rfl, rfl⟩,
   ⟨inComp (cpu [1#64, 2#64]), _, _, _, ⟨⟨rfl, rfl⟩, rfl, rfl, _, rfl, rfl⟩, by decide, rfl, rfl, rfl⟩,
   ⟨on { cpu [] with lvl := 0#2 }, ⟨rfl, rfl⟩, by decide⟩, on { cpu [] with run := .wcalling, wresult := some (5#64, 0#64) }, rfl, rfl⟩


/-! ### Cores beside their instructions -/

/-- Boot firmware runs. -/
def booted : State := { State.reset with boot := { st := .waitHandover } }

theorem witness_ExceptionsOutsideTheInstructions :
    (∃ (s t : State), (s.core 0).run = .running ∧ s.boundary 0 = some t) ∧
    (∃ s : State, Starts s 0 ∧ parcelUndefined 0xBFFF#16 = true ∧ (s.core 0).stack ≠ [] ∧ sysLevels false 0 ≠ none) ∧
    (∃ (s u : State) (f : FaultInfo), Starts s 0 ∧ s.fetchVA (s.ctx 0) (s.core 0).pc.toNat = (u, .error f)) ∧
    (∃ s : State, (s.core 0).run ≠ .running) :=
  ⟨⟨on { cpu [] with deferred := [⟨0x1E, 0#64, true, none⟩] }, _, rfl, rfl⟩,
   ⟨on (cpu [1#64]), ⟨rfl, rfl⟩, by decide, List.cons_ne_nil _ _, by decide⟩,
   ⟨on { cpu [] with pc := 0xFFFFFFFFFFFFFFFE#64 }, _, _, ⟨rfl, rfl⟩, rfl⟩, State.reset, by decide⟩

/-- An interrupt to take on a running, a waiting, a parked core and one whose call has ended; none. -/
theorem witness_InterruptsAreTakenInTheirOrder :
    (interrupted State.reset).pickIrq 0 2 true = some (5, true) ∧
    (∃ s : State, s.nextIrq 0 = some (5, true) ∧ s.coreAwake 0 = true ∧ (s.core 0).run = .running) ∧
    (∃ s : State, s.nextIrq 0 = some (5, true) ∧ s.coreAwake 0 = true ∧ (s.core 0).run = .waiting) ∧
    (∃ s : State, s.nextIrq 0 = some (5, true) ∧ s.coreAwake 0 = true ∧ (s.core 0).run = .parked) ∧
    (∃ s : State, s.nextIrq 0 = some (5, true) ∧ s.coreAwake 0 = true ∧ (s.core 0).run = .wcalling ∧ (s.core 0).wresult ≠ none) ∧
    State.reset.nextIrq 0 = none := by
  refine ⟨?_, ⟨interrupted (on { cpu [] with ie := true }), ?_, ?_, rfl⟩,
    ⟨interrupted (on { cpu [] with ie := true, run := .waiting }), ?_, ?_, rfl⟩,
    ⟨interrupted (on { cpu [] with run := .parked }), ?_, ?_, rfl⟩,
    ⟨interrupted (on { cpu [] with ie := true, run := .wcalling, wresult := some (0#64, 0#64) }), ?_, ?_, rfl, by decide⟩, ?_⟩ <;> decide +kernel

/-- An entry that interrupt 5 takes over, and its record. -/
def enteredRec : EntryRec := ⟨0x30, 0, false, none, 0x4000#64, 0x4002#64, {}, 2#2, {}⟩
def entering : Core := { cpu [] with pc := 0x3000#64, entry := some enteredRec, excHW := { esr := 0xA00#64 } }

theorem witness_LateArrivalsReportsAndPendingBits :
    (∃ s : State, (s.core 0).entry = some enteredRec ∧ s.lateIrq 0 enteredRec = some (5, true)) ∧
    (∃ s : State, (s.core 0).entry = none ∧ (s.core 0).deferred = []) ∧
    (∃ s : State, (s.core 0).deferred = [⟨0x20, 0#64, false, none⟩] ∧ (s.core 0).run = .running ∧ s.coreAwake 0 = true) ∧
    (∃ (s : State) (w : Who), Performed s .boot w (Reg.CII_SET 0 0)) ∧
    (∃ s : State, timedEvent (((s.core 0).perf.pmsel.getD 7 0#64).toNat % 256) = false ∧ (s.core 0).perf.irq.getLsbD 7 = true) ∧
    (∃ s : State, timedEvent (((s.core 0).perf.pmsel.getD 7 0#64).toNat % 256) = false ∧ (s.core 0).perf.irq.getLsbD 7 = false) := by
  refine ⟨⟨interrupted (on entering), rfl, ?_⟩, ⟨State.reset, rfl, rfl⟩,
    ⟨on { cpu [] with deferred := [⟨0x20, 0#64, false, none⟩] }, rfl, rfl, ?_⟩, ⟨booted, _, rfl, ?_⟩,
    ⟨on { cpu [] with perf := { irq := 0x80#8 } }, ?_, rfl⟩, ⟨State.reset, ?_, rfl⟩⟩ <;> decide +kernel


/-- Every wheel of a state with one slot, whose entry is `v`. -/
def slots (s : State) (v : Word) : State := { s with comp := { s.comp with maps := (natsFrom 0 142).map (fun w => (w * 64, v)) } }

/-- The wheels between two dies are wheels of the device, whatever the route. -/
theorem dieRoute_lt : ∀ up : Bool, ∀ a < 11, ∀ b < 11, ∀ l ∈ dieRoute up a b, l < 36 := by decide +kernel

theorem pathWheels_lt (a b w : Nat) (ha : a < 11) (hb : b < 11) (h : w ∈ pathWheels a b) : w < 142 := by
  unfold pathWheels at h
  simp only [List.mem_append] at h
  rcases h with (h | h) | h
  · split at h <;> simp_all <;> omega
  · simp only [List.mem_map] at h
    obtain ⟨l, hl, rfl⟩ := h
    have := dieRoute_lt _ a ha b hb l hl
    unfold wheelD2D
    omega
  · split at h <;> simp_all <;> omega

theorem firstNoSlot_none (s : State) (ws : List Nat) (c : Nat) (dtm : Bool) (hw : ∀ w, w ∈ ws → w < 142)
    (h : ∀ w, w < 142 → s.hasSlot w c dtm = true) : s.firstNoSlot ws c dtm = none := by
  unfold State.firstNoSlot
  rw [List.find?_eq_none]
  intro w m
  simp [h w (hw w m)]

/-- The lines 0xC0 shared by clusters, modified by one, and in no cache above the L3. -/
def shared : CLine := ⟨0x1122334455667788#512, false, false, 0, 0, [⟨1, .s, [(16, .s)], []⟩]⟩
def modified : CLine := ⟨0x1122334455667788#512, false, false, 0, 0, [⟨1, .m, [(16, .e)], []⟩]⟩
def lineAt (x : CLine) : State := (slots (on { cpu [] with perf := {} }) 0x40#64).setLine 0xC0 (some x)

theorem witness_HomeSliceGrantsSharedAndExclusiveCopies :
    ∃ (s : State) (x : CLine), AtSlice s (s.coreReq (s.ctx 0) 0) 0xC0 x ∧ x.copy 0 = none ∧ x.anyDirty = true :=
  ⟨lineAt modified, modified, ⟨rfl, by decide +kernel, by decide +kernel⟩, rfl, rfl⟩

theorem lineAt_slots (x : CLine) (w : Nat) (h : w < 142) : (lineAt x).hasSlot w 0 false = true := by
  have : ∀ w, w < 142 → (slots State.reset 0x40#64).hasSlot w 0 false = true := by decide +kernel
  exact this w h

/-- A modified copy and a shared one whose data finds its slots, and one without. -/
theorem witness_CopiesReturnToTheHomeSlice :
    (∃ (s : State) (x : CLine) (k : L2Copy), s.line 0xC0 = some x ∧ x.copy 1 = some k ∧ Reaches s 0xC0 x ∧ k.st = .m) ∧
    (∃ (s : State) (x : CLine) (k : L2Copy), s.line 0xC0 = some x ∧ x.copy 1 = some k ∧ Reaches s 0xC0 x ∧ k.st ≠ .m) ∧
    (∃ (s : State) (x : CLine) (k : L2Copy) (w : Nat), s.line 0xC0 = some x ∧ x.copies = [k] ∧ k.cl = 1 ∧ k.st = .m ∧
      s.firstNoSlot (pathWheels (1 / 12) (sliceDie (sliceOf (0xC0 * 64))) ++ [wheelL3S (sliceOf (0xC0 * 64))]) (s.lineOwner 0xC0) false =
        some w) := by
  refine ⟨⟨lineAt modified, modified, _, rfl, rfl, ?_, rfl⟩, ⟨lineAt shared, shared, _, rfl, rfl, ?_, by decide⟩,
    (on (cpu [])).setLine 0xC0 (some modified), modified, _, 0, rfl, rfl, rfl, rfl, by decide +kernel⟩
  · unfold Reaches; decide +kernel
  · unfold Reaches; decide +kernel

theorem toSlice_ok (s : State) (r : Req) (pa : Nat) (hb : s.comp.resteer = [])
    (h : s.firstNoSlot ((match r.hub with | some h => [wheelHub h] | none => []) ++ pathWheels r.die (sliceDie (sliceOf pa))) r.cid r.dtm =
      none) (hd : s.inDram pa = true) (hc : s.colorOK r.cid pa = true) (hp : s.hasSlot (wheelL3S (sliceOf pa)) (s.slotComp r pa) r.dtm = true) :
    s.toSlice r pa = (s, none) := by
  unfold State.toSlice
  dsimp only
  split
  · next w hw => cases h.symm.trans hw
  · simp only [hd, hc, hp, Bool.true_eq_false, if_false]
    unfold State.resteerStep
    split
    · rfl
    · simp [hb]

/-- The agent's way crosses dies whose links are open: it has a slot on every wheel. -/
theorem lineAt_agent (x : CLine) : (lineAt x).toSlice (ioAgent 0) 0x3000 = (lineAt x, none) := by
  have hs := lineAt_slots x
  refine toSlice_ok _ _ _ rfl (firstNoSlot_none _ _ _ _ ?_ hs) rfl rfl (hs _ (by decide))
  intro w m
  simp only [List.mem_append] at m
  rcases m with m | m
  · have : w = 140 := by simpa [ioAgent, wheelHub] using m
    omega
  · exact pathWheels_lt _ _ _ (by decide) (by decide) m

theorem witness_FarAtomicsAndDmaAtTheHomeSlice :
    (∃ (s u : State) (x : CLine), s.inDram 0x3038 = true ∧ (s.ctx 0).dtm = false ∧ x.poison = false ∧ u = s.fullBarrier (s.ctx 0) ∧
      AtSlice u (u.coreReq (s.ctx 0) 0) 0xC0 x ∧ Reaches u 0xC0 x) ∧
    (∃ (s : State) (x : CLine), AtSlice s (ioAgent 0) 0xC0 x ∧ Reaches s 0xC0 x ∧ s.io.evq = []) :=
  ⟨⟨lineAt modified, lineAt modified, modified, rfl, rfl, rfl, rfl, ⟨rfl, by decide +kernel, by decide +kernel⟩, by
      unfold Reaches; decide +kernel⟩,
   lineAt shared, shared, ⟨rfl, lineAt_agent _, by decide +kernel⟩, by unfold Reaches; decide +kernel, rfl⟩

/-- A posted store in front of the buffer, another head; one posted store and two for different targets; a flit whose access is allowed,
where nothing is translated. -/
theorem witness_PostedStoresWalksAndLostFlits :
    (∃ (s : State) (e : SbEntry), (s.core 0).sb = [e] ∧ e.kind = .store ∧ e.mt = .devPosted ∧ s.fixedType e.pa = some .devPosted ∧
      e.parityBad = false ∧ s.getF (Reg.ERR_INJECT (pageL2C 0)) Fld.ERR_INJECT_TYPE ≠ 3 ∧ e.bar = false) ∧
    (∃ (s : State) (e : SbEntry), (s.core 0).sb = [e] ∧ e.mt ≠ .devPosted) ∧
    (∃ (s : State) (e : SbEntry), (s.core 0).posted = [e]) ∧ (∃ s : State, 2 ≤ (s.core 0).posted.length) ∧
    (∃ (s t : State) (x : Xlat), s.translate (s.ctx 0) .load 0x3000 = (t, .ok x)) ∧
    (∃ (s t : State) (f : FaultInfo), s.translate (s.ctx 0) .prefetch onesW.toNat = (t, .error f)) ∧
    (∃ (s t : State) (p : Part) (l : List Part), Starts s 0 ∧ (s.ctx 0).en1 = false ∧ (s.ctx 0).en2 = false ∧
      s.checkAccess (s.ctx 0) .load 0x3000 1 = (t, .ok (p :: l))) ∧
    (∃ (s t : State) (p : Part) (l : List Part), Starts s 0 ∧ s.checkAccess (s.ctx 0) .store 0x3000 1 = (t, .ok (p :: l))) :=
  ⟨⟨on { cpu [] with sb := [{ kind := .store, pa := 0x8000000000000, size := 8, mt := .devPosted }] }, _, rfl, rfl, rfl, rfl, rfl,
      by decide +kernel, rfl⟩, ⟨on { cpu [] with sb := [waitingStore] }, _, rfl, by decide⟩,
   ⟨on { cpu [] with posted := [waitingStore] }, _, rfl⟩, ⟨on { cpu [] with posted := [waitingStore, waitingStore] }, by decide⟩,
   ⟨on (cpu []), _, _, rfl⟩, ⟨on (cpu []), _, _, rfl⟩, ⟨on (cpu []), _, _, _, ⟨rfl, rfl⟩, rfl, rfl, rfl⟩, on (cpu []), _, _, _, ⟨rfl, rfl⟩, rfl⟩


/-- A load's way to port 0 crosses dies whose links are open: it has a slot on every wheel. -/
def atPort (k : Core) : State := (slots (on k) 0x40#64).setLink 0 0 1

def loading : State := atPort (cpu [0x8000000000008#64])

theorem loading_way : loading.deviceWay (loading.coreReq (loading.ctx 0) 0) 0x8000000000008 = (loading, true) := by
  have hs : ∀ w, w < 142 → loading.hasSlot w 0 false = true := by
    have : ∀ w, w < 142 → (slots State.reset 0x40#64).hasSlot w 0 false = true := by decide +kernel
    exact this
  have h : loading.firstNoSlot (deviceWheels (loading.coreReq (loading.ctx 0) 0) 0x8000000000008)
      (loading.coreReq (loading.ctx 0) 0).cid (loading.coreReq (loading.ctx 0) 0).dtm = none := by
    refine firstNoSlot_none loading (pathWheels 0 8 ++ [wheelHub 0]) 0 false ?_ hs
    intro w m
    rcases List.mem_append.mp m with m | m
    · exact pathWheels_lt _ _ _ (by decide) (by decide) m
    · have : w = 140 := by simpa [wheelHub] using m
      omega
  unfold State.deviceWay
  split
  · next w hw => cases h.symm.trans hw
  · rfl

/-- The same load where the port is to raise an error for a read that fails. -/
def loadingErr : State := loading.setF (Reg.PCIE_CFG 0) Fld.PCIE_CFG_RDERR 1

theorem loadingErr_way : loadingErr.deviceWay (loadingErr.coreReq (loadingErr.ctx 0) 0) 0x8000000000008 = (loadingErr, true) := by
  have hs : ∀ w, w < 142 → loadingErr.hasSlot w 0 false = true := by
    have : ∀ w, w < 142 → ((slots State.reset 0x40#64).setF (Reg.PCIE_CFG 0) Fld.PCIE_CFG_RDERR 1).hasSlot w 0 false = true := by
      decide +kernel
    exact this
  have h : loadingErr.firstNoSlot (deviceWheels (loadingErr.coreReq (loadingErr.ctx 0) 0) 0x8000000000008)
      (loadingErr.coreReq (loadingErr.ctx 0) 0).cid (loadingErr.coreReq (loadingErr.ctx 0) 0).dtm = none := by
    refine firstNoSlot_none loadingErr (pathWheels 0 8 ++ [wheelHub 0]) 0 false ?_ hs
    intro w m
    rcases List.mem_append.mp m with m | m
    · exact pathWheels_lt _ _ _ (by decide) (by decide) m
    · have : w = 140 := by simpa [wheelHub] using m
      omega
  unfold State.deviceWay
  split
  · next w hw => cases h.symm.trans hw
  · rfl

theorem witness_LoadsFromDeviceWindows (b : Bool) : ∃ s : State, Starts s 0 ∧ TopLevel s 0 ∧
    (s.core 0).stack = [0x8000000000008#64] ∧ (s.core 0).stack.length ≤ 16 ∧ (s.core 0).sb = [] ∧ (s.core 0).posted = [] ∧ pciePort 0x8000000000008 = some 0 ∧
    (∀ n, n < 4 → 0x8000000000008 % 2 ^ n = 0) ∧
    s.fixedType 0x8000000000008 = some .devPosted ∧ s.deviceWay (s.coreReq (s.ctx 0) 0) 0x8000000000008 = (s, true) ∧
    s.portUp 0 = true ∧ s.io.evq = [] ∧ s.isF (Reg.PCIE_CFG 0) Fld.PCIE_CFG_RDERR = b := by
  cases b
  · exact ⟨loading, ⟨rfl, rfl⟩, ⟨by decide, rfl⟩, rfl, by decide, rfl, rfl, rfl, by decide, by decide +kernel, loading_way,
      by decide +kernel, rfl, by decide +kernel⟩
  · exact ⟨loadingErr, ⟨rfl, rfl⟩, ⟨by decide, rfl⟩, rfl, by decide, rfl, rfl, rfl, by decide, by decide +kernel, loadingErr_way,
      by decide +kernel, rfl, by decide +kernel⟩

/-! ### Tasks and the warden -/

/-- Queue 0 with one frame, the home queue of core 0 of the compartment. -/
def framed (k : Core) : State :=
  (((queued k).wr (Reg.DSP_HOME 0 0) 0x40000#64).setLine 0 (some ⟨BitVec.ofNat 512 (2 ^ 32 * 2 ^ 128 + 0x40000 * 2 ^ 64 + 0xA2005), false, false, 0, 0, []⟩)).setLine
    0x1003 (some ⟨BitVec.ofNat 512 (2 ^ 448), false, false, 0, 0, []⟩)

/-- Whether the first candidate of core 0 gives a frame that holds no poison. -/
def finds (s : State) : Bool :=
  match s.candidates 0 with
  | q :: _ => decide (q = 0) && s.inRange (s.cid 0) 0 && s.isHome 0 0 &&
    (match s.readDesc (s.seqReq 0 none) (s.cid 0) 0 with
     | (u, .ok d) => d.valid && decide (d.cid = s.cid 0) && !d.kindDma &&
       (match u.claimFor 0 0 d with | (_, .frame _ f) => f.p.all (fun p => !p) | _ => false)
     | _ => false)
  | [] => false

theorem finds_spec (s : State) (h : finds s = true) : ∃ qs u d w idx f, s.candidates 0 = 0 :: qs ∧
    s.inRange (s.cid 0) 0 = true ∧ s.readDesc (s.seqReq 0 none) (s.cid 0) 0 = (u, .ok d) ∧ d.valid = true ∧ d.cid = s.cid 0 ∧
    d.kindDma = false ∧ s.isHome 0 0 = true ∧ u.claimFor 0 0 d = (w, .frame idx f) ∧ ∀ p ∈ f.p, p = false := by
  unfold finds at h
  split at h
  · next q qs hq =>
    simp only [Bool.and_eq_true, decide_eq_true_eq] at h
    obtain ⟨⟨⟨rfl, h2⟩, h3⟩, h⟩ := h
    split at h
    · next u d hd =>
      simp only [Bool.and_eq_true, decide_eq_true_eq, Bool.not_eq_true'] at h
      obtain ⟨⟨⟨h4, h5⟩, h6⟩, h⟩ := h
      split at h
      · next w idx f hf =>
        refine ⟨qs, u, d, w, idx, f, hq, h2, hd, h4, h5, h6, h3, hf, ?_⟩
        intro p hp
        simpa using List.all_eq_true.mp h p hp
      · cases h
    · cases h
  · cases h

/-- A parked core that finds a frame, one without a candidate, one that may not look, one that nothing has woken, and a cluster
whose mask has risen. -/
theorem witness_DispatchLoadsTheFramesContext :
    (∃ s b : State, (s.core 0).woken = true ∧ b = s.unlatch (Reg.DSP_HOME 0 0) ∧ s.maySeek 0 = true ∧ ∃ qs u d w idx f,
      b.candidates 0 = 0 :: qs ∧ b.inRange (b.cid 0) 0 = true ∧ b.readDesc (b.seqReq 0 none) (b.cid 0) 0 = (u, .ok d) ∧
      d.valid = true ∧ d.cid = b.cid 0 ∧ d.kindDma = false ∧ b.isHome 0 0 = true ∧ u.claimFor 0 0 d = (w, .frame idx f) ∧ ∀ p ∈ f.p, p = false) ∧
    (∃ s : State, (s.core 0).woken = true ∧ s.maySeek 0 = true ∧ (s.unlatch (Reg.DSP_HOME 0 0)).candidates 0 = []) ∧
    (∃ s : State, (s.core 0).woken = true ∧ s.maySeek 0 = false) ∧ (State.reset.core 0).woken = false ∧
    (∃ s : State, s.isF (Reg.CMT_CLUSTER 0) Fld.CMT_CLUSTER_FAILED = false ∧ 1 ∈ s.workingClusters (s.cid 0) ∧
      (s.cluster 0).mask &&& ~~~(s.peerMask 1 0) ≠ 0#32 ∧ (s.core 17).run = .parked) :=
  ⟨⟨framed { cpu [] with run := .parked, woken := true }, _, rfl, rfl, by decide +kernel, finds_spec _ (by decide +kernel)⟩,
   ⟨inComp { cpu [] with run := .parked, woken := true }, rfl, by decide +kernel, by decide +kernel⟩,
   ⟨on { cpu [] with woken := true }, rfl, by decide +kernel⟩, rfl,
   ⟨((inComp (cpu [])).wr (Reg.CMT_CLUSTER 1) 0x45#64).setCluster 0 { mask := 1#32 } |>.setCore 17 { run := .parked },
     by decide +kernel, by decide +kernel, by decide +kernel, rfl⟩⟩


/-- A task that may be preempted and is due. -/
def taskDue : Task := { taskZero with preempt := true }
def dueCore : Core := { tasked with task := some taskDue, hot := true }

theorem witness_PreemptionSavesTheTask :
    (∃ (s w : State), s.atTaskBoundary 0 = some taskDue ∧ s.preemptDue 0 = true ∧ (s.core 0).run = .running ∧
      s.saveTask 0 taskDue false true = (w, true)) ∧
    (∃ (s w : State), s.atTaskBoundary 0 = some taskDue ∧ s.preemptDue 0 = true ∧ (s.core 0).run = .running ∧
      s.saveTask 0 taskDue false true = (w, false)) ∧
    (State.reset.atTaskBoundary 0 = none) ∧
    (∃ s : State, (s.core 0).run = .pushing ∧ (s.core 0).remote ≠ none) ∧ (State.reset.core 0).run ≠ .pushing := by
  obtain ⟨w, h⟩ := bool_pair ((queued dueCore).saveTask 0 taskDue false true) true (by decide +kernel)
  obtain ⟨w', h'⟩ := bool_pair ((on dueCore).saveTask 0 taskDue false true) false (by decide +kernel)
  exact ⟨⟨queued dueCore, w, by decide +kernel, by decide +kernel, rfl, h⟩, ⟨on dueCore, w', by decide +kernel, by decide +kernel, rfl, h'⟩,
    rfl, ⟨on { cpu [] with run := .pushing, remote := some 0 }, rfl, by decide⟩, by decide⟩

/-- Whether SEQ of slot 0 of queue 0 differs from the values it can rightly hold. -/
def slotLeft (s : State) (h x : Nat) : Bool :=
  s.inRange (s.cid 0) 0 && (match s.readDesc (s.seqReq 0 none) (s.cid 0) 0 with
   | (u, .ok d) => d.valid && decide (d.cid = s.cid 0) && decide (d.depth = 4) && decide (d.head = h) && decide (d.tail = 1) &&
     (match u.readSeq (s.seqReq 0 none) (s.cid 0) d 0 with | (_, .ok v) => decide (v = x) | _ => false)
   | _ => false)

theorem slotLeft_spec (s : State) (n x : Nat) (h : slotLeft s n x = true) : ∃ (u : State) (d : Desc) (w : State), s.inRange (s.cid 0) 0 = true ∧
    s.readDesc (s.seqReq 0 none) (s.cid 0) 0 = (u, .ok d) ∧ d.valid = true ∧ d.cid = s.cid 0 ∧ d.depth = 4 ∧ d.head = n ∧ d.tail = 1 ∧
    u.readSeq (s.seqReq 0 none) (s.cid 0) d 0 = (w, .ok x) := by
  unfold slotLeft at h
  simp only [Bool.and_eq_true] at h
  obtain ⟨h0, h⟩ := h
  split at h
  · next u d hd =>
    simp only [Bool.and_eq_true, decide_eq_true_eq] at h
    obtain ⟨⟨⟨⟨⟨h1, h2⟩, h3⟩, h4⟩, h5⟩, h⟩ := h
    split at h
    · next w v hv =>
      obtain rfl : v = x := by simpa using h
      exact ⟨u, d, w, h0, hd, h1, h2, h3, h4, h5, hv⟩
    · cases h
  · cases h

/-- Slot 0 left with SEQ `x`, where 1 or 0 would be right for its pusher and 1 or 4 for its claimer. -/
def leftAt (h x : Nat) : State :=
  ((framed (cpu [])).setLine 0 (some ⟨BitVec.ofNat 512 ((h + 2 ^ 32) * 2 ^ 128 + 0x40000 * 2 ^ 64 + 0xA2005), false, false, 0, 0, []⟩)).setLine
    0x1003 (some ⟨BitVec.ofNat 512 (x * 2 ^ 448), false, false, 0, 0, []⟩)

theorem witness_SlotBreak (n x : Nat) (h : (n = 0 ∨ n = 1) ∧ (x = 7 ∨ x = 1)) : ∃ (s u : State) (d : Desc) (w : State), s.inRange (s.cid 0) 0 = true ∧
    s.readDesc (s.seqReq 0 none) (s.cid 0) 0 = (u, .ok d) ∧ d.valid = true ∧ d.cid = s.cid 0 ∧ d.depth = 4 ∧ d.head = n ∧ d.tail = 1 ∧
    u.readSeq (s.seqReq 0 none) (s.cid 0) d 0 = (w, .ok x) := by
  obtain ⟨rfl | rfl, rfl | rfl⟩ := h
  · exact ⟨leftAt 0 7, slotLeft_spec _ _ _ (by decide +kernel)⟩
  · exact ⟨leftAt 0 1, slotLeft_spec _ _ _ (by decide +kernel)⟩
  · exact ⟨leftAt 1 7, slotLeft_spec _ _ _ (by decide +kernel)⟩
  · exact ⟨leftAt 1 1, slotLeft_spec _ _ _ (by decide +kernel)⟩

/-- A request of core 0 of compartment 5. -/
def request : WReq := { id := 9#16, cid := 5, lvl := 2#2, cluster := 0, core := 0, ttag := 0, arg := 2#64, fn := 1#64, delivered := none, tb := 0 }
/-- Core 16 of cluster 1, the warden's, whose handler stands in its L1I, and core 0, whose call is open. -/
def wardenCpu : Core := { cpu [] with lvl := 3#2, ie := true, sync := { evbHW := 0x3000#64 }, eff := { evbHW := 0x3000#64 } }
def asked (r : WReq) : State :=
  let s := ((wardenOpen (inComp { cpu [] with run := .wcalling, wcall := some 9#16 })).setCore 16 wardenCpu).wr Reg.WDN_WSEL 1#64
  let s := s.setLine 0xEC (some ⟨0#512, false, false, 0, 0, [⟨1, .s, [], [16]⟩]⟩)
  { s with warden := { s.warden with q := [r] } }
def delivered : WReq := { request with delivered := some 16 }

theorem witness_WardenRequestsAreDeliveredAndAnswered :
    (∃ s w : State, s.nextRequest = some request ∧ s.islandState (s.getF Reg.WDN_CTL Fld.WDN_CTL_WCL) < 2 ∧ s.wardenCore = some 16 ∧
      (s.core 16).run = .running ∧ (s.core 16).lvl = 3#2 ∧
      (s.syncPoint 16).takeExc 16 { f := plainFault 0x32, epc := (s.core 16).pc, opAddr := (s.core 16).pc } = w ∧
      (w.core 16).run = .running ∧ (w.core 16).stack.length ≤ 13 ∧
      overflow ((w.core 16).bank (w.ctx 16).lvl) (w.core 16).stack.length 0 3 = false) ∧
    State.reset.nextRequest = none ∧
    (∃ (s : State) (w : Who), Performed s (.core 16) w (Reg.WDN_WRPL 0) ∧ w.isW = true ∧ 1 = s.getF Reg.WDN_CTL Fld.WDN_CTL_WCL ∧
      s.warden.q.find? (fun r => decide (r.id.toNat = (9#64).toNat % 2 ^ 16) && decide (r.delivered = some (16 / 16 * 16 + 16 % 16))) =
        some delivered ∧ (s.core 0).wcall = some delivered.id) ∧
    (∃ (s : State) (w : Who), Performed s (.core 16) w (Reg.WDN_WRPL 0) ∧ w.isW = true ∧ 1 = s.getF Reg.WDN_CTL Fld.WDN_CTL_WCL ∧
      (∀ r ∈ s.warden.q, r.id.toNat ≠ (8#64).toNat % 2 ^ 16)) ∧
    (∃ s : State, s.warden.q.find? (fun x => decide (x.id = 9#16)) = some request ∧ s.getF Reg.WDN_CTL Fld.WDN_CTL_TMO_US ≠ 0 ∧
      request.tb + s.getF Reg.WDN_CTL Fld.WDN_CTL_TMO_US * 1000 ≤ s.now) ∧
    (∃ s : State, s.warden.q.find? (fun x => decide (x.id = 9#16)) = some request ∧
      s.now < request.tb + s.getF Reg.WDN_CTL Fld.WDN_CTL_TMO_US * 1000) := by
  refine ⟨⟨asked request, _, ?_, ?_, ?_, rfl, rfl, rfl, ?_, ?_, ?_⟩, ?_,
    ⟨asked delivered, (asked delivered).whoCore 16, ⟨rfl, ?_⟩, ?_, ?_, ?_, rfl⟩, ⟨asked delivered, (asked delivered).whoCore 16, ⟨rfl, ?_⟩, ?_, ?_, ?_⟩,
    ⟨{ (asked request).setF Reg.WDN_CTL Fld.WDN_CTL_TMO_US 1 with tb := 1000#64 }, ?_, ?_, ?_⟩,
    ⟨{ (asked request).setF Reg.WDN_CTL Fld.WDN_CTL_TMO_US 1 with tb := 999#64 }, ?_, ?_⟩⟩ <;> decide +kernel



theorem witness_WardenRestartsAndTheSecureWatchdog :
    (∃ (s : State) (w : Who), Performed s .boot w Reg.WDN_CTL ∧ s.getF Reg.WDN_STAT Fld.WDN_STAT_STATE ≠ 2) ∧
    State.reset.getF Reg.WDN_STAT Fld.WDN_STAT_STATE ≠ 2 ∧ (∃ s : State, s.getF Reg.WDN_STAT Fld.WDN_STAT_STATE = 2) ∧
    (∃ (s : State) (w : Who), Performed s .boot w Reg.SWD_CTL ∧ s.isF Reg.SWD_CTL Fld.SWD_CTL_EN = false) ∧
    (∃ (s : State) (w : Who), Performed s .boot w Reg.SWD_KICK ∧ s.getF Reg.SWD_STAT Fld.SWD_STAT_STAGE = 0) ∧
    (∃ (s : State) (w : Who), Performed s .boot w Reg.SWD_KICK ∧ s.getF Reg.SWD_STAT Fld.SWD_STAT_STAGE ≠ 0) ∧
    (∃ s : State, s.getF Reg.SWD_STAT Fld.SWD_STAT_STAGE = 1 ∧ s.swdLeft = 0 ∧ s.getF Reg.WDN_STAT Fld.WDN_STAT_STATE ≠ 2) ∧
    (∃ s : State, s.getF Reg.SWD_STAT Fld.SWD_STAT_STAGE = 1 ∧ s.swdLeft = 0 ∧ s.getF Reg.WDN_STAT Fld.WDN_STAT_STATE = 2) ∧
    (∃ s : State, s.getF Reg.SWD_STAT Fld.SWD_STAT_STAGE = 2 ∧ s.swdLeft = 0) ∧
    (∃ s : State, s.getF Reg.SWD_STAT Fld.SWD_STAT_STAGE = 2 ∧ s.swdLeft = 1 ∧ s.tb ≠ 0#64) := by
  refine ⟨⟨booted, _, ⟨rfl, ?_⟩, ?_⟩, ?_, ⟨booted.setF Reg.WDN_STAT Fld.WDN_STAT_STATE 2, ?_⟩, ⟨booted, _, ⟨rfl, ?_⟩, ?_⟩,
    ⟨booted, _, ⟨rfl, ?_⟩, ?_⟩, ⟨booted.setF Reg.SWD_STAT Fld.SWD_STAT_STAGE 2, _, ⟨rfl, ?_⟩, ?_⟩,
    ⟨booted.setF Reg.SWD_STAT Fld.SWD_STAT_STAGE 1, ?_, ?_, ?_⟩,
    ⟨(booted.setF Reg.SWD_STAT Fld.SWD_STAT_STAGE 1).setF Reg.WDN_STAT Fld.WDN_STAT_STATE 2, ?_, ?_, ?_⟩,
    ⟨booted.setF Reg.SWD_STAT Fld.SWD_STAT_STAGE 2, ?_, ?_⟩,
    ⟨{ (booted.setF Reg.SWD_STAT Fld.SWD_STAT_STAGE 2).setF Reg.SWD_STAT Fld.SWD_STAT_COUNT 2 with tb := 30518#64 }, ?_, ?_, ?_⟩⟩ <;> decide +kernel

/-- Core 0 at the top level of compartment 5, which is the platform. -/
def platformCore : State := (inComp (cpu [])).wr (Reg.BLK_OWNER pageCMT) 5#64

theorem witness_ClustersAndBandsChangeHands :
    (∃ (s : State) (w : Who), Performed s (.core 0) w (Reg.CMT_CLUSTER 1) ∧ s.tableWrite w (s.rd (Reg.CMT_CLUSTER 1)) 0x7F#64 = false) ∧
    (∃ (s : State) (w : Who), Performed s .boot w (Reg.CMT_CLUSTER 0) ∧ s.tableWrite w (s.rd (Reg.CMT_CLUSTER 0)) 5#64 = true ∧
      s.getF (Reg.CMT_CLUSTER 0) Fld.CMT_CLUSTER_RESULT ≠ 1 ∧ s.isF (Reg.CMT_CLUSTER 0) Fld.CMT_CLUSTER_EN = true ∧ s.cid 0 = 5 ∧ (s.cluster 0).drain = none) ∧
    (∃ (s : State) (w : Who), Performed s .boot w (Reg.CMT_CLUSTER 0) ∧ s.tableWrite w (s.rd (Reg.CMT_CLUSTER 0)) 5#64 = true ∧
      s.getF (Reg.CMT_CLUSTER 0) Fld.CMT_CLUSTER_RESULT ≠ 1 ∧ s.isF (Reg.CMT_CLUSTER 0) Fld.CMT_CLUSTER_EN = true ∧ s.cid 0 = 5 ∧
      (s.cluster 0).drain ≠ none) ∧
    (∃ (s : State) (w : Who), Performed s .boot w (Reg.CMT_CLUSTER 0) ∧ s.tableWrite w (s.rd (Reg.CMT_CLUSTER 0)) 0x46#64 = true ∧
      s.getF (Reg.CMT_CLUSTER 0) Fld.CMT_CLUSTER_RESULT ≠ 1 ∧ (0x46#64).toNat % 64 ≠ s.cid 0 ∧
      s.isF (Reg.CMT_CLUSTER 0) Fld.CMT_CLUSTER_EN = false ∧ s.isF (Reg.CMT_CLUSTER 0) Fld.CMT_CLUSTER_DRAINED = false) ∧
    (∃ (s : State) (w : Who), Performed s .boot w (Reg.CMT_CLUSTER 0) ∧ s.tableWrite w (s.rd (Reg.CMT_CLUSTER 0)) 0x46#64 = true ∧
      s.getF (Reg.CMT_CLUSTER 0) Fld.CMT_CLUSTER_RESULT ≠ 1 ∧ s.isF (Reg.CMT_CLUSTER 0) Fld.CMT_CLUSTER_EN = false ∧
      s.isF (Reg.CMT_CLUSTER 0) Fld.CMT_CLUSTER_DRAINED = true ∧ s.isF (Reg.CMT_CLUSTER 0) Fld.CMT_CLUSTER_FAILED = false ∧
      (s.cluster 0).ranAs ≠ 6 ∧ (s.core 0).retired = false) ∧
    (∃ s : State, (s.cluster 0).drain = some .cmt ∧
      ∀ c, c ∈ clusterCores 0 → (s.core c).task = none ∧ (s.core c).run ≠ .wcalling ∧ (s.core c).run ≠ .pushing) ∧
    (State.reset.cluster 95).drain ≠ some .cmt ∧
    (∃ (s : State) (w : Who), Performed s .boot w (Reg.CMT_BAND 63) ∧ s.tableWrite w (s.rd (Reg.CMT_BAND 63)) 0x45#64 = true ∧
      (0x45#64).toNat % 128 ≠ (s.rd (Reg.CMT_BAND 63)).toNat % 128 ∧ s.isF (Reg.CMT_BAND 63) Fld.CMT_BAND_CLEAN = true) ∧
    (∃ (s : State) (w : Who), Performed s .boot w (Reg.CMT_BAND 63) ∧ s.tableWrite w (s.rd (Reg.CMT_BAND 63)) 0x45#64 = true ∧
      (0x45#64).toNat % 128 ≠ (s.rd (Reg.CMT_BAND 63)).toNat % 128 ∧ s.isF (Reg.CMT_BAND 63) Fld.CMT_BAND_CLEAN = false) := by
  refine ⟨⟨platformCore, platformCore.whoCore 0, ⟨rfl, ?_⟩, ?_⟩, ⟨booted.wr (Reg.CMT_CLUSTER 0) 0x45#64, _, ⟨rfl, ?_⟩, ?_, ?_, ?_, ?_, ?_⟩,
    ⟨(booted.wr (Reg.CMT_CLUSTER 0) 0x45#64).setCluster 0 { drain := some .patch }, _, ⟨rfl, ?_⟩, ?_, ?_, ?_, ?_, ?_⟩,
    ⟨booted.wr (Reg.CMT_CLUSTER 0) 5#64, _, ⟨rfl, ?_⟩, ?_, ?_, ?_, ?_, ?_⟩,
    ⟨booted, _, ⟨rfl, ?_⟩, ?_, ?_, ?_, ?_, ?_, ?_, ?_⟩, ⟨booted.setCluster 0 { drain := some .cmt }, rfl, ?_⟩, ?_,
    ⟨booted, _, ⟨rfl, ?_⟩, ?_, ?_, ?_⟩, ⟨booted.wr (Reg.CMT_BAND 63) 0#64, _, ⟨rfl, ?_⟩, ?_, ?_, ?_⟩⟩ <;> decide +kernel

theorem witness_ColorsAndSteeringChangeInPlace :
    (∃ (s : State) (w : Who), Performed s .boot w (Reg.CMT_COLOR 0) ∧ s.tableWrite w (s.rd (Reg.CMT_COLOR 0)) 0x45#64 = true ∧
      (0x45#64).toNat % 128 ≠ (s.rd (Reg.CMT_COLOR 0)).toNat % 128 ∧ s.isF (Reg.CMT_COLOR 0) Fld.CMT_COLOR_BUSY = false ∧
      s.isF (Reg.CMT_COLOR 0) Fld.CMT_COLOR_EN = false) ∧
    (∀ b, ∃ (s : State) (w : Who) (u : State), Performed s .boot w (Reg.CMT_COLOR 0) ∧ s.tableWrite w (s.rd (Reg.CMT_COLOR 0)) 0x45#64 = true ∧
      (0x45#64).toNat % 128 ≠ (s.rd (Reg.CMT_COLOR 0)).toNat % 128 ∧ s.isF (Reg.CMT_COLOR 0) Fld.CMT_COLOR_BUSY = false ∧
      s.isF (Reg.CMT_COLOR 0) Fld.CMT_COLOR_EN = true ∧
      s.askLeave (.colorSweep (BitVec.ofNat 6 ((s.rd (Reg.CMT_COLOR 0)).toNat % 64)).toFin) = (u, b)) ∧
    (∃ s : State, s.comp.sweeps.find? (fun e => decide (e.1 = 0)) = some (0, 0x45#64)) ∧ (∀ e ∈ State.reset.comp.sweeps, e.1 ≠ 0) ∧
    (∃ (s : State) (w : Who), Performed s .boot w (Reg.CMP_STEER 5 63) ∧ s.isF (Reg.CMP_STAT 5) Fld.CMP_STAT_STEER_BUSY = false ∧
      s.ownsBand 5 ((9#64).toNat % 64) = true ∧ s.getF (Reg.CMP_STEER 5 63) Fld.CMP_STEER_BAND ≠ (9#64).toNat % 64) ∧
    (∃ (s : State) (w : Who), Performed s .boot w (Reg.CMP_STEER 5 63) ∧ s.isF (Reg.CMP_STAT 5) Fld.CMP_STAT_STEER_BUSY = false ∧
      s.ownsBand 5 ((9#64).toNat % 64) = false) ∧
    (∃ s : State, s.comp.resteer.find? (fun e => decide (e.1 = 5 * 64 + 63)) = some (5 * 64 + 63, 9, 2047)) ∧
    (∀ e ∈ State.reset.comp.resteer, e.1 ≠ 63 * 64 + 63) := by
  refine ⟨⟨booted, _, ⟨rfl, ?_⟩, ?_, ?_, ?_, ?_⟩, ?_, ⟨{ booted with comp := { booted.comp with sweeps := [(0, 0x45#64)] } }, rfl⟩, ?_,
    ⟨booted.wr (Reg.CMT_BAND 9) 0x45#64, _, ⟨rfl, ?_⟩, ?_, ?_, ?_⟩, ⟨booted, _, ⟨rfl, ?_⟩, ?_, ?_⟩,
    ⟨{ booted with comp := { booted.comp with resteer := [(383, 9, 2047)] } }, rfl⟩, ?_⟩
  case refine_6 =>
    intro b
    cases b
    · obtain ⟨u, h⟩ := bool_pair ((booted.wr (Reg.CMT_COLOR 0) 0x43#64).askLeave (.colorSweep 3)) false (by decide +kernel)
      exact ⟨booted.wr (Reg.CMT_COLOR 0) 0x43#64, _, u, ⟨rfl, by decide +kernel⟩, by decide +kernel, by decide +kernel, by decide +kernel, by decide +kernel, h⟩
    · obtain ⟨u, h⟩ := bool_pair (((booted.wr (Reg.CMT_COLOR 0) 0x43#64).wr (Reg.RMT_POOL 3) 50#64).askLeave (.colorSweep 3)) true (by decide +kernel)
      exact ⟨(booted.wr (Reg.CMT_COLOR 0) 0x43#64).wr (Reg.RMT_POOL 3) 50#64, _, u, ⟨rfl, by decide +kernel⟩, by decide +kernel, by decide +kernel, by decide +kernel, by decide +kernel, h⟩
  all_goals decide +kernel

theorem witness_BeatWheelsGrantTheirSlots :
    (∃ (s : State) (w : Who), Performed s .boot w (Reg.BEAT_MAP (wheelPage 141) 63) ∧
      s.tableWrite w (s.rd (Reg.BEAT_MAP (wheelPage 141) 63)) 0xC5#64 = true) ∧
    (∃ (s : State) (w : Who), Performed s .boot w (Reg.BEAT_MAP (wheelPage 141) 63)) ∧
    (∃ s : State, s.isF (Reg.BW_STAT (wheelPage 141)) Fld.BW_STAT_PENDING = true) ∧
    (∃ s : State, s.slotGrant 0 [2, 3] [3] = some (3, true)) ∧ (∃ s : State, s.slotGrant 0 [2, 3] [2] = none) ∧
    (∃ s : State, s.slotGrant 0 [5, 3] [] = some (5, false)) ∧
    (∃ (s : State) (w : Who), Performed s .boot w (Reg.CMP_CTL 5)) ∧
    (∃ (s : State) (w : Who), Performed s .boot w (Reg.CMP_DTM 5) ∧ s.dtmQualifies 5 ((0x40#64).toNat % 64) = true) ∧
    (∃ (s : State) (w : Who), Performed s .boot w (Reg.CMP_DTM 5) ∧ s.dtmQualifies 5 ((0x40#64).toNat % 64) = false) := by
  refine ⟨⟨booted, _, ⟨rfl, ?_⟩, ?_⟩, ⟨booted, _, rfl, ?_⟩, ⟨booted.setF (Reg.BW_STAT (wheelPage 141)) Fld.BW_STAT_PENDING 1, ?_⟩,
    ⟨(((slots booted 0xC5#64).wr (Reg.CMP_CTL 5) 1#64).wr (Reg.CMP_CTL 3) 2#64), ?_⟩,
    ⟨(((slots booted 0xC5#64).wr (Reg.CMP_CTL 5) 1#64).wr (Reg.CMP_CTL 3) 2#64), ?_⟩, ⟨slots booted 0xC5#64, ?_⟩, ⟨booted, _, rfl, ?_⟩,
    ⟨slots booted 0x45#64, _, ⟨rfl, ?_⟩, ?_⟩, ⟨booted, _, ⟨rfl, ?_⟩, ?_⟩⟩ <;> decide +kernel

/-- The barrier of compartment 5 with clusters 0 and 1, cluster 0 arrived once or not at all. -/
def barred (n m per : Nat) : State :=
  ((((inComp (cpu [])).wr (Reg.CMT_CLUSTER 1) 0x45#64).wr (Reg.CMP_BAR_CTL 5) (BitVec.ofNat 64 per))).setBar 5 { parts := [0, 1], counts := [(0, n), (1, m)], per := per, running := true }

theorem witness_BarrierReleasesWhenAllHaveArrived :
    (∃ (s : State) (w : Who), Performed s .boot w (Reg.CMP_BAR_CTL 5) ∧ (s.bar 5).running = false) ∧
    (∃ (s : State) (w : Who), Performed s (.core 0) w (Reg.BAR_ARRIVE 5) ∧ (s.bar 5).running = false) ∧
    (∃ (s : State) (w : Who), Performed s (.core 0) w (Reg.BAR_ARRIVE 5) ∧ (s.bar 5).running = true ∧
      ∃ m ∈ (s.bar 5).parts, (s.bar 5).count m + (if m = 0 then 1 else 0) < (s.bar 5).per) ∧
    (∃ (s : State) (w : Who), Performed s (.core 0) w (Reg.BAR_ARRIVE 5) ∧ (s.bar 5).running = true ∧ (s.bar 5).parts ≠ [] ∧
      (s.bar 5).parts.Nodup ∧ s.barParts 5 = (s.bar 5).parts ∧ s.barPer 5 = (s.bar 5).per ∧
      (∀ m ∈ (s.bar 5).parts, (s.bar 5).per ≤ (s.bar 5).count m + (if m = 0 then 1 else 0)) ∧
      ∃ m ∈ (s.bar 5).parts, (s.bar 5).count m + (if m = 0 then 1 else 0) < 2 * (s.bar 5).per) := by
  refine ⟨⟨booted, _, ⟨rfl, ?_⟩, ?_⟩, ⟨inComp (cpu []), _, ⟨rfl, ?_⟩, ?_⟩, ⟨barred 1 1 2, _, ⟨rfl, ?_⟩, rfl, ?_⟩,
    ⟨barred 1 3 2, _, ⟨rfl, ?_⟩, rfl, ?_, ?_, ?_, ?_, ?_, ?_⟩⟩ <;> decide +kernel


theorem witness_ArbitersGrantByPriorityAndTurn :
    (∃ s : State, (s.arb 0x160).held = false ∧ (s.arb 0x160).parked = false ∧ s.arbFrozen 0x160 = false ∧ 17 ∈ arbAsk 0x160 0x20001#32 ∧
      (s.arb 0x160).penalised 17 = false ∧ ∀ q, q ∈ arbAsk 0x160 0x20001#32 → q ≠ 17 → (s.arb 0x160).penalised q = false →
        s.arbPrio 0x160 q < s.arbPrio 0x160 17 ∨ (s.arbPrio 0x160 q = s.arbPrio 0x160 17 ∧
          (s.arb 0x160).turn (arbCount 0x160) (s.arbPrio 0x160 17) 17 < (s.arb 0x160).turn (arbCount 0x160) (s.arbPrio 0x160 17) q)) ∧
    (∃ s : State, (s.arb 0x160).held = true ∧ (s.arb 0x160).owner ∈ arbAsk 0x160 1#32) ∧
    (∃ s : State, (s.arb 0x160).held = false ∧ s.arbFrozen 0x160 = true) ∧
    (∃ s : State, (s.arb 0x160).owner < arbCount 0x160 ∧ (s.arb 0x160).held = true ∧ s.getF (Reg.ARB_CTL 0x160) Fld.ARB_CTL_HOLD_MAX ≠ 0 ∧
      s.getF (Reg.ARB_CTL 0x160) Fld.ARB_CTL_HOLD_MAX < (s.arb 0x160).hold ∧ s.getF (Reg.ARB_CTL 0x160) Fld.ARB_CTL_PENALTY ≠ 0) ∧
    (∃ s : State, (s.arb 0x160).owner < arbCount 0x160 ∧ (s.arb 0x160).hold ≤ s.getF (Reg.ARB_CTL 0x160) Fld.ARB_CTL_HOLD_MAX) ∧
    (∃ (s : State) (w : Who), Performed s .boot w (Reg.ARB_PRIO 0x160 1)) ∧ (∃ (s : State) (w : Who), Performed s .boot w (Reg.BLK_FREEZE 0x160)) := by
  refine ⟨⟨booted.wr (Reg.ARB_PRIO 0x160 1) 0xF0#64, ?_, ?_, ?_, ?_, ?_, ?_⟩,
    ⟨{ booted with comp := { booted.comp with arbs := [(0x160, { held := true })] } }, rfl, ?_⟩,
    ⟨booted.setF (Reg.BLK_FREEZE 0x160) Fld.BLK_FREEZE_FREEZE 1, ?_, ?_⟩,
    ⟨(({ booted with comp := { booted.comp with arbs := [(0x160, { held := true, hold := 3 })] } } : State).setF (Reg.ARB_CTL 0x160) Fld.ARB_CTL_HOLD_MAX 2).setF
      (Reg.ARB_CTL 0x160) Fld.ARB_CTL_PENALTY 1, ?_, ?_, ?_, ?_, ?_⟩, ⟨booted, ?_, ?_⟩, ⟨booted, _, rfl, ?_⟩, ⟨booted, _, rfl, ?_⟩⟩ <;> decide +kernel

theorem witness_SpareWaysBandFlushesAndPrefetchDegree :
    (∀ b : Bool, ∃ (s : State) (w : Who), Performed s .boot w (Reg.L3S_SPARE_CTL 63) ∧ smGet (fun _ => []) s.comp.spare 63 = [] ∧
      s.getF (Reg.L3S_SPARE_STAT 63) Fld.L3S_SPARE_STAT_STATE ≠ 1 ∧ s.isF (Reg.L3S_WAYS 63) Fld.L3S_WAYS_SPARE_IN = b ∧
      s.getF (Reg.L3S_WAYS 63) Fld.L3S_WAYS_SPARE_FOR = 0) ∧
    (∃ s : State, smGet (fun _ => []) s.comp.spare 63 = [16] ∧ s.getF (Reg.L3S_SPARE_STAT 63) Fld.L3S_SPARE_STAT_SETS_DONE = 2047) ∧
    (∃ s : State, smGet (fun _ => []) s.comp.spare 63 = [15] ∧ s.getF (Reg.L3S_SPARE_STAT 63) Fld.L3S_SPARE_STAT_SETS_DONE = 2047 ∧
      s.isF (Reg.L3S_WAYS 63) Fld.L3S_WAYS_SPARE_IN = true) ∧
    (∃ s : State, smGet (fun _ => []) s.comp.spare 63 = [15] ∧ s.getF (Reg.L3S_SPARE_STAT 63) Fld.L3S_SPARE_STAT_SETS_DONE = 2046) ∧
    (∃ s : State, smGet (fun _ => []) s.comp.spare 63 = [15] ∧ s.getF (Reg.L3S_SPARE_STAT 63) Fld.L3S_SPARE_STAT_SETS_DONE = 2047 ∧
      s.isF (Reg.L3S_WAYS 63) Fld.L3S_WAYS_SPARE_IN = false ∧ (s.rd (Reg.L3S_WAYS 63)).getLsbD 16 = false) ∧
    (∃ (s : State) (w : Who), Performed s .boot w Reg.L3BM_FLUSH ∧ s.getF Reg.L3BM_FLUSH_STAT Fld.L3BM_FLUSH_STAT_RESULT ≠ 1 ∧
      s.isF (Reg.CMT_BAND 9) Fld.CMT_BAND_EN = true ∧ w.wOrBoot = true) ∧
    (∃ (s : State) (w : Who), Performed s (.core 0) w Reg.L3BM_FLUSH ∧ s.getF Reg.L3BM_FLUSH_STAT Fld.L3BM_FLUSH_STAT_RESULT ≠ 1 ∧
      s.isF (Reg.CMT_BAND 9) Fld.CMT_BAND_EN = true ∧ w.wOrBoot = false ∧ w.isH (s.getF (Reg.CMT_BAND 9) Fld.CMT_BAND_CID) = true) ∧
    (∃ (s : State) (w : Who), Performed s .boot w Reg.L3BM_FLUSH ∧ s.getF Reg.L3BM_FLUSH_STAT Fld.L3BM_FLUSH_STAT_RESULT ≠ 1 ∧
      s.isF (Reg.CMT_BAND 8) Fld.CMT_BAND_EN = false ∧ w.wOrBoot = true) ∧
    (∃ (s : State) (w : Who), Performed s (.core 0) w Reg.L3BM_FLUSH ∧ s.getF Reg.L3BM_FLUSH_STAT Fld.L3BM_FLUSH_STAT_RESULT ≠ 1 ∧
      s.isF (Reg.CMT_BAND 8) Fld.CMT_BAND_EN = false ∧ w.wOrBoot = false) ∧
    (∃ s : State, s.comp.bandFlush = some (9, 0)) ∧ (∃ (s : State) (w : Who), Performed s .boot w (Reg.L2C_PF 95)) := by
  refine ⟨fun b => ⟨booted.setF (Reg.L3S_WAYS 63) Fld.L3S_WAYS_SPARE_IN (if b then 1 else 0), _, ⟨rfl, ?_⟩, ?_, ?_, ?_, ?_⟩,
    ⟨({ booted with comp := { booted.comp with spare := [(63, [16])] } } : State).setF (Reg.L3S_SPARE_STAT 63) Fld.L3S_SPARE_STAT_SETS_DONE 2047, ?_, ?_⟩,
    ⟨(({ booted with comp := { booted.comp with spare := [(63, [15])] } } : State).setF (Reg.L3S_SPARE_STAT 63) Fld.L3S_SPARE_STAT_SETS_DONE 2047).setF
      (Reg.L3S_WAYS 63) Fld.L3S_WAYS_SPARE_IN 1, ?_, ?_, ?_⟩,
    ⟨({ booted with comp := { booted.comp with spare := [(63, [15])] } } : State).setF (Reg.L3S_SPARE_STAT 63) Fld.L3S_SPARE_STAT_SETS_DONE 2046, ?_, ?_⟩,
    ⟨({ booted with comp := { booted.comp with spare := [(63, [15])] } } : State).setF (Reg.L3S_SPARE_STAT 63) Fld.L3S_SPARE_STAT_SETS_DONE 2047, ?_, ?_, ?_, ?_⟩,
    ⟨booted.wr (Reg.CMT_BAND 9) 0x45#64, _, ⟨rfl, ?_⟩, ?_, ?_, rfl⟩,
    ⟨(inComp (cpu [])).wr (Reg.CMT_BAND 9) 0x45#64, ((inComp (cpu [])).wr (Reg.CMT_BAND 9) 0x45#64).whoCore 0, ⟨rfl, ?_⟩, ?_, ?_, ?_, ?_⟩,
    ⟨booted.wr (Reg.CMT_BAND 8) 0#64, _, ⟨rfl, ?_⟩, ?_, ?_, rfl⟩,
    ⟨(inComp (cpu [])).wr (Reg.CMT_BAND 9) 0x45#64, ((inComp (cpu [])).wr (Reg.CMT_BAND 9) 0x45#64).whoCore 0, ⟨rfl, ?_⟩, ?_, ?_, ?_⟩,
    ⟨{ booted with comp := { booted.comp with bandFlush := some (9, 0) } }, rfl⟩, ⟨booted, _, rfl, ?_⟩⟩ <;> (try cases b) <;> decide +kernel

/-! ### Register accesses -/

/-- Core 0 at K level, whose flush of band 9, which no compartment owns, is refused. -/
def flusher : State := (inComp { cpu [] with lvl := 1#2 }).wr (Reg.CMT_BAND 9) 5#64

/-- Each check of the order in which an access meets them: a page without a block, a narrow access of a block awake and asleep, a
requester refused, the shadow, a block asleep, a reserved offset, and a register. -/
theorem witness_RegisterAccessesPassTheirChecksInOrder :
    Blk.ofPage 0xFFF = none ∧ Blk.ofPage 0x16 = some (.l3bm, 0) ∧
    (∃ (s : State), s.blockAsleep 0x16 = true ∧ s.isF (Reg.BLK_PWR 0x16) Fld.BLK_PWR_AUTOWAKE = false) ∧
    (∃ (s : State), s.blockAsleep 0x16 = false ∧ s.isF (Reg.BLK_PWR 0x16) Fld.BLK_PWR_AUTOWAKE = false) ∧
    (∃ (s : State) (w : Who), s.refused w 0x16 .l3bm 0 Reg.L3BM_FLUSH true = true) ∧
    (∃ (s : State) (w : Who), s.refused w 0x16 .l3bm 0 Reg.L3BM_FLUSH true = false) ∧
    shadowOff 8 = true ∧ shadowOff 0x100 = false ∧ Blk.row .l3bm 0xFF8 = none ∧ Blk.row .l3bm 0x100 ≠ none ∧
    (∃ (s t : State) (w : Who) (g : Gate), s.who .boot = some w ∧ s.gate w 0xFF00000FFF000 8 true = (t, g) ∧ g ≠ .serve ∧ g ≠ .zero) ∧
    (∃ (s t : State) (w : Who), s.who (.core 0) = some w ∧ s.gate w (regAddr Reg.L3BM_FLUSH) 8 true = (t, .zero) ∧ w.wOrBoot = false ∧
      s.isF (Reg.CMT_BAND 9) Fld.CMT_BAND_EN = false ∧ s.getF Reg.L3BM_FLUSH_STAT Fld.L3BM_FLUSH_STAT_RESULT ≠ 1 ∧
      s.blockAsleep (Reg.L3BM_FLUSH / 4096) = false) ∧
    (∃ (s : State) (w : Who), s.who .boot = some w ∧ s.gate w (regAddr (Reg.IRQ_ROUTE 0x16)) 8 true = (s, .serve) ∧
      s.gate w (regAddr (Reg.IRQ_ROUTE 0x16)) 4 true = (s, .serve)) ∧ State.reset.who .boot = none := by
  refine ⟨?_, ?_, ⟨booted.setF (Reg.PWC_ISL (pageIsland 0x16)) Fld.PWC_ISL_STATE 3, ?_, ?_⟩, ⟨booted, ?_, ?_⟩, ⟨booted, ⟨1, false, 0, 1, 0, false⟩, ?_⟩,
    ⟨booted, ⟨63, true, 3, 127, 0, true⟩, ?_⟩, ?_, ?_, ?_, ?_, ⟨booted, (booted.gate ⟨63, true, 3, 127, 0, true⟩ 0xFF00000FFF000 8 true).1, _, .error, rfl, ?_, ?_, ?_⟩,
    ⟨flusher, (flusher.gate (flusher.whoCore 0) (regAddr Reg.L3BM_FLUSH) 8 true).1, flusher.whoCore 0, rfl, ?_, ?_, ?_, ?_, ?_⟩,
    ⟨booted, _, rfl, ?_, ?_⟩, ?_⟩ <;> decide +kernel

theorem witness_OwnersAndSecureAttributesFollowTheirRule :
    (∃ (s : State) (w : Who), Performed s .boot w (Reg.BLK_OWNER 2) ∧ Blk.ofPage 2 = some (.rst, 0) ∧
      s.attrMayChange w ((s.rd (Reg.BLK_OWNER 2)).toNat % 256) ((5#64).toNat % 256) = true) ∧
    (∃ (s : State) (w : Who), Performed s .boot w (Reg.BLK_OWNER 2) ∧
      s.attrMayChange w ((s.rd (Reg.BLK_OWNER 2)).toNat % 256) ((0x45#64).toNat % 256) = false) ∧
    (∃ (s : State) (w : Who), Performed s .boot w (Reg.BLK_OWNER 0x285) ∧ Blk.ofPage 0x285 = some (.cmp, 5)) ∧
    (∃ (s : State) (w : Who), Performed s .boot w (irtKey 8191) ∧ s.platHOrW w = true ∧ (0x45#8).toNat ≠ s.getF (irtKey 8191) Fld.IRT_ATTR ∧
      s.attrMayChange w (s.getF (irtKey 8191) Fld.IRT_ATTR) (0x45#8).toNat = false) ∧
    (∃ (s : State) (w : Who), Performed s .boot w (irtKey 8191) ∧ s.platHOrW w = true ∧
      s.attrMayChange w (s.getF (irtKey 8191) Fld.IRT_ATTR) (5#8).toNat = true ∧ s.isF (irtKey 8191) Fld.IRT_MODE = true) ∧
    (∃ (s : State) (w : Who), Performed s .boot w (Reg.GPIO_PIN 15) ∧ (0x45#8).toNat ≠ s.getF (Reg.GPIO_PIN 15) Fld.GPIO_PIN_ATTR ∧
      s.attrMayChange w (s.getF (Reg.GPIO_PIN 15) Fld.GPIO_PIN_ATTR) (0x45#8).toNat = false) ∧
    (∃ (s : State) (w : Who), Performed s .boot w (Reg.GPIO_PIN 15) ∧ (5#8).toNat ≠ s.getF (Reg.GPIO_PIN 15) Fld.GPIO_PIN_ATTR ∧
      s.attrMayChange w (s.getF (Reg.GPIO_PIN 15) Fld.GPIO_PIN_ATTR) (5#8).toNat = true) ∧
    (∃ (s : State) (w : Who), Performed s .boot w (Reg.ERR_INJECT 0xC0) ∧ w.wOrBoot = true) ∧
    (∃ (s : State) (w : Who), Performed s (.core 0) w (Reg.ERR_INJECT pageCMT) ∧ w.wOrBoot = false) := by
  refine ⟨⟨booted, _, ⟨rfl, ?_⟩, ?_, ?_⟩, ⟨booted, _, ⟨rfl, ?_⟩, ?_⟩, ⟨booted, _, ⟨rfl, ?_⟩, ?_⟩, ⟨booted, _, ⟨rfl, ?_⟩, ?_, ?_, ?_⟩,
    ⟨booted.setF (irtKey 8191) Fld.IRT_MODE 1, _, ⟨rfl, ?_⟩, ?_, ?_, ?_⟩, ⟨booted, _, ⟨rfl, ?_⟩, ?_, ?_⟩, ⟨booted, _, ⟨rfl, ?_⟩, ?_, ?_⟩,
    ⟨booted, _, ⟨rfl, ?_⟩, ?_⟩, ⟨platformCore, platformCore.whoCore 0, ⟨rfl, ?_⟩, ?_⟩⟩ <;> decide +kernel

theorem witness_BlockInterruptsRaiseOneEvent :
    (∃ (s : State) (w : Who), Performed s .boot w (Reg.IRQ_SET 0xC0)) ∧ (∃ (s : State) (w : Who), Performed s .boot w (Reg.IRQ_EN 0xC0)) ∧
    Blk.ofPage 0x11 = some (.lg, 0) ∧ irqDefined 0x11 = 0x800000000000003F#64 := by
  refine ⟨⟨booted, _, rfl, ?_⟩, ⟨booted, _, rfl, ?_⟩, ?_, ?_⟩ <;> decide +kernel


/-! ### Faults, tests, patches, the TAP -/

def spareGone : State := (on (cpu [])).setCluster 0 { spareUsed := true }

theorem witness_SingleFaultsAreCovered :
    (State.reset.core 0).run = .off ∧
    (∀ b, ∃ (s d : State) (lost : Bool), (s.core 0).run ≠ .off ∧ (s.core 0).retired = false ∧ s.failDrain 0 = (d, lost) ∧
      (((d.freshUnit 0).recallWcall 0).cluster 0).spareUsed = b) ∧
    (State.reset.core 0).sb = [] ∧
    (∃ s : State, s.isF (Reg.CMT_CLUSTER 1) Fld.CMT_CLUSTER_FAILED = true) ∧
    (∃ s : State, s.isF (Reg.CMT_CLUSTER 1) Fld.CMT_CLUSTER_FAILED = false ∧ (s.cluster 1).drain = none ∧
      ∃ e ∈ s.lines, ∃ x ∈ e.2.copies, x.cl = 1 ∧ x.st = .m) ∧
    (∃ s : State, s.isF (Reg.CMT_CLUSTER 1) Fld.CMT_CLUSTER_FAILED = false ∧ (s.cluster 1).drain = some .cmt) ∧
    (∃ s : State, s.isF (Reg.PWC_ISL 135) Fld.PWC_ISL_PHASE = false) ∧
    (∃ s : State, s.isF (Reg.PWC_ISL 135) Fld.PWC_ISL_PHASE = true ∧ s.islandFailed 135 = false) := by
  refine ⟨rfl, fun b => ⟨if b then spareGone else on (cpu []), if b then spareGone else on (cpu []), false, ?_, ?_, ?_, ?_⟩, rfl, ⟨booted.setF (Reg.CMT_CLUSTER 1) Fld.CMT_CLUSTER_FAILED 1, ?_⟩,
    ⟨lineAt modified, ?_, ?_, ?lines⟩, ⟨booted.setCluster 1 { drain := some .cmt }, ?_, rfl⟩, ⟨booted, ?_⟩, ⟨booted.setF (Reg.PWC_ISL 135) Fld.PWC_ISL_PHASE 1, ?_, ?_⟩⟩
  case lines => exact ⟨(0xC0, modified), List.mem_cons_self .., _, List.mem_cons_self .., rfl, rfl⟩
  all_goals (try cases b) <;> first | rfl | decide +kernel

/-- A test of cluster 0, or of channel `ch`. -/
def testing (r : IstRun) (s : State) : State := { s with ist := [(5, r)] }

theorem witness_InServiceTestsRunTheirSteps :
    (∃ (s : State) (w : Who), Performed s .boot w (Reg.IST_REQ 5) ∧ s.istAllowed w 5 0 0 = false) ∧
    (∃ (s : State) (w : Who), Performed s (.core 0) w (Reg.IST_REQ 5) ∧ s.istAllowed w 5 0 0 = true ∧
      s.getF (Reg.IST_STAT 5) Fld.IST_STAT_RESULT = 1) ∧
    (∃ (s : State) (w : Who), Performed s (.core 0) w (Reg.IST_REQ 5) ∧ s.istAllowed w 5 0 0 = true ∧
      s.getF (Reg.IST_STAT 5) Fld.IST_STAT_RESULT = 0 ∧ s.istRun 5 = none ∧ s.cid 0 ≠ 63 ∧ s.istBusy 0 0 = false) ∧
    (∃ (s : State) (w : Who), Performed s (.core 0) w (Reg.IST_REQ 5) ∧ s.istAllowed w 5 0 0 = true ∧
      s.getF (Reg.IST_STAT 5) Fld.IST_STAT_RESULT = 0 ∧ s.istRun 5 = none ∧ s.cid 0 ≠ 63 ∧ s.istBusy 0 0 = true) ∧
    (∃ (s : State) (w : Who), Performed s (.core 0) w (Reg.IST_REQ 5) ∧ s.istAllowed w 5 2 15 = true ∧
      s.getF (Reg.IST_STAT 5) Fld.IST_STAT_RESULT = 0 ∧ s.istRun 5 = none ∧ s.channelHas63 = true ∧ w.wOrBoot = false) ∧
    State.reset.istRun 5 = none ∧
    (∃ s : State, s.istRun 5 = some ⟨0, 0, 7, false⟩) ∧
    (∃ s : State, s.istRun 5 = some ⟨2, 15, 0, false⟩ ∧ s.channelHeld 15 = true ∧ s.committed none + 40 ≤ s.poolSize none) ∧
    (∃ s : State, s.istRun 5 = some ⟨2, 15, 0, false⟩ ∧ s.channelHeld 15 = true ∧ s.poolSize none < s.committed none + 40) ∧
    (∃ s : State, s.istRun 5 = some ⟨0, 0, 7, true⟩ ∧ (s.cluster 0).spareUsed = false) ∧
    (∃ s : State, s.istRun 5 = some ⟨0, 0, 7, true⟩ ∧ (s.cluster 0).spareUsed = true) ∧
    istFits ⟨0, 0, 7, true⟩ .clean = true ∧ istFits ⟨0, 0, 7, true⟩ (.coreFails 15) = true ∧ istFits ⟨0, 0, 7, true⟩ .secondCoreFails = true ∧
    istFits ⟨1, 9, 7, true⟩ (.l3WayFails 63 15) = true ∧ istFits ⟨3, 0, 0, true⟩ (.deviceFails 1 3) = true ∧
    istFits ⟨2, 15, 0, true⟩ .overTime = true ∧ (∃ s : State, s.istRun 5 = some ⟨2, 15, 0, true⟩) := by
  refine ⟨⟨booted, _, ⟨rfl, ?_⟩, ?_⟩,
    ⟨(inComp (cpu [])).setF (Reg.IST_STAT 5) Fld.IST_STAT_RESULT 1, ((inComp (cpu [])).setF (Reg.IST_STAT 5) Fld.IST_STAT_RESULT 1).whoCore 0, ⟨rfl, ?_⟩, ?_, ?_⟩,
    ⟨inComp (cpu []), (inComp (cpu [])).whoCore 0, ⟨rfl, ?_⟩, ?_, ?_, ?_, ?_, ?_⟩,
    ⟨(inComp (cpu [])).setCluster 0 { drain := some .cmt }, ((inComp (cpu [])).setCluster 0 { drain := some .cmt }).whoCore 0, ⟨rfl, ?_⟩, ?_, ?_, ?_, ?_, ?_⟩,
    ⟨(platformCore.wr (Reg.CMT_COLOR 63) 0x7F#64).setF (Reg.DMC_STAT 15) Fld.DMC_STAT_PRESENT 1,
      ((platformCore.wr (Reg.CMT_COLOR 63) 0x7F#64).setF (Reg.DMC_STAT 15) Fld.DMC_STAT_PRESENT 1).whoCore 0, ⟨rfl, ?_⟩, ?_, ?_, ?_, ?_, ?_⟩, ?_,
    ⟨testing ⟨0, 0, 7, false⟩ booted, ?_⟩,
    ⟨testing ⟨2, 15, 0, false⟩ (({ booted with dram := { booted.dram with held := [15] } } : State).setF Reg.RMT_LIM Fld.RMT_LIM_PLAT 2000), ?_, ?_, ?_⟩,
    ⟨testing ⟨2, 15, 0, false⟩ (({ booted with dram := { booted.dram with held := [15] } } : State).setF Reg.RMT_LIM Fld.RMT_LIM_PLAT 0), ?_, ?_, ?_⟩,
    ⟨testing ⟨0, 0, 7, true⟩ booted, ?_, ?_⟩, ⟨testing ⟨0, 0, 7, true⟩ spareGone, ?_, ?_⟩, ?_, ?_, ?_, ?_, ?_, ?_,
    ⟨testing ⟨2, 15, 0, true⟩ booted, ?_⟩⟩ <;> decide +kernel

theorem some_pair {α β : Type} (x : α × β) : ∃ u y, x = (u, y) := ⟨_, _, rfl⟩

/-- A pending image of version 9. -/
def image : UImage := ⟨9, [1#8]⟩
def staged (r : Nat) : State := ({ booted with boot := { booted.boot with pending := some image } } : State).setF Reg.UPT_STAT Fld.UPT_STAT_RESULT r
def applying (x : Apply) (r : Nat) : State := { staged r with apply := some x }

theorem witness_PatchesAreStagedAppliedAndCommitted :
    (∃ (s : State) (w : Who), Performed s .boot w Reg.UPT_CTL ∧ s.apply ≠ none) ∧
    (∃ (s : State) (w : Who) (u : State) (x : Option (List Byte)), Performed s .boot w Reg.UPT_CTL ∧ s.apply = none ∧
      s.readPacked w.cid (s.getF Reg.UPT_SRC Fld.UPT_SRC_BASE * 2 ^ 18) (512 + 0xA200) = (u, x)) ∧
    (∃ (s : State) (w : Who), Performed s .boot w Reg.UPT_CTL ∧ s.apply = none ∧ s.boot.pending = some image) ∧
    (∃ (s : State) (w : Who), Performed s (.core 0) w Reg.UPT_APPLY ∧ s.platHOrW w = true ∧ w.wOrBoot = false ∧ s.unitNeedsW 0 1 = true ∧
      s.uptResult = 2 ∧ s.apply = none ∧ s.boot.pending = some image) ∧
    (∃ (s : State) (w : Who), Performed s .boot w Reg.UPT_APPLY ∧ s.platHOrW w = true ∧ s.uptResult = 3) ∧
    (∃ (s : State) (w : Who), Performed s .boot w Reg.UPT_APPLY ∧ s.platHOrW w = true ∧ s.uptResult = 2 ∧ s.apply = none ∧ s.boot.pending = none) ∧
    (∃ (s : State) (w : Who), Performed s .boot w Reg.UPT_APPLY ∧ s.platHOrW w = true ∧ s.uptResult = 2 ∧ s.apply = none ∧
      s.boot.pending = some image ∧ w.wOrBoot = true ∧ (s.cluster 95).drain = none ∧ (s.cluster 95).resetKind = none) ∧
    (∃ (s : State) (w : Who), Performed s (.core 0) w Reg.UPT_APPLY ∧ s.platHOrW w = false ∧ s.uptResult = 2 ∧ s.apply = none ∧
      s.boot.pending = some image) ∧
    State.reset.apply = none ∧
    (∃ s : State, s.apply = some ⟨0, 0, 9⟩ ∧ s.loading ⟨0, 0, 9⟩ = false ∧
      ∀ c, c ∈ clusterCores 0 → (s.core c).task = none ∧ (s.core c).still = true ∧ (s.core c).sb = [] ∧ (s.core c).posted = []) ∧
    (∃ s : State, s.apply = some ⟨1, 15, 9⟩ ∧ s.loading ⟨1, 15, 9⟩ = false ∧ s.channelHeld 15 = true) ∧
    (∃ s : State, s.apply = some ⟨0, 0, 9⟩ ∧ s.boot.pending = some image ∧
      s.isF (Reg.USQ_PATCH_STAT 0) Fld.USQ_PATCH_STAT_LOADING = true ∧ (s.cluster 0).drain = some .patch) := by
  let low : State := ({ (inComp (cpu [])).wr (Reg.BLK_OWNER 0x12) 5#64 with boot := { pending := some image } } : State).setF Reg.UPT_STAT
    Fld.UPT_STAT_RESULT 2
  obtain ⟨u, x, h⟩ := some_pair (booted.readPacked 63 (booted.getF Reg.UPT_SRC Fld.UPT_SRC_BASE * 2 ^ 18) (512 + 0xA200))
  refine ⟨⟨applying ⟨0, 0, 9⟩ 3, _, ⟨rfl, ?_⟩, ?_⟩, ⟨booted, ⟨63, true, 3, 127, 0, true⟩, u, x, ⟨rfl, ?_⟩, rfl, h⟩, ⟨staged 2, _, ⟨rfl, ?_⟩, rfl, rfl⟩,
    ⟨({ (platformCore.wr (Reg.BLK_OWNER 0x14) 5#64).wr (Reg.CMT_CLUSTER 1) 0x7F#64 with boot := { pending := some image } } : State).setF Reg.UPT_STAT Fld.UPT_STAT_RESULT 2,
      (({ (platformCore.wr (Reg.BLK_OWNER 0x14) 5#64).wr (Reg.CMT_CLUSTER 1) 0x7F#64 with boot := { pending := some image } } : State).setF Reg.UPT_STAT Fld.UPT_STAT_RESULT 2).whoCore 0,
      ⟨rfl, ?_⟩, ?_, ?_, ?_, ?_, ?_, ?_⟩,
    ⟨staged 3, _, ⟨rfl, ?_⟩, ?_, ?_⟩,
    ⟨booted.setF Reg.UPT_STAT Fld.UPT_STAT_RESULT 2, _, ⟨rfl, ?_⟩, ?_, ?_, rfl, rfl⟩, ⟨staged 2, _, ⟨rfl, ?_⟩, ?_, ?_, rfl, rfl, rfl, rfl, rfl⟩,
    ⟨low, low.whoCore 0, ⟨rfl, ?_⟩, ?_, ?_, ?_, ?_⟩, rfl,
    ⟨applying ⟨0, 0, 9⟩ 3, rfl, ?_, ?_⟩, ⟨{ applying ⟨1, 15, 9⟩ 3 with dram := { held := [15] } }, rfl, ?_, ?_⟩,
    ⟨((applying ⟨0, 0, 9⟩ 4).setF (Reg.USQ_PATCH_STAT 0) Fld.USQ_PATCH_STAT_LOADING 1).setCluster 0 { drain := some .patch }, rfl, rfl, ?_, rfl⟩⟩ <;>
    decide +kernel

theorem witness_TheTapFollowsItsStates :
    (∃ s : State, s.jtag.st = .capDr ∧ s.jtag.ir = .idcode) ∧ (∃ s : State, s.jtag.st = .shDr ∧ s.jtag.ir = .idcode) ∧
    (∃ s : State, s.jtag.st = .shDr ∧ s.jtag.ir = .bypass) ∧
    (∃ s : State, s.jtag.st.next true = .updIr ∧ s.jtag.irShift = 0xF#4 ∧ s.jtag.st = .ex1Ir) ∧
    (∃ s : State, s.jtag.st.next true = .reset) :=
  ⟨⟨{ booted with jtag := { st := .capDr, ir := .idcode } }, rfl, rfl⟩, ⟨{ booted with jtag := { st := .shDr, ir := .idcode } }, rfl, rfl⟩,
   ⟨{ booted with jtag := { st := .shDr, ir := .bypass } }, rfl, rfl⟩, ⟨{ booted with jtag := { st := .ex1Ir, irShift := 0xF#4 } }, rfl, rfl, rfl⟩,
   ⟨{ booted with jtag := { st := .selIr } }, rfl⟩⟩


/-! ### The minute ledger -/

/-- Metering on, with the given rest of the ledger. -/
def metered (l : Ledger) : State := { booted with ledger := { l with metering := true } }
def useOf (n : Nat) : KeyUse := ⟨5, n, List.replicate 8 1⟩
/-- A span with one key that ended at the strike of 60 s. -/
def spanAt : Span := { keys := [useOf 1], tbEnd := 60000000000#64, minutes := 1 }

theorem witness_SpansCountAndClose :
    (∃ (p : Span) (k : KeyUse), ∃ e ∈ p.keys, e.cid = k.cid ∧ e.tag = k.tag) ∧
    (∃ (p : Span) (k : KeyUse), ∀ e ∈ p.keys, ¬ (e.cid = k.cid ∧ e.tag = k.tag)) ∧ State.reset.ledger.metering = false ∧
    (∃ s : State, s.ledger.metering = true ∧ s.ledger.closing = some spanAt ∧ (s.meterPt (pointNum (.fab 5))).old ≠ [] ∧ s.ledger.closed = true) ∧
    (∃ s : State, s.ledger.metering = true ∧ s.ledger.closing = some spanAt ∧ (s.meterPt (pointNum (.fab 5))).old ≠ [] ∧ s.ledger.closed = false) ∧
    (∃ s : State, s.ledger.metering = true ∧ s.ledger.closing = none ∧ (s.meterPt (pointNum (.fab 5))).old = []) ∧
    (∃ s : State, s.ledger.metering = true ∧ s.ledger.closing = none ∧ s.tb.toNat % 60000000000 = 0) ∧ State.reset.ledger.closing = none ∧
    (∃ s : State, s.ledger.closing = some spanAt ∧ s.tb.toNat < spanAt.tbEnd.toNat + 1000000) ∧
    (∃ s : State, s.ledger.closing = some spanAt ∧ s.ledger.closed = false ∧ spanAt.tbEnd.toNat + 1000000 ≤ s.tb.toNat) := by
  refine ⟨⟨spanAt, useOf 1, _, List.mem_cons_self .., rfl, rfl⟩, ⟨spanAt, useOf 2, by decide⟩, rfl,
    ⟨{ metered { closing := some spanAt, closed := true } with meters := [(pointNum (.fab 5), { old := [useOf 1] })] }, rfl, rfl, by decide, rfl⟩,
    ⟨{ metered { closing := some spanAt } with meters := [(pointNum (.fab 5), { old := [useOf 1] })] }, rfl, rfl, by decide, rfl⟩,
    ⟨metered {}, rfl, rfl, rfl⟩, ⟨{ metered {} with tb := 60000000000#64 }, rfl, rfl, by decide⟩, rfl,
    ⟨{ metered { closing := some spanAt } with tb := 60000999999#64 }, rfl, by decide⟩,
    ⟨{ metered { closing := some spanAt } with tb := 60001000000#64 }, rfl, rfl, by decide⟩⟩

theorem witness_RecordsAreSealedExportedAndWound :
    State.reset.ledger.closing = none ∧
    (∃ s : State, s.ledger.closing = some spanAt ∧ s.ledger.closed = true ∧ s.ledger.accum = none ∧ s.ledger.gran ≤ spanAt.minutes) ∧
    (∀ b, ∃ s : State, s.ledger.closing = some spanAt ∧ s.ledger.closed = true ∧ s.ledger.accum = none ∧ spanAt.minutes < s.ledger.gran ∧
      s.ledger.relax = b) ∧
    State.reset.ledger.metering = false ∧ (∃ s : State, s.ledger.metering = true ∧ s.beforeStrike = 0) ∧
    (∃ s : State, s.ledger.metering = true ∧ s.tb.toNat % 1000000 = 0 ∧ s.ledger.msDone ≠ some s.tb.toNat) ∧
    (∃ s : State, s.ledger.metering = true ∧ s.ledger.msDone = some s.tb.toNat) ∧
    (∃ (s : State) (w : Who), Performed s .boot w Reg.LG_EXP_CTL ∧ s.getF Reg.LG_EXP_STAT Fld.LG_EXP_STAT_RESULT = 1) ∧
    (∃ (s : State) (w : Who), Performed s .boot w Reg.LG_EXP_CTL ∧ s.getF Reg.LG_EXP_STAT Fld.LG_EXP_STAT_RESULT ≠ 1) ∧
    (∃ s : State, s.ledger.exporting = some (0, 1024, 7) ∧ ∀ r ∈ s.ledger.records, r.seq.toNat ≤ (s.rd Reg.LG_SEQ_EXP).toNat) ∧
    (∃ (s : State) (w : Who), Performed s .boot w Reg.LG_WIND ∧ (s.rd Reg.LG_SEQ_EXP).toNat < (8#64).toNat) ∧
    (∃ (s : State) (w : Who), Performed s .boot w Reg.LG_WIND ∧ (8#64).toNat ≤ (s.rd Reg.LG_SEQ_EXP).toNat ∧ (s.rd Reg.LG_WIND).toNat < (8#64).toNat) ∧
    (∃ (s : State) (w : Who), Performed s .boot w Reg.LG_WIND ∧ (8#64).toNat ≤ (s.rd Reg.LG_SEQ_EXP).toNat ∧ (8#64).toNat ≤ (s.rd Reg.LG_WIND).toNat) ∧
    (∃ (s : State) (w : Who), Performed s .boot w Reg.LG_CTL) := by
  refine ⟨rfl, ⟨metered { closing := some spanAt, closed := true }, rfl, rfl, rfl, by decide⟩,
    fun b => ⟨metered { closing := some spanAt, closed := true, gran := 5, relax := b }, rfl, rfl, rfl, (by decide : (1 : Nat) < 5), rfl⟩, rfl,
    ⟨metered {}, rfl, rfl⟩, ⟨metered {}, rfl, by decide, by decide⟩, ⟨metered { msDone := some 0 }, rfl, by decide⟩, ⟨booted.setF Reg.LG_EXP_STAT Fld.LG_EXP_STAT_RESULT 1, _, ⟨rfl, ?_⟩, ?_⟩, ⟨booted, _, ⟨rfl, ?_⟩, ?_⟩,
    ⟨metered { exporting := some (0, 1024, 7) }, rfl, ?_⟩, ⟨booted, _, ⟨rfl, ?_⟩, ?_⟩, ⟨booted.wr Reg.LG_SEQ_EXP 8#64, _, ⟨rfl, ?_⟩, ?_, ?_⟩,
    ⟨(booted.wr Reg.LG_SEQ_EXP 8#64).wr Reg.LG_WIND 8#64, _, ⟨rfl, ?_⟩, ?_, ?_⟩, ⟨booted, _, rfl, ?_⟩⟩
  all_goals decide +kernel


/-! ### The DRAM controllers -/

/-- Order B, with the color of line 0x3000 open to every compartment, and the queue of line 0x3000 as given. -/
def orderedB (q : List DramReq) : State :=
  let s := ((slots (on (cpu [])) 0x40#64).setF Reg.DMG_CFG Fld.DMG_CFG_ORDER 1).setF Reg.DMG_CFG Fld.DMG_CFG_SPARE 1
  let s := s.wr (Reg.CMT_COLOR 3) 0x40#64
  s.setDramQ (s.queueKey 0x3000) q
def aRead : DramReq := { pa := 0x3000, cid := 0, wr := false, data := 0#512, mask := 0#64, merged := true }
def aPart (fetched : Bool) : DramReq :=
  { pa := 0x3000, cid := 0, wr := true, data := 5#512, mask := 1#64, merged := false, fetched := fetched }
def aWrite : DramReq := { pa := 0x3000, cid := 0, wr := true, data := 5#512, mask := fullMask, merged := true }

/-- The columns of a subchannel in effect, and a row open. -/
def open_ (s : State) (cols row : Nat) : State :=
  { s with dram := { s.dram with cols := natsFrom 0 32 |>.map (fun u => (u, cols)),
                                 rows := [(s.rowKey 0x3000, row)], since := natsFrom 0 32 |>.map (fun u => (u, 100)) } }

/-- The subchannel of line 0x3000. -/
def sub0 : Nat := ((orderedB []).dramAddr 0x3000).sub

/-- The queue of the slot's owner from which a subchannel would issue, as the statement has it. -/
def ownQueue (s : State) (u : Nat) : Option Nat :=
  let e := s.slotNow (wheelDRAM u) (s.getF (Reg.BW_STAT (wheelPage (wheelDRAM u))) Fld.BW_STAT_POS)
  (queueOrder u (smGet (fun _ => 31) s.dram.rot (u * 64 + e.toNat % 64))).find? (fun k =>
    match s.pickInQueue u k with
    | some r => decide (s.reqSlotComp r = e.toNat % 64) && s.cmdAllowed u false (s.cmdFor r)
    | none => false)

/-- The slots of compartment 0 are lent, and compartment 5, whose line 0x3000 is, borrows; another row stands open in its bank. -/
def lending : State :=
  open_ ((((slots (orderedB [aRead]) 0xC0#64).wr (Reg.CMT_COLOR 3) 0x45#64).wr (Reg.CMP_CTL 0) 1#64).wr (Reg.CMP_CTL 5) 2#64) 0 9

theorem witness_RequestsAreQueuedAndServed :
    (∃ s : State, s.inDram 0x100000 = false) ∧
    (∃ s : State, s.inDram 0x3000 = true ∧ s.colorOK 5 0x3000 = false) ∧
    (∃ s : State, s.inDram 0x3000 = true ∧ s.colorOK 5 0x3000 = true ∧
      s.hasSlot (wheelDRAM (s.dramAddr 0x3000).sub) (s.slotComp { cid := 5, die := 0, src := 6 } 0x3000) false = false) ∧
    (∃ s : State, s.inDram 0x3000 = true ∧ s.colorOK 5 0x3000 = true ∧
      s.hasSlot (wheelDRAM (s.dramAddr 0x3000).sub) (s.slotComp { cid := 5, die := 0, src := 6 } 0x3000) false = true ∧
      s.queueDepth ≤ (s.dramQ (s.queueKey 0x3000)).length) ∧
    (∃ s : State, s.inDram 0x3000 = true ∧ s.colorOK 5 0x3000 = true ∧
      s.hasSlot (wheelDRAM (s.dramAddr 0x3000).sub) (s.slotComp { cid := 5, die := 0, src := 6 } 0x3000) false = true ∧
      (s.dramQ (s.queueKey 0x3000)).length < s.queueDepth ∧ s.channelHeld (s.dramAddr 0x3000).ch = false ∧
      (∀ x ∈ s.dram.wait, s.queueKey x.pa ≠ s.queueKey 0x3000) ∧ ∀ x ∈ s.dramQ (s.queueKey 0x3000), x.wr = true → x.pa ≠ 0x3000) ∧
    (∃ s : State, s.inDram 0x3000 = true ∧ s.colorOK 5 0x3000 = true ∧
      s.hasSlot (wheelDRAM (s.dramAddr 0x3000).sub) (s.slotComp { cid := 5, die := 0, src := 6 } 0x3000) false = true ∧
      (s.dramQ (s.queueKey 0x3000)).length < s.queueDepth ∧ s.channelHeld (s.dramAddr 0x3000).ch = false ∧
      (∀ x ∈ s.dram.wait, s.queueKey x.pa ≠ s.queueKey 0x3000) ∧
      (s.dramQ (s.queueKey 0x3000)).reverse.find? (fun x => x.wr && decide (x.pa = 0x3000)) = some aWrite) ∧
    (∀ b, ∃ s : State, s.dramQ (s.queueKey 0x3000) = [aPart b] ∧ s.queueKey 0x3000 / 64 < 32 ∧ s.queueKey 0x3000 % 64 < 32) ∧
    (∀ k ∈ bankKeys 31 31, ∀ r ∈ State.reset.dramQ k, r.wr = true → r.merged = true) ∧
    (∃ s : State, s.cmdFor aRead = .act) ∧ (∃ s : State, s.cmdFor aRead = .pre) ∧ (∃ s : State, s.cmdFor aRead = .col ∧ s.dram.wait = []) ∧
    aRead.needsRead = true ∧ (aPart true).needsRead = false := by
  refine ⟨⟨on (cpu []), ?_⟩, ⟨(orderedB []).wr (Reg.CMT_COLOR 3) 0x46#64, ?_, ?_⟩,
    ⟨(orderedB []).wr (Reg.CMT_COLOR 3) 0x45#64, ?_, ?_, ?_⟩, ⟨orderedB (List.replicate 8 aRead), ?_, ?_, ?_, ?_⟩,
    ⟨orderedB [], ?_, ?_, ?_, ?_, ?_, ?_, ?_⟩, ⟨orderedB [aWrite], ?_, ?_, ?_, ?_, ?_, ?_, ?_⟩, fun b => ⟨orderedB [aPart b], ?_, ?_, ?_⟩, ?_,
    ⟨open_ (orderedB [aRead]) 0 0, ?_⟩, ⟨open_ (orderedB [aRead]) 0 9, ?_⟩,
    ⟨open_ (orderedB [aRead]) 0 (((orderedB [aRead]).dramAddr 0x3000).row + 1), ?_, ?_⟩, ?_, ?_⟩ <;> (try cases b) <;> decide +kernel

/-- A slot without an owner's command, one held, one that serves its owner, and one lent; a phase that changes and one that does not. -/
theorem witness_DramSlots :
    (∃ s : State, s.orderB = true ∧ s.channelHeld 15 = true) ∧
    (∃ s : State, s.orderB = true ∧ s.slotNow (wheelDRAM sub0) (s.getF (Reg.BW_STAT (wheelPage (wheelDRAM sub0))) Fld.BW_STAT_POS) = 0x40#64 ∧
      s.channelHeld (sub0 / 2) = false ∧ ownQueue s sub0 = some (s.queueKey 0x3000) ∧
      s.pickInQueue sub0 (s.queueKey 0x3000) = some aRead) ∧
    (∃ s : State, s.orderB = true ∧ s.slotNow (wheelDRAM sub0) (s.getF (Reg.BW_STAT (wheelPage (wheelDRAM sub0))) Fld.BW_STAT_POS) = 0x40#64 ∧
      s.channelHeld (sub0 / 2) = false ∧ ownQueue s sub0 = none) ∧
    (∃ s : State, s.orderB = true ∧ s.slotNow (wheelDRAM sub0) (s.getF (Reg.BW_STAT (wheelPage (wheelDRAM sub0))) Fld.BW_STAT_POS) = 0xC0#64 ∧
      s.channelHeld (sub0 / 2) = false ∧ ownQueue s sub0 = none ∧ s.isF (Reg.CMP_CTL 0) Fld.CMP_CTL_LENDOK = true ∧
      s.borrower (wheelDRAM sub0) ((natsFrom 0 64).filter (fun b => (s.readyQueue sub0 b true).isSome)) = some 5 ∧
      s.readyQueue sub0 5 true = some (s.queueKey 0x3000)) ∧
    (∀ b, ∃ s : State, s.orderB = true ∧ s.phaseWrites = false ∧ smGet (fun _ => false) s.dram.writing 31 = b) ∧
    (∃ s : State, s.orderB = true ∧ s.phaseWrites = true) ∧ State.reset.orderB = false := by
  refine ⟨⟨{ orderedB [] with dram := { held := [15] } }, ?_, ?_⟩, ⟨open_ (orderedB [aRead]) (2 ^ 64 - 1) 0, ?_, ?_, ?_, ?_, ?_⟩,
    ⟨open_ (orderedB []) (2 ^ 64 - 1) 0, ?_, ?_, ?_, ?_⟩, ⟨lending, ?_, ?_, ?_, ?_, ?_, ?_, ?_⟩,
    fun b => ⟨{ orderedB [] with dram := { writing := [(31, b)] } }, ?_, ?_, ?_⟩,
    ⟨{ ((orderedB []).setF Reg.DMG_PHASE Fld.DMG_PHASE_RREV 1).setF Reg.DMG_PHASE Fld.DMG_PHASE_WREV 1 with
       tb := 1000#64, dram := { geom := { mts := 256 } } }, ?_, ?_⟩, ?_⟩ <;> (try cases b) <;> decide +kernel

/-- Sparing on, its spare free, and channel 3 degraded. -/
def sparable : State :=
  let s := (((booted.setF Reg.DMG_CFG Fld.DMG_CFG_ORDER 1).setF Reg.DMG_CFG Fld.DMG_CFG_SPARE 1).wr Reg.DMG_TOP onesW).wr (Reg.DMC_STAT 3) onesW
  (((s.setF (Reg.DMC_STAT 3) Fld.DMC_STAT_RETRAIN 0).setF Reg.DMG_SPARE_CTL Fld.DMG_SPARE_CTL_AUTO 1).setF
    Reg.DMG_SPARE_CTL Fld.DMG_SPARE_CTL_SPARE_CH 15).setF Reg.DMG_SPARE_STAT Fld.DMG_SPARE_STAT_STATE 0
/-- The copy of channel 3 waits for the spare's training. -/
def copyDue : State := { sparable with boot := { sparable.boot with st := .running }, dram := { sparable.dram with copyWait := some 3 } }

theorem witness_ChannelsAreRetrainedSparedAndHeld :
    (∃ s : State, s.isF (Reg.DMC_STAT 15) Fld.DMC_STAT_PRESENT = false) ∧
    (∃ s : State, s.isF (Reg.DMC_STAT 15) Fld.DMC_STAT_PRESENT = true ∧ s.isF (Reg.DMC_STAT 15) Fld.DMC_STAT_RETRAIN = false ∧
      s.channelHeld 15 = false) ∧
    (∃ s : State, s.isF (Reg.DMC_STAT 15) Fld.DMC_STAT_RETRAIN = true ∧ s.roundFails 15 = 2 ∧ s.roundFails 31 = 0) ∧
    (∃ s : State, s.isF (Reg.DMC_STAT 15) Fld.DMC_STAT_RETRAIN = true ∧ s.roundFails 31 = 1) ∧
    (∃ s : State, (smGet (fun _ => []) s.dram.poisonTab (sub0 / 2)).length < 16 ∧ (s.dramAddr 0x3000).sub = sub0) ∧
    (∃ s : State, s.inDram 0x3000 = true ∧ s.getF (Reg.DMC_SCRUB (s.dramAddr 0x3000).ch) Fld.DMC_SCRUB_PERIOD_H ≠ 0 ∧
      s.channelHeld (s.dramAddr 0x3000).ch = false ∧ s.orderB = true ∧ s.colorOwner (colorOf 0x3000) = some 0 ∧
      s.memPoison (0x3000 / 64) = false) ∧
    (∃ s : State, s.inDram 0x3000 = true ∧ s.orderB = true ∧ s.colorOwner (colorOf 0x3000) = none) ∧
    (∃ s : State, s.isF Reg.DMG_SPARE_CTL Fld.DMG_SPARE_CTL_AUTO = false) ∧ (∃ s : State, s.sparing = false ∧ s.spareState ≠ 1) ∧
    (∃ s : State, s.isF (Reg.DMC_STAT 3) Fld.DMC_STAT_DEGRADED = true ∧ s.isF Reg.DMG_SPARE_CTL Fld.DMG_SPARE_CTL_AUTO = true ∧
      s.channelHeld 3 = false ∧ s.sparing = true ∧ s.spareState = 0 ∧ 3 ≠ s.spareCh ∧
      s.isF (Reg.DMC_STAT 3) Fld.DMC_STAT_PRESENT = true) ∧
    (∀ b, ∃ s : State, s.boot.st = .running ∧ s.boot.report = none ∧ s.sparing = true ∧ s.spareCh = 15 ∧ s.dram.copyWait = some 3 ∧
      decide (s.committed none + 40 ≤ s.poolSize none) = b ∧ s.triesOf 15 < 2) ∧
    (∃ (s : State) (w : Who), Performed s .boot w Reg.DMG_SPARE_CTL ∧ s.channelHeld 3 = false ∧ s.spareState = 1) ∧
    (∃ (s : State) (w : Who), Performed s .boot w Reg.DMG_SPARE_CTL ∧ s.channelHeld 3 = false ∧ s.spareState = 0 ∧ s.sparing = true ∧
      s.getF Reg.DMG_TOP Fld.DMG_TOP_TOP ≠ 0 ∧ 3 ≠ s.spareCh ∧ s.isF (Reg.DMC_STAT 3) Fld.DMC_STAT_PRESENT = true) ∧
    State.reset.dram.copy = none ∧
    (∃ s : State, s.dram.copy = some ⟨14, 15⟩ ∧ ∀ j, j < 15 → ((s.rd Reg.DMG_CHMAP).toNat / 2 ^ (4 * j) % 16 = 14 ↔ j = 14)) ∧
    (∃ s : State, s.channelWanted 15 = true) ∧ (∃ s : State, s.channelWanted 15 = false) := by
  refine ⟨⟨booted, ?_⟩, ⟨booted.setF (Reg.DMC_STAT 15) Fld.DMC_STAT_PRESENT 1, ?_, ?_, ?_⟩,
    ⟨(booted.setF (Reg.DMC_STAT 15) Fld.DMC_STAT_RETRAIN 1).setFails 15 2, ?_, ?_, ?_⟩,
    ⟨(booted.setF (Reg.DMC_STAT 15) Fld.DMC_STAT_RETRAIN 1).setFails 31 1, ?_, ?_⟩, ⟨orderedB [], ?_, ?_⟩,
    ⟨(orderedB []).setF (Reg.DMC_SCRUB ((orderedB []).dramAddr 0x3000).ch) Fld.DMC_SCRUB_PERIOD_H 1, ?_, ?_, ?_, ?_, ?_, ?_⟩,
    ⟨(orderedB []).wr (Reg.CMT_COLOR 3) 0#64, ?_, ?_, ?_⟩,
    ⟨booted.setF Reg.DMG_SPARE_CTL Fld.DMG_SPARE_CTL_AUTO 0, ?_⟩, ⟨booted, ?_, ?_⟩, ⟨sparable, ?_, ?_, ?_, ?_, ?_, ?_, ?_⟩,
    fun b => ⟨if b then copyDue.setF Reg.RMT_LIM Fld.RMT_LIM_PLAT 2000 else copyDue.setF Reg.RMT_LIM Fld.RMT_LIM_PLAT 0, ?_, ?_, ?_, ?_, ?_, ?_, ?_⟩,
    ⟨booted.setF Reg.DMG_SPARE_STAT Fld.DMG_SPARE_STAT_STATE 1, _, ⟨rfl, ?_⟩, ?_, ?_⟩,
    ⟨sparable, _, ⟨rfl, ?_⟩, ?_, ?_, ?_, ?_, ?_, ?_⟩, ?_,
    ⟨{ booted with dram := { copy := some ⟨14, 15⟩ } }, rfl, ?_⟩, ⟨testing ⟨2, 15, 0, false⟩ booted, ?_⟩, ⟨booted, ?_⟩⟩ <;>
    (try cases b) <;> decide +kernel

/-! ### PCIe, the IOMMU, events -/

/-- Entry 63 of port 3 bound to requester 5, with ATS and PRI, in compartment 0. -/
def bound (s : State) : State := s.wr (Reg.IOM_RTE 3 63) 0x700FFFF0005#64

theorem slots_all : ∀ w, w < 142 → (slots State.reset 0x40#64).hasSlot w 0 false = true := by decide +kernel

/-- The way of a request whose compartment has a slot on every wheel. -/
theorem slots_reach (s : State) (r : Req) (pa : Nat) (h : ∀ w, w < 142 → s.hasSlot w r.cid r.dtm = true) (hd : r.die < 11)
    (hh : ∀ x, r.hub = some x → x < 2) (hb : s.orderB = false) (hi : s.inDram pa = true) (hc : s.colorOK r.cid pa = true)
    (hl : wheelL3S (sliceOf pa) < 142) (hs : sliceDie (sliceOf pa) < 11) (hr : s.comp.resteer = [] := by rfl) :
    s.toSlice r pa = (s, none) := by
  refine toSlice_ok s r pa hr (firstNoSlot_none _ _ _ _ ?_ h) hi hc ?_
  · intro w m
    rcases List.mem_append.1 m with m | m
    · split at m
      · next x hx =>
        have := hh x hx
        have : w = wheelHub x := by simpa using m
        unfold wheelHub at this
        omega
      · simp at m
    · exact pathWheels_lt _ _ _ hd hs m
  · have : s.slotComp r pa = r.cid := by simp [State.slotComp, hb]
    rw [this]
    exact h _ hl

/-- A state with other trees of its caches. -/
def plru (s : State) (q : List (Nat × Nat)) : State := { s with comp := { s.comp with plru := q } }

theorem touchL3_plru (s : State) (l : Nat) : ∃ q, s.touchL3 l = plru s q := by
  unfold State.touchL3
  split
  · exact ⟨s.comp.plru, rfl⟩
  · dsimp only
    split
    · exact ⟨_, rfl⟩
    · exact ⟨s.comp.plru, rfl⟩

theorem plru_inject (s : State) (q : List (Nat × Nat)) (page c : Nat) (h : s.takeInject page c = (none, s)) :
    (plru s q).takeInject page c = (none, plru s q) := by
  unfold State.takeInject at h ⊢
  dsimp only at h ⊢
  split at h
  · cases congrArg Prod.fst h
  · next n => exact if_neg n

theorem pull_clean (s : State) (l : Nat) (x : CLine) (hl : s.line l = some x) (hm : ∀ k ∈ x.copies, k.st ≠ .m) :
    s.pull l (fun _ => true) = s := by
  unfold State.pull
  have e : x.copies.filter (fun c => (fun _ : L2Copy => true) c && decide (c.st = .m)) = [] := by
    simpa [List.filter_eq_nil_iff] using hm
  simp only [hl, e, List.foldl_nil]

theorem find_smIns {α : Type} (i : Nat) (v : α) (m : List (Nat × α)) (h : ∀ x, (i, x) ∉ m) :
    (smIns i v m).find? (fun e => decide (e.1 = i)) = some (i, v) := by
  induction m with
  | nil => simp [smIns]
  | cons e t ih =>
    obtain ⟨k, x⟩ := e
    have hk : k ≠ i := fun e => h x (by simp [e])
    unfold smIns
    split
    · simp
    · simp [hk, ih (fun y hy => h y (List.mem_cons_of_mem _ hy))]

theorem line_setLine (s : State) (l : Nat) (x : CLine) : (s.setLine l (some x)).line l = some x := by
  show ((smIns l x (smErase s.lines l)).find? (fun e => decide (e.1 = l))).map (·.2) = some x
  rw [find_smIns l x _ (not_mem_smErase s.lines l)]
  rfl

theorem dmaRead_present (s : State) (r : Req) (l : Nat) (x : CLine) (h : s.toSlice r (l * 64) = (s, none)) (hl : s.line l = some x)
    (ht : s.takeInject (pageL3S (sliceOf (l * 64))) r.cid = (none, s)) (hm : ∀ k ∈ x.copies, k.st ≠ .m) :
    ∃ q, s.dmaRead r l = ((plru s q).setLine l (some x.downgrade), .ok (x.downgrade.data, x.downgrade.poison)) := by
  obtain ⟨q, hq⟩ := touchL3_plru s l
  have hl' : (plru s q).line l = some x := hl
  have he : (plru s q).l3Error r l = plru s q := by
    unfold State.l3Error
    simp only [hl', plru_inject s q _ _ ht]
  have hd : (plru s q).downgradeLine l = (plru s q).setLine l (some x.downgrade) := by
    unfold State.downgradeLine
    simp only [pull_clean _ l x hl' hm, hl']
  refine ⟨q, ?_⟩
  simp only [State.dmaRead, h, hl, hq, he, hd, line_setLine, Option.getD_some]

theorem dmaWrite_present (s : State) (r : Req) (l : Nat) (d : BitVec 512) (m : BitVec 64) (p : Bool) (x : CLine)
    (h : s.toSlice r (l * 64) = (s, none)) (hl : s.line l = some x) (hm : ∀ k ∈ x.copies, k.st ≠ .m) :
    ∃ v, s.dmaWrite r l d m p = (v, none) := by
  obtain ⟨q, hq⟩ := touchL3_plru s l
  have hl' : (plru s q).line l = some x := hl
  unfold State.dmaWrite
  split
  · exact ⟨_, rfl⟩
  · simp only [h, hq, State.recallLine, pull_clean _ l x hl' hm, hl', line_setLine]
    exact ⟨_, rfl⟩

/-- Line 0xC0 in the L3, the entry bound, its translation off; and with stage 2 on, whose root is that line: a leaf that maps every
address to itself. -/
def device : State := bound (lineAt shared)
def mapped : State :=
  ((bound (lineAt ⟨0x30000000000060D#512, false, false, 0, 0, []⟩)).wr (Reg.IOM_S2 3 63) (BitVec.ofNat 64 (0x3000 + 1)))

theorem device_reach (l : Nat) (hl : l = 0xC0) : device.toSlice (device.ioReq 3 63) (l * 64) = (device, none) := by
  subst hl
  have h : ∀ w, w < 142 → device.hasSlot w 0 false = true := slots_all
  exact slots_reach _ _ _ h (by decide) (by rintro x ⟨⟩; decide) rfl rfl (by decide +kernel) (by decide) (by decide)

theorem mapped_reach : mapped.toSlice (mapped.ioReq 3 63) (0xC0 * 64) = (mapped, none) := by
  have h : ∀ w, w < 142 → mapped.hasSlot w 0 false = true := slots_all
  exact slots_reach _ _ _ h (by decide) (by rintro x ⟨⟩; decide) rfl rfl (by decide +kernel) (by decide) (by decide)

/-- What the walk leaves, whatever the trees, and its leaf. -/
def rootLine : CLine := ⟨0x30000000000060D#512, false, false, 0, 0, []⟩
def walked (q : List (Nat × Nat)) : State := (plru mapped q).setLine 0xC0 (some rootLine.downgrade)
def rootLeaf : Leaf := ⟨0x30000000000060D#64, 0, 0x3008⟩

/-- The entry of the root read through the L3, and the walk. -/
theorem mapped_read : ∃ q, ioRead (mapped.ioReq 3 63) mapped 0x3000 .wb = (walked q, .ok 0x30000000000060D#64) := by
  obtain ⟨q, h⟩ := dmaRead_present mapped (mapped.ioReq 3 63) 0xC0 rootLine mapped_reach rfl (by decide +kernel) (by decide)
  have e : 0x3000 / 64 = 0xC0 := by decide
  have p : rootLine.downgrade.poison = false := by decide +kernel
  have d : BitVec.ofNat 64 (rootLine.downgrade.data.toNat >>> (8 * (0x3000 % 64 / 8 * 8))) = 0x30000000000060D#64 := by decide +kernel
  refine ⟨q, ?_⟩
  simp only [ioRead, e, h, p, d]
  rfl

theorem mapped_walk : ∃ q, State.walk2 (ioWalker (mapped.ioReq 3 63) true 0 0x3000) 0x3008 5 mapped 0 0x3000 [] =
    (walked q, .ok (rootLeaf, [])) := by
  obtain ⟨q, h⟩ := mapped_read
  have f : mapped.fixedType 0x3000 = some .wb := by decide +kernel
  have i : 0x3000 + 8 * walkIndex true 0 0x3008 = 0x3000 := by decide
  have gg : MemType.wb.strongest MemType.wb = MemType.wb := by decide
  have hd : MemType.wb.device = false := by decide
  refine ⟨q, ?_⟩
  unfold State.walk2
  simp only [ioWalker, i, State.walkRead, f, gg, hd, h]
  rfl

theorem mapped_roots : mapped.ioRoots 3 63 0x3008 = (mapped, 0#64, BitVec.ofNat 64 (0x3000 + 1)) := by
  have e1 : mapped.rd (Reg.IOM_S1 3 63) = 0#64 := by decide +kernel
  have e2 : mapped.rd (Reg.IOM_S2 3 63) = BitVec.ofNat 64 (0x3000 + 1) := by decide +kernel
  have f1 : mapped.forced (Reg.IOM_S1 3 63) = mapped.rd (Reg.IOM_S1 3 63) := by decide +kernel
  have f2 : mapped.forced (Reg.IOM_S2 3 63) = mapped.rd (Reg.IOM_S2 3 63) := by decide +kernel
  unfold State.ioRoots
  dsimp only
  rw [if_pos ⟨f1, f2⟩, e1, e2]

theorem fixedType_plru (s : State) (q : List (Nat × Nat)) (l : Nat) (x : CLine) (pa : Nat) :
    ((plru s q).setLine l (some x)).fixedType pa = s.fixedType pa := rfl

/-- The translation of a state whose stage-2 walk from 0x3000 ends at the root's leaf. -/
theorem translate_of (s u : State) (hr : s.ioRoots 3 63 0x3008 = (s, 0#64, BitVec.ofNat 64 (0x3000 + 1)))
    (h : State.walk2 (ioWalker (s.ioReq 3 63) true 0 0x3000) 0x3008 5 s 0 0x3000 [] = (u, .ok (rootLeaf, [])))
    (fx : u.fixedType 0x3008 = some .wb) : s.ioTranslate 3 63 0x3008 true = (u, .ok ⟨0x3008, .wb, 2 ^ 48, 0x3008, true, true, true, true⟩) := by
  have b1 : bitN (0#64) Fld.IOM_S1_EN.lo = false := by decide
  have b2 : bitN (BitVec.ofNat 64 (0x3000 + 1)) Fld.IOM_S2_EN.lo = true := by decide
  have b3 : fieldN (0#64) Fld.IOM_S1_BASE.lo Fld.IOM_S1_BASE.w * 4096 = 0 := by decide
  have b4 : fieldN (BitVec.ofNat 64 (0x3000 + 1)) Fld.IOM_S2_BASE.lo Fld.IOM_S2_BASE.w * 128 = 0x3000 := by decide
  have o : rootLeaf.out = 0x3008 := rfl
  have mt : eMT rootLeaf.e = .wb := by decide
  have st : MemType.wb.strongest .wb = .wb := by decide
  have dv : MemType.wb.device = false := by decide
  have ck : leafCheck rootLeaf (ioPerm rootLeaf.e true) false true true 0x3008 = none := by decide
  have es : eSZ rootLeaf.e = 48 := by decide
  have er : eR rootLeaf.e = true := by decide
  have ew : eW rootLeaf.e = true := by decide
  have ed : eD rootLeaf.e = true := by decide
  unfold State.ioTranslate
  simp only [hr, b1, b2, b3, b4, State.ioStage2, show (ioWalker (s.ioReq 3 63) true 0 0x3000).root2 = 0x3000 from rfl,
    show (ioWalker (s.ioReq 3 63) true 0 0x3000).s2 = true from rfl, h, Bool.false_eq_true, if_false, Bool.true_eq_false, o, mt, st, dv, fx, ck,
    State.ioType, es, er, ew, ed]
  rw [if_neg (by decide)]

theorem mapped_translate : ∃ q, mapped.ioTranslate 3 63 0x3008 true =
    (walked q, .ok ⟨0x3008, .wb, 2 ^ 48, 0x3008, true, true, true, true⟩) := by
  obtain ⟨q, h⟩ := mapped_walk
  have fx : (walked q).fixedType 0x3008 = some .wb := by
    rw [walked, fixedType_plru]
    decide +kernel
  exact ⟨q, translate_of _ _ mapped_roots h fx⟩

theorem isF_plru (s : State) (q : List (Nat × Nat)) (l : Nat) (x : CLine) (k : Nat) (f : Fld) :
    ((plru s q).setLine l (some x)).isF k f = s.isF k f := rfl

theorem witness_DeviceRequestsAreBoundAndTranslated :
    (∃ s : State, s.bindRid 3 6 = none) ∧ device.bindRid 3 5 = some 63 ∧
    (∃ u e, device.ioAddr 3 63 (2 ^ 52) false = (u, .error e)) ∧
    (∃ (data : List Byte) (u : State) (e : IoFail), data.length = 512 ∧ ¬ (data.length = 4 ∧ device.inMsi 3 (2 ^ 52) = true) ∧
      (device.chargePort 3 63 data.length).ioAddr 3 63 (2 ^ 52) true = (u, .error e)) ∧
    (∃ (data : List Byte) (u v : State) (pa : Nat) (mt : MemType), ¬ (data.length = 4 ∧ device.inMsi 3 0x3000 = true) ∧ data ≠ [] ∧
      (device.chargePort 3 63 data.length).ioAddr 3 63 0x3000 true = (u, .ok (pa, mt)) ∧ pa % 64 + data.length = 64 ∧
      u.dmaWrite (u.ioReq 3 63) (pa / 64) (BitVec.ofNat 512 (bytesToNat data <<< (8 * (pa % 64)))) (maskBytes (pa % 64) data.length) false =
        (v, none)) ∧
    (∃ s : State, s.bindRid 3 5 = some 63 ∧ s.isF (Reg.IOM_RTE 3 63) Fld.IOM_RTE_ATS = false) ∧
    (∃ s : State, s.io.evq = [] ∧ s.isF (Reg.IRQ_ROUTE (pageIOM 3)) Fld.IRQ_ROUTE_EN = false) ∧
    (∃ u e, device.ioTranslate 3 63 (2 ^ 52) true = (u, .error e)) ∧
    (∃ (x : IoXlat) (u : State), mapped.bindRid 3 5 = some 63 ∧ mapped.ioTranslate 3 63 0x3008 true = (u, .ok x) ∧ 0 < x.size ∧
      u.isF (Reg.IOM_S2 3 63) Fld.IOM_S2_EN = true) ∧
    device.isF (Reg.IOM_RTE 3 63) Fld.IOM_RTE_ATS = true ∧ (∃ u e, device.ioTranslate 3 63 (2 ^ 52) false = (u, .error e)) ∧
    (∃ u x, device.ioTranslate 3 63 0x3000 false = (u, .ok x)) ∧
    (∃ s : State, s.bindRid 3 5 = some 63 ∧ s.isF (Reg.IOM_RTE 3 63) Fld.IOM_RTE_PRI = true ∧ s.isF (Reg.IOM_VEC 3 63) Fld.IOM_VEC_PEN = true) ∧
    device.isF (Reg.IOM_VEC 3 63) Fld.IOM_VEC_PEN = false ∧
    (∃ s : State, s.bindRid 3 5 = some 63 ∧ s.inMsi 3 4092 = true) := by
  have w : ∃ v, device.dmaWrite (device.ioReq 3 63) 0xC0 (BitVec.ofNat 512 (bytesToNat (List.replicate 64 0#8) <<< (8 * (0x3000 % 64))))
    (maskBytes (0x3000 % 64) 64) false = (v, none) := dmaWrite_present _ _ _ _ _ _ shared (device_reach _ rfl) rfl (by decide)
  obtain ⟨v, w⟩ := w
  obtain ⟨q, tr⟩ := mapped_translate
  have s2 : (walked q).isF (Reg.IOM_S2 3 63) Fld.IOM_S2_EN = true := by
    rw [walked, isF_plru]
    decide +kernel
  have c : ∀ n, device.chargePort 3 63 n = device := fun n => if_pos (Or.inr rfl)
  simp only [c]
  refine ⟨⟨device, ?_⟩, ?_, ⟨device, ⟨3, 0, false, false⟩, rfl⟩, ⟨List.replicate 512 0#8, device, ⟨3, 0, false, false⟩, List.length_replicate, ?_, rfl⟩,
    ⟨List.replicate 64 0#8, device, v, 0x3000, .wb, ?_, ?_, rfl, ?_, w⟩, ⟨device.setF (Reg.IOM_RTE 3 63) Fld.IOM_RTE_ATS 0, ?_, ?_⟩, ⟨device, rfl, ?_⟩,
    ⟨device, ⟨3, 0, false, false⟩, rfl⟩, ⟨_, _, ?_, tr, ?_, s2⟩, ?_, ⟨device, ⟨3, 0, false, false⟩, rfl⟩, ⟨device, _, rfl⟩,
    ⟨device.wr (Reg.IOM_VEC 3 63) (BitVec.ofNat 64 (2 ^ 29)), ?_, ?_, ?_⟩, ?_, ⟨device.setF (Reg.PCIE_MSI 3) Fld.PCIE_MSI_BASE 0, ?_, ?_⟩⟩ <;> decide +kernel

/-- Core 0 of the platform, which owns the page of IOMMU 3 too, with an entry's attribute. -/
def iomCore (rte : Word) : State := (platformCore.wr (Reg.BLK_OWNER (pageIOM 3)) 5#64).wr (Reg.IOM_RTE 3 63) rte

/-- An invalidation of port 3 that runs, with entry 63 to answer. -/
def invalidating (v : Word) : State :=
  let s : State := { bound booted with io := { booted.io with atsWait := [(3, 63)], iotlb := [⟨3, 63, 0x3000, 0x3000, 0x3000, 4096, true, true, true, true, .wb⟩] } }
  (s.wr (Reg.IOM_INV 3) v).setF (Reg.IOM_INV_STAT 3) Fld.IOM_INV_STAT_STATE 1

theorem witness_TheIommuIsConfiguredAndInvalidated :
    (∃ (s : State) (w : Who), Performed s (.core 0) w (Reg.IOM_RTE 3 63) ∧ s.platHOrW w = true ∧ w.wOrBoot = false ∧
      s.rteAttr 3 63 % 64 = 63) ∧
    (∃ (s : State) (w : Who), Performed s (.core 0) w (Reg.IOM_RTE 3 63) ∧ s.platHOrW w = true ∧
      s.isF (Reg.IOM_RTE 3 63) Fld.IOM_RTE_EN = true ∧ (s.rd (Reg.IOM_RTE 3 63)).toNat % 2 ^ 40 ≠ (0x700FFFF0006#64).toNat % 2 ^ 40) ∧
    (∃ (s : State) (w : Who), Performed s (.core 0) w (Reg.IOM_RTE 3 63) ∧ s.platHOrW w = true ∧
      s.isF (Reg.IOM_RTE 3 63) Fld.IOM_RTE_EN = false ∧ s.attrMayChange w (s.rteAttr 3 63) 5 = true) ∧
    (∃ (s : State) (w : Who), Performed s (.core 0) w (Reg.IOM_INV 3) ∧ w.hOrW (s.rteCid 3 63) = false) ∧
    (∃ (s : State) (w : Who), Performed s .boot w (Reg.IOM_INV 3) ∧ s.platHOrW w = true ∧ s.getF (Reg.IOM_INV_STAT 3) Fld.IOM_INV_STAT_STATE = 1) ∧
    (∃ (s : State) (w : Who), Performed s .boot w (Reg.IOM_INV 3) ∧ w.hOrW (s.rteCid 3 63) = true ∧
      s.getF (Reg.IOM_INV_STAT 3) Fld.IOM_INV_STAT_STATE ≠ 1) ∧
    (∃ s : State, s.getF (Reg.IOM_INV_STAT 3) Fld.IOM_INV_STAT_STATE = 1 ∧ (3, 63) ∈ s.io.atsWait) ∧ (∀ x ∈ State.reset.io.atsWait, x.1 ≠ 3) ∧
    (∃ (s : State) (w : Who), Performed s .boot w (Reg.IOM_PRGR 3) ∧ s.bindRid 3 6 = none) ∧
    (∃ (s : State) (w : Who), Performed s .boot w (Reg.IOM_PRGR 3) ∧ s.bindRid 3 5 = some 63 ∧ s.isF (Reg.IOM_RTE 3 63) Fld.IOM_RTE_PRI = true ∧
      w.hOrW (s.rteCid 3 63) = true) := by
  refine ⟨⟨iomCore 0x3F00000000#64, (iomCore 0x3F00000000#64).whoCore 0, ⟨rfl, ?_⟩, ?_, ?_, ?_⟩,
    ⟨iomCore 0x700FFFF0005#64, (iomCore 0x700FFFF0005#64).whoCore 0, ⟨rfl, ?_⟩, ?_, ?_, ?_⟩,
    ⟨iomCore 0#64, (iomCore 0#64).whoCore 0, ⟨rfl, ?_⟩, ?_, ?_, ?_⟩, ⟨iomCore 0x700#64, (iomCore 0x700#64).whoCore 0, ⟨rfl, ?_⟩, ?_⟩,
    ⟨invalidating 0#64, _, ⟨rfl, ?_⟩, ?_, ?_⟩, ⟨bound booted, _, ⟨rfl, ?_⟩, ?_, ?_⟩, ⟨invalidating 0#64, ?_, ?_⟩, ?_,
    ⟨bound booted, _, ⟨rfl, ?_⟩, ?_⟩, ⟨bound booted, _, ⟨rfl, ?_⟩, ?_, ?_, ?_⟩⟩ <;> decide +kernel

/-- The last vector's event held for queue 3. -/
def heldEvent (attr : Nat) : Held := ⟨⟨8191, attr, 0, 0, 0, 0#64⟩, 3⟩
def holding (attr : Nat) : State := { booted with io := { held := [heldEvent attr] } }

theorem witness_HeldEventsPinsAndLinkFaults :
    (∀ b, ∃ (s : State) (h : Held), s.io.held = [h] ∧ h.ev.vec / 4096 % 2 = 1 ∧ s.wardenWait (h.ev.attr % 64) = b) ∧
    (∃ (s : State) (w : Who) (h : Held), Performed s .boot w (irtKey 8191) ∧ s.platHOrW w = true ∧
      s.attrMayChange w (s.getF (irtKey 8191) Fld.IRT_ATTR) (5#8).toNat = true ∧ s.isF (irtKey 8191) Fld.IRT_MODE = true ∧
      s.io.held = [h] ∧ h.ev.vec = 8191 ∧ h.ev.attr ≠ (5#8).toNat % 128) ∧
    (∃ s : State, s.isF (Reg.GPIO_PIN 15) Fld.GPIO_PIN_IN ≠ true ∧ (s.getF (Reg.GPIO_PIN 15) Fld.GPIO_PIN_EDGE).testBit 0 = true ∧
      s.isF (Reg.GPIO_PIN 15) Fld.GPIO_PIN_DIR = false) ∧
    (∃ s : State, s.isF (Reg.GPIO_PIN 15) Fld.GPIO_PIN_IN ≠ false ∧ (s.getF (Reg.GPIO_PIN 15) Fld.GPIO_PIN_EDGE).testBit 1 = true ∧
      s.isF (Reg.GPIO_PIN 15) Fld.GPIO_PIN_DIR = false) ∧
    (∃ s : State, s.isF (Reg.GPIO_PIN 15) Fld.GPIO_PIN_IN = true) ∧ (∃ s : State, s.isF (Reg.GPIO_PIN 15) Fld.GPIO_PIN_DIR = true) ∧
    (∃ s : State, s.link 3 3 = 2) ∧ (∃ s : State, s.link 3 3 = 1) ∧ (∃ s : State, s.poolSize none < s.committed none + 30) ∧
    (∃ s : State, s.linkCount 3 ≤ 3) ∧
    (∃ s : State, s.link 3 3 ≠ 2 ∧ 3 < s.linkCount 3 ∧ s.committed none + 30 ≤ s.poolSize none ∧ s.holdsLeave (.pcie 3) = false) := by
  refine ⟨fun b => ⟨holding (if b then 63 else 5) |>.setF Reg.WDN_STAT Fld.WDN_STAT_STATE 2, heldEvent (if b then 63 else 5), rfl, ?_, ?_⟩,
    ⟨(holding 0).setF (irtKey 8191) Fld.IRT_MODE 1, _, heldEvent 0, ⟨rfl, ?_⟩, ?_, ?_, ?_, rfl, rfl, ?_⟩,
    ⟨(booted.setF (Reg.GPIO_PIN 15) Fld.GPIO_PIN_EDGE 3).setF (Reg.GPIO_PIN 15) Fld.GPIO_PIN_IN 0, ?_, ?_, ?_⟩,
    ⟨(booted.setF (Reg.GPIO_PIN 15) Fld.GPIO_PIN_EDGE 3).setF (Reg.GPIO_PIN 15) Fld.GPIO_PIN_IN 1, ?_, ?_, ?_⟩,
    ⟨booted.setF (Reg.GPIO_PIN 15) Fld.GPIO_PIN_IN 1, ?_⟩, ⟨booted.setF (Reg.GPIO_PIN 15) Fld.GPIO_PIN_DIR 1, ?_⟩,
    ⟨booted.setLink 3 3 2, ?_⟩, ⟨booted.setLink 3 3 1, ?_⟩, ⟨State.reset.setF Reg.RMT_LIM Fld.RMT_LIM_PLAT 29, ?_⟩,
    ⟨booted, ?_⟩,
    ⟨{ booted.setF Reg.RMT_LIM Fld.RMT_LIM_PLAT 414 with io := { bifNow := [(3, 3)] } }, ?_, ?_, ?_, ?_⟩⟩ <;> (try cases b) <;> decide +kernel

/-! ### The DMA engines -/

/-- A job: its operation, source, destination, length, completion address and command word. -/
def job (op src dst len : Nat) (rest : List Word) : DmaJob :=
  ⟨[BitVec.ofNat 64 op, BitVec.ofNat 64 src, BitVec.ofNat 64 dst, BitVec.ofNat 64 len, 0xFFFFFFFF#64] ++ rest, 7, 0⟩
/-- Engine 63 with a job, and line 0xC0 in the L3; the trees of the caches are open. -/
def moving (x : CLine) (j : DmaJob) (q : List (Nat × Nat) := []) : State :=
  plru ((lineAt x).setJob 63 (some j)) q

theorem moving_reach (x : CLine) (j : DmaJob) (q : List (Nat × Nat)) (hj : j.cid = 0) :
    (moving x j q).toSlice (dmaReq 63 j) (0xC0 * 64) = (moving x j q, none) := by
  have h : ∀ w, w < 142 → (moving x j q).hasSlot w 0 false = true := slots_all
  have hc : (moving x j q).colorOK 0 (0xC0 * 64) = true := by
    have : (slots (on { cpu [] with perf := {} }) 0x40#64).colorOK 0 (0xC0 * 64) = true := by decide +kernel
    exact this
  refine slots_reach _ _ _ (by rw [show (dmaReq 63 j).cid = 0 from hj]; exact h) (show 8 + 63 / 32 < 11 by decide) ?_ rfl rfl
    (by rw [show (dmaReq 63 j).cid = 0 from hj]; exact hc) (by decide) (by decide)
  intro y hy
  cases hy
  decide

theorem moving_inject (x : CLine) (j : DmaJob) (q : List (Nat × Nat)) :
    (moving x j q).takeInject (pageL3S (sliceOf (0xC0 * 64))) 0 = (none, moving x j q) := by
  have c : (slots (on { cpu [] with perf := {} }) 0x40#64).isF (Reg.ERR_INJECT (pageL3S (sliceOf (0xC0 * 64)))) Fld.ERR_INJECT_ARM = false := by decide +kernel
  have r : ∀ k, (moving x j q).rd k = (slots (on { cpu [] with perf := {} }) 0x40#64).rd k := fun _ => rfl
  unfold State.takeInject
  simp only [State.isF, State.getF, r] at c ⊢
  simp only [c]
  rfl

theorem moving_read (x : CLine) (j : DmaJob) (hj : j.cid = 0) (hm : ∀ k ∈ x.copies, k.st ≠ .m) :
    ∃ q, (moving x j).dmaRead (dmaReq 63 j) 0xC0 = (moving x.downgrade j q, .ok (x.downgrade.data, x.downgrade.poison)) := by
  obtain ⟨q, h⟩ := dmaRead_present (moving x j) (dmaReq 63 j) 0xC0 x (moving_reach x j [] hj) rfl
    (by rw [show (dmaReq 63 j).cid = 0 from hj]; exact moving_inject x j []) hm
  exact ⟨q, h⟩

theorem moving_write (x : CLine) (j : DmaJob) (hj : j.cid = 0) (hm : ∀ k ∈ x.copies, k.st ≠ .m) (q : List (Nat × Nat)) (d : BitVec 512)
    (m : BitVec 64) (p : Bool) : ∃ v, (moving x j q).dmaWrite (dmaReq 63 j) 0xC0 d m p = (v, none) :=
  dmaWrite_present _ _ _ _ _ _ x (moving_reach x j q hj) rfl hm

def fillJob : DmaJob := job 1 0x1122334455667788 0x303F 1 []
def crcJob : DmaJob := job 3 0x3000 0 64 []
def copyJob (op : Nat) : DmaJob := job op 0x3000 0x3020 32 []
theorem moving_xlat (x : CLine) (j : DmaJob) (q : List (Nat × Nat)) : (moving x j q).forcedF (Reg.DMA_XLAT 63) Fld.DMA_XLAT_EN = 0 := by
  have c : (slots (on { cpu [] with perf := {} }) 0x40#64).forcedF (Reg.DMA_XLAT 63) Fld.DMA_XLAT_EN = 0 := by decide +kernel
  exact c

theorem witness_DmaEnginesTakeAndRunJobs :
    (∃ s : State, s.isF (Reg.DMA_CTL 63) Fld.DMA_CTL_EN = false) ∧
    (∃ s : State, s.isF (Reg.DMA_CTL 63) Fld.DMA_CTL_EN = true ∧ s.dmaJob 63 = none ∧ 63 ∉ s.io.dmaStop) ∧
    (∃ s : State, s.inRange (s.dmaCid 63) 0x3FFFF = false) ∧ (∃ s : State, s.dmaJob 63 = none) ∧
    (∀ op < 4, ∃ (s : State) (j : DmaJob), s.dmaJob 63 = some j ∧ j.op = op ∧ j.reserved = true) ∧
    (∀ op < 4, ∃ (s : State) (j : DmaJob), s.dmaJob 63 = some j ∧ j.op = op ∧ j.reserved = false ∧ 63 ∈ s.io.dmaStop) ∧
    (∀ op < 4, ∃ (s : State) (j : DmaJob), s.dmaJob 63 = some j ∧ j.op = op ∧ j.reserved = false ∧ 63 ∉ s.io.dmaStop ∧ j.len = 0) ∧
    (∃ (s u : State) (j : DmaJob), s.dmaJob 63 = some j ∧ j.reserved = false ∧ 63 ∉ s.io.dmaStop ∧ s.forcedF (Reg.DMA_XLAT 63) Fld.DMA_XLAT_EN = 0 ∧
      0 < j.len ∧ j.op = 1 ∧ j.dst % 64 + j.len = 64 ∧ s.dmaTarget (some 63) j.dst .wb = .ok .mem ∧
      s.dmaWrite (dmaReq 63 j) (j.dst / 64) (BitVec.ofNat 512 (bytesToNat ((natsFrom 0 j.len).map
          (fun i => patternByte j.src (j.dst + i))) <<< (8 * (j.dst % 64)))) (maskBytes (j.dst % 64) j.len) false = (u, none)) ∧
    (∀ p, ∃ (s u : State) (j : DmaJob) (d : BitVec 512), s.dmaJob 63 = some j ∧ j.reserved = false ∧ 63 ∉ s.io.dmaStop ∧
      s.forcedF (Reg.DMA_XLAT 63) Fld.DMA_XLAT_EN = 0 ∧ 0 < j.len ∧ j.op = 3 ∧ j.src % 64 + j.len = 64 ∧
      s.dmaTarget (some 63) j.src .wb = .ok .mem ∧ s.dmaRead (dmaReq 63 j) (j.src / 64) = (u, .ok (d, p))) ∧
    (∀ op, op = 0 ∨ op = 2 → ∀ p, ∃ (s u v : State) (j : DmaJob) (d : BitVec 512), s.dmaJob 63 = some j ∧ j.reserved = false ∧ 63 ∉ s.io.dmaStop ∧
      s.forcedF (Reg.DMA_XLAT 63) Fld.DMA_XLAT_EN = 0 ∧ 0 < j.len ∧ j.op = op ∧ j.src % 64 + j.len ≤ 64 ∧ j.dst % 64 + j.len ≤ 64 ∧
      s.dmaTarget (some 63) j.src .wb = .ok .mem ∧ s.dmaRead (dmaReq 63 j) (j.src / 64) = (u, .ok (d, p)) ∧
      u.forcedF (Reg.DMA_XLAT 63) Fld.DMA_XLAT_EN = 0 ∧ u.dmaTarget (some 63) j.dst .wb = .ok .mem ∧
      u.dmaWrite (dmaReq 63 j) (j.dst / 64) (BitVec.ofNat 512 (bytesToNat (natToBytes j.len (d.toNat >>> (8 * (j.src % 64)))) <<< (8 * (j.dst % 64))))
          (maskBytes (j.dst % 64) j.len) p = (v, none)) ∧
    (∃ (s : State) (j : DmaJob), j.caddr = 0 ∧ (j.at 0x30).testBit 18 = false ∧ 63 ∈ s.io.dmaStop) ∧
    (∃ (s : State) (w : Who), Performed s .boot w (Reg.DMA_ATTR 63) ∧ s.attrMayChange w (s.getF (Reg.DMA_ATTR 63) Fld.DMA_ATTR_ATTR) 0x45 = false) ∧
    (∃ (s : State) (w : Who), Performed s .boot w (Reg.DMA_ATTR 63) ∧ s.attrMayChange w (s.getF (Reg.DMA_ATTR 63) Fld.DMA_ATTR_ATTR) 5 = true ∧
      s.dmaJob 63 ≠ none) ∧
    (∃ (s : State) (w : Who), Performed s .boot w (Reg.DMA_ATTR 63) ∧ s.attrMayChange w (s.getF (Reg.DMA_ATTR 63) Fld.DMA_ATTR_ATTR) 5 = true ∧
      s.dmaJob 63 = none ∧ ∀ e ∈ s.latched, e.1 ≠ Reg.DMA_ATTR 63) := by
  have clean : ∀ k ∈ shared.copies, k.st ≠ .m := by decide
  have dclean : ∀ x : CLine, ∀ k ∈ x.downgrade.copies, k.st ≠ .m := by
    intro x k hk
    obtain ⟨e, -, rfl⟩ := List.mem_map.1 hk
    exact (by decide : Mesi.s ≠ .m)
  have pz : ∀ p : Bool, ∃ x : CLine, x.downgrade.poison = p ∧ ∀ k ∈ x.copies, k.st ≠ .m := fun p => ⟨{ shared with poison := p }, by cases p <;> rfl, fun k hk => clean k hk⟩
  refine ⟨⟨booted, ?_⟩, ⟨booted.setF (Reg.DMA_CTL 63) Fld.DMA_CTL_EN 1, ?_, ?_, ?_⟩, ⟨booted, ?_⟩, ⟨booted, ?_⟩,
    fun op h => ⟨booted.setJob 63 (some (job op 0 0 0 [0#64, 0x80000#64])), _, rfl, ?_, ?_⟩,
    fun op h => ⟨({ booted with io := { booted.io with dmaStop := [63] } } : State).setJob 63 (some (job op 0 0 0 [])), _, rfl, ?_, ?_, ?_⟩,
    fun op h => ⟨booted.setJob 63 (some (job op 0 0 0 [])), _, rfl, ?_, ?_, ?_, ?_⟩, ?fill, ?crc, ?copy,
    ⟨{ booted with io := { booted.io with dmaStop := [63] } }, crcJob, ?_, ?_, ?_⟩, ⟨booted, _, ⟨rfl, ?_⟩, ?_⟩,
    ⟨booted.setJob 63 (some crcJob), _, ⟨rfl, ?_⟩, ?_, ?_⟩, ⟨booted, _, ⟨rfl, ?_⟩, ?_, ?_, ?_⟩⟩
  case fill =>
    obtain ⟨v, hv⟩ := moving_write shared fillJob rfl clean [] (BitVec.ofNat 512 (bytesToNat ((natsFrom 0 1).map
          (fun i => patternByte fillJob.src (0x303F + i))) <<< (8 * (0x303F % 64)))) (maskBytes (0x303F % 64) 1) false
    exact ⟨moving shared fillJob, v, fillJob, rfl, by decide +kernel, by decide +kernel, moving_xlat _ _ _, by decide, rfl, rfl, rfl, hv⟩
  case crc =>
    intro p
    obtain ⟨x, rfl, hx⟩ := pz p
    obtain ⟨q, hr⟩ := moving_read x crcJob rfl hx
    exact ⟨moving x crcJob, _, crcJob, _, rfl, by decide +kernel, (by decide : 63 ∉ ([] : List Nat)), moving_xlat _ _ _, by decide, rfl, rfl, rfl, hr⟩
  case copy =>
    rintro op hop p
    have e1 : (copyJob op).src = 0x3000 := rfl
    have e2 : (copyJob op).dst = 0x3020 := rfl
    have e3 : (copyJob op).len = 32 := rfl
    obtain ⟨x, rfl, hx⟩ := pz p
    obtain ⟨q, hr⟩ := moving_read x (copyJob op) rfl hx
    obtain ⟨v, hv⟩ := moving_write x.downgrade (copyJob op) rfl (dclean x) q (BitVec.ofNat 512 (bytesToNat (natToBytes 32 (x.downgrade.data.toNat >>> (8 * (0x3000 % 64)))) <<<
      (8 * (0x3020 % 64)))) (maskBytes (0x3020 % 64) 32) x.downgrade.poison
    exact ⟨moving x (copyJob op), moving x.downgrade (copyJob op) q, v, copyJob op, x.downgrade.data, rfl, by rcases hop with rfl | rfl <;> decide +kernel, (by decide : 63 ∉ ([] : List Nat)), moving_xlat _ _ _, (by decide : 0 < 32),
      by rcases hop with rfl | rfl <;> rfl, (by decide : 0x3000 % 64 + 32 ≤ 64), (by decide : 0x3020 % 64 + 32 ≤ 64), rfl, by rw [e1]; exact hr, moving_xlat _ _ _, rfl, by rw [e1, e2, e3]; exact hv⟩
  all_goals first | decide +kernel | (revert op; decide +kernel)

/-! ### The fabric's links -/

/-- Node 3, every port up, port 4 the parent's and port 5 the other; as a ring of 8 nodes where `ring`. -/
def linked (ring : Bool) (s : State) : State :=
  let s := (natsFrom 0 6).foldl (fun s p => s.setFabState p 2) s
  s.wr Reg.FABG_NODE (BitVec.ofNat 64 (3 + 4 * 2 ^ 18 + 5 * 2 ^ 21 + (if ring then 2 ^ 24 else 0) + 2 ^ 25 + 8 * 2 ^ 26))

/-- A frame of a type and VC, with `n` payload bytes, from node 7 for `dst`. -/
def frame (typ : BitVec 8) (vc : BitVec 2) (n : Nat) (dst : Nat) : Frame :=
  { typ := typ, vc := vc, ncell := BitVec.ofNat 4 (n / 32), seq := 0#12, dst := BitVec.ofNat 18 dst, src := 7#18, fdom := 9#16, tag := 2#16,
    opid := 1#16, aux := 0#8, addr := 0#64, opnd := 0#64, payload := List.replicate n 0xAB#8 }

/-- Port 5 as given. -/
def port5 (x : FabPort) : State := (linked false booted).setFabPort 5 x

theorem witness_FramesAreSequencedReplayedAndCredited :
    (∃ s : State, (s.fabPort 5).waitq = []) ∧ (∃ s : State, s.fabUp 5 = true) ∧ (∃ s : State, s.fabUp 5 = false) ∧
    (∃ s : State, ∀ f ∈ (s.fabPort 5).replay, f.seq ≠ 4095#12) ∧
    (∃ s : State, (∃ f ∈ (s.fabPort 5).replay, f.seq = 4095#12) ∧ (s.fabPort 5).waitq = []) ∧
    (∃ s : State, (s.fabPort 5).credits.length = 4 ∧ (s.fabPort 5).waitq = []) ∧
    (∃ (s : State) (f : Frame), (s.fabPort 5).credits.length = 4 ∧ (s.fabPort 5).waitq = [f] ∧ f.vc.toNat = 0 ∧
      s.fabUp 5 = true ∧ f.ncell.toNat + 2 = min 512 ((s.fabPort 5).credits.getD 0 0 + (10#16).toNat) ∧ (s.fabPort 5).replay.length < 2048 ∧
      (s.fabPort 5).replay.foldl (fun a g => a + (g.ncell.toNat + 2)) 0 + (f.ncell.toNat + 2) ≤ 4096) ∧
    (∃ (s : State) (f : Frame), (s.fabPort 5).credits.length = 4 ∧ (s.fabPort 5).waitq = [f] ∧ f.vc.toNat = 0 ∧ s.fabUp 5 = true ∧
      4096 < (s.fabPort 5).replay.foldl (fun a g => a + (g.ncell.toNat + 2)) 0 + (f.ncell.toNat + 2)) ∧
    (∃ (s : State) (f : Frame), (s.fabPort 5).credits.length = 4 ∧ (s.fabPort 5).waitq = [f] ∧ f.vc.toNat = 0 ∧ s.fabUp 5 = true ∧
      2048 ≤ (s.fabPort 5).replay.length) ∧
    (∃ (s : State) (f : Frame), (s.fabPort 5).credits.length = 4 ∧ (s.fabPort 5).waitq = [f] ∧ f.vc.toNat = 0 ∧ s.fabUp 5 = true ∧
      min 512 ((s.fabPort 5).credits.getD 0 0 + (9#16).toNat) < f.ncell.toNat + 2) := by
  refine ⟨⟨port5 {}, ?_⟩, ⟨port5 {}, ?_⟩, ⟨booted, ?_⟩, ⟨port5 { replay := [frame 1#8 0#2 256 3] }, ?_⟩,
    ⟨port5 { replay := [{ frame 1#8 0#2 256 3 with seq := 4095#12 }] }, ⟨_, List.mem_singleton_self _, ?_⟩, ?_⟩, ⟨port5 {}, ?_, ?_⟩,
    ⟨port5 { credits := [0, 0, 0, 0], waitq := [frame 1#8 0#2 256 3] }, frame 1#8 0#2 256 3, ?_, ?_, ?_, ?_, ?_, ?_, ?_⟩,
    ⟨port5 { credits := [9, 0, 0, 0], waitq := [frame 1#8 0#2 256 3], replay := List.replicate 409 (frame 1#8 0#2 256 3) },
      frame 1#8 0#2 256 3, ?_, ?_, ?_, ?_, ?_⟩,
    ⟨port5 { credits := [9, 0, 0, 0], waitq := [frame 1#8 0#2 256 3], replay := List.replicate 2048 (frame 1#8 0#2 0 3) },
      frame 1#8 0#2 256 3, ?_, ?_, ?_, ?_, ?_⟩,
    ⟨port5 { credits := [0, 0, 0, 0], waitq := [frame 1#8 0#2 256 3] }, frame 1#8 0#2 256 3, ?_, ?_, ?_, ?_, ?_⟩⟩ <;> decide +kernel

theorem witness_ViolationsAreCountedAndQuarantineThePort :
    (∃ s : State, s.fabUp 5 = false) ∧ (∃ s : State, s.fabUp 5 = true) ∧
    (∃ f : Frame, f.typ.toNat ∉ [0x01, 0x02, 0x03, 0x11, 0x12, 0x13, 0x21, 0x22, 0x23, 0x24, 0x25, 0x30, 0x31]) ∧
    (∃ f : Frame, f.typ = 0x21#8 ∧ f.vc.toNat ≠ 2) ∧ (∃ (s : State) (f : Frame), s.frameFault 5 f = 0 ∧ s.ring = true) ∧
    (∃ (s : State) (f : Frame), s.frameFault 5 f = 0 ∧ s.ring = false ∧ s.isF (Reg.FABG_SUB 5) Fld.FABG_SUB_EN = true) ∧
    (∀ ty ∈ [0x01#8, 0x02#8, 0x03#8, 0x11#8, 0x12#8, 0x13#8, 0x21#8, 0x22#8, 0x23#8, 0x24#8],
      ∃ (s : State) (f : Frame), f.typ = ty ∧ s.fabUp 5 = true ∧ s.frameFault 5 f ≠ 0) ∧
    (∃ s : State, s.fabState 5 = 0) ∧ (∃ s : State, s.fabState 5 ≠ 0) ∧
    (∃ s : State, ((s.fabPort 5).viols.filter (fun t => decide (s.now ≤ t + 1000000))).length = 15) ∧
    (∃ s : State, s.fabUp 5 = true ∧ ((s.fabPort 5).viols.filter (fun t => decide (s.now ≤ t + 1000000))).length = 16) := by
  refine ⟨⟨booted, ?_⟩, ⟨port5 {}, ?_⟩, ⟨frame 0x26#8 0#2 0 3, ?_⟩, ⟨frame 0x21#8 3#2 0 3, ?_, ?_⟩, ⟨linked true booted, frame 0x31#8 3#2 0 3, ?_, ?_⟩,
    ⟨(port5 {}).wr (Reg.FABG_SUB 5) (BitVec.ofNat 64 (7 + 7 * 2 ^ 20 + 2 ^ 38)), frame 0x31#8 3#2 0 3, ?_, ?_, ?_⟩,
    fun ty h => ⟨port5 {}, frame ty 3#2 0 3, rfl, ?_, ?_⟩, ⟨booted, ?_⟩, ⟨port5 {}, ?_⟩, ⟨port5 { viols := List.replicate 15 0 }, ?_⟩,
    ⟨port5 { viols := List.replicate 16 0 }, ?_, ?_⟩⟩
  all_goals first | decide +kernel | (revert ty; decide +kernel)

/-- Port 5 enabled in a state of its own, with credits in the platform pool or none. -/
def trained (st pool : Nat) (x : FabPort) : State :=
  ((((port5 x).setFabState 5 st).setF (Reg.FAB_PORT_CTL 5) Fld.FAB_PORT_CTL_EN 1).setF (Reg.FAB_PORT_CTL 5) Fld.FAB_PORT_CTL_MINW 1).setF Reg.RMT_LIM
    Fld.RMT_LIM_PLAT pool

theorem witness_PortsTrainWithLeave :
    (∃ s : State, s.isF (Reg.FAB_PORT_CTL 5) Fld.FAB_PORT_CTL_EN = false) ∧ (∃ s : State, s.fabState 5 ∉ [0, 1, 4]) ∧
    (∃ s u : State, s.isF (Reg.FAB_PORT_CTL 5) Fld.FAB_PORT_CTL_EN = true ∧ s.fabState 5 = 1 ∧ s.askLeave (.fabric 5) = (u, false)) ∧
    (∀ st ∈ [0, 1, 4], ∃ s u : State, s.isF (Reg.FAB_PORT_CTL 5) Fld.FAB_PORT_CTL_EN = true ∧ s.fabState 5 = st ∧ s.ring = false ∧
      s.askLeave (.fabric 5) = (u, true) ∧ (s.fabPort 5).tries = 2) ∧
    (∃ s u : State, s.isF (Reg.FAB_PORT_CTL 5) Fld.FAB_PORT_CTL_EN = true ∧ s.fabState 5 = 4 ∧ s.askLeave (.fabric 5) = (u, true) ∧
      (s.fabPort 5).tries = 1) ∧
    (∃ (s : State) (w : Who), Performed s .boot w (Reg.FAB_PORT_CTL 5) ∧ s.fabState 5 = 3) ∧
    (∃ (s : State) (w : Who), Performed s .boot w (Reg.FAB_PORT_CTL 5) ∧ s.fabState 5 = 2) ∧
    (∃ (s : State) (w : Who), Performed s .boot w (Reg.FAB_PORT_CTL 5) ∧ s.fabState 5 = 5) ∧
    (∃ s u : State, s.isF (Reg.FAB_PORT_CTL 5) Fld.FAB_PORT_CTL_EN = true ∧ s.fabState 5 = 4 ∧ s.askLeave (.fabric 5) = (u, false)) ∧
    (∃ s : State, s.fabUp 5 = true ∧ 1 = s.getF (Reg.FAB_PORT_CTL 5) Fld.FAB_PORT_CTL_MINW ∧ s.getF (Reg.FAB_PORT_STAT 5) Fld.FAB_PORT_STAT_WIDTH ≠ 1) ∧
    (∃ s : State, s.fabUp 5 = true ∧ s.getF (Reg.FAB_PORT_CTL 5) Fld.FAB_PORT_CTL_MINW < 2) := by
  have no : ∃ u, (trained 1 0 {}).askLeave (.fabric 5) = (u, false) := bool_pair _ _ (by decide +kernel)
  have yes : ∀ st ∈ [0, 1, 4], ∃ u, (trained st 2000 { tries := 2 }).askLeave (.fabric 5) = (u, true) := by
    intro st h
    exact bool_pair _ _ (by revert st; decide +kernel)
  obtain ⟨u, hu⟩ := no
  obtain ⟨u4, hu4⟩ : ∃ u, (trained 4 0 {}).askLeave (.fabric 5) = (u, false) := bool_pair _ _ (by decide +kernel)
  obtain ⟨v, hv⟩ : ∃ v, (trained 4 2000 { tries := 1 }).askLeave (.fabric 5) = (v, true) := bool_pair _ _ (by decide +kernel)
  refine ⟨⟨booted, ?_⟩, ⟨trained 5 0 {}, ?_⟩, ⟨trained 1 0 {}, u, ?_, ?_, hu⟩, ?ask, ⟨trained 4 2000 { tries := 1 }, v, ?_, ?_, hv, ?_⟩, ⟨trained 3 0 {}, _, ⟨rfl, ?_⟩, ?_⟩,
    ⟨trained 2 0 {}, _, ⟨rfl, ?_⟩, ?_⟩, ⟨trained 5 0 {}, _, ⟨rfl, ?_⟩, ?_⟩, ⟨trained 4 0 {}, u4, ?_, ?_, hu4⟩, ⟨trained 2 0 {}, ?_, ?_, ?_⟩, ⟨trained 2 0 {}, ?_, ?_⟩⟩
  case ask =>
    intro st h
    obtain ⟨u, hu⟩ := yes st h
    have f : ∀ st ∈ [0, 1, 4], (trained st 2000 { tries := 2 }).isF (Reg.FAB_PORT_CTL 5) Fld.FAB_PORT_CTL_EN = true ∧
      (trained st 2000 { tries := 2 }).fabState 5 = st ∧ (trained st 2000 { tries := 2 }).ring = false ∧
      ((trained st 2000 { tries := 2 }).fabPort 5).tries = 2 := by decide +kernel
    obtain ⟨f1, f2, f3, f4⟩ := f st h
    exact ⟨_, u, f1, f2, f3, hu, f4⟩
  all_goals decide +kernel

/-- The timebase with its exchange in a state, a time after the last exchange. -/
def synced (st ns : Nat) : State :=
  { (linked false booted).setF Reg.FABG_SYNC Fld.FABG_SYNC_STATE st with tb := BitVec.ofNat 64 ns }

theorem witness_TheTimebaseFollowsItsParent :
    (∃ s : State, s.fabUp 5 = false) ∧ (∃ s : State, s.fabUp 5 = true ∧ s.isF Reg.FABG_NODE Fld.FABG_NODE_EN = true) ∧
    (∃ s : State, s.isF Reg.FABG_NODE Fld.FABG_NODE_EN = true ∧ s.fabState 5 ≠ 0 ∧ 5 ≠ s.upPort) ∧
    (∃ s : State, s.isF Reg.FABG_NODE Fld.FABG_NODE_EN = true ∧ s.fabState 4 ≠ 0 ∧ s.isF Reg.FABG_SYNC Fld.FABG_SYNC_MASTER = true) ∧
    (∃ s : State, s.isF Reg.FABG_NODE Fld.FABG_NODE_EN = true ∧ s.fabState 4 ≠ 0 ∧ 4 = s.upPort ∧ s.isF Reg.FABG_SYNC Fld.FABG_SYNC_MASTER = false ∧
      100 = s.slewMax) ∧
    (∃ s : State, s.isF Reg.FABG_NODE Fld.FABG_NODE_EN = true ∧ s.fabState 4 ≠ 0 ∧ 4 = s.upPort ∧ s.isF Reg.FABG_SYNC Fld.FABG_SYNC_MASTER = false ∧
      s.ledger.metering = true ∧ s.ledger.closing = none ∧ s.tb.toNat + 50 = 60000000000 ∧ 100 ≤ s.slewMax) ∧
    (∃ s : State, s.getF Reg.FABG_SYNC Fld.FABG_SYNC_STATE ∉ [0, 1]) ∧
    (∃ s : State, s.getF Reg.FABG_SYNC Fld.FABG_SYNC_STATE = 0 ∧ s.alone = true) ∧
    (∃ s : State, s.getF Reg.FABG_SYNC Fld.FABG_SYNC_STATE = 0 ∧ s.alone = false ∧ s.isF Reg.FABG_SYNC Fld.FABG_SYNC_MASTER = false ∧
      s.fab.lastSync + 10000000 = s.now) ∧ (∃ s : State, s.now < s.fab.lastSync + 10000000) ∧
    (∃ s : State, s.getF Reg.FABG_SYNC Fld.FABG_SYNC_STATE = 1 ∧ s.isF Reg.FABG_SYNC Fld.FABG_SYNC_MASTER = false ∧ s.fab.lastSync + 10000000 = s.now) ∧
    (∃ s : State, s.getF Reg.FABG_SYNC Fld.FABG_SYNC_STATE ≠ 2) ∧ (∃ s : State, s.now < s.fab.lastSync + 60010000000) ∧
    (∃ s : State, s.getF Reg.FABG_SYNC Fld.FABG_SYNC_STATE = 2 ∧ s.fab.lastSync + 60010000000 = s.now) := by
  refine ⟨⟨booted, ?_⟩, ⟨synced 1 0, ?_, ?_⟩, ⟨synced 1 0, ?_, ?_, ?_⟩, ⟨(synced 1 0).setF Reg.FABG_SYNC Fld.FABG_SYNC_MASTER 1, ?_, ?_, ?_⟩,
    ⟨synced 3 0, ?_, ?_, ?_, ?_, ?_⟩,
    ⟨{ synced 3 59999999950 with ledger := { metering := true } }, ?_, ?_, ?_, ?_, rfl, rfl, ?_, ?_⟩, ⟨synced 3 0, ?_⟩, ⟨booted, ?_, ?_⟩, ⟨synced 0 10000000, ?_, ?_, ?_, ?_⟩, ⟨synced 1 9999999, ?_⟩, ⟨synced 1 10000000, ?_, ?_, ?_⟩, ⟨synced 1 0, ?_⟩, ⟨synced 2 60009999999, ?_⟩,
    ⟨synced 2 60010000000, ?_, ?_⟩⟩ <;> decide +kernel

/-! ### What the fabric carries -/

/-- Node 3 with compartment 5's queues, a slot of it on every wheel, domain 9, and its window 15 over all its memory. -/
def node (ring : Bool) (k : Core) : State :=
  let s := (linked ring (slots (queued k) 0x45#64)).wr (Reg.FXC_ACC 5) (BitVec.ofNat 64 (9 + 2 ^ 16))
  (s.wr (Reg.FXC_WIN_CTL 5 15) 7#64).wr (Reg.FXC_WIN_SIZE 5 15) (BitVec.ofNat 64 (2 ^ 40 - 1))

/-- The node behind a frame taken at port 5. -/
def taken (s : State) : State := s.setFabPort 5 { s.fabPort 5 with expect := 1 }

theorem taken_of (s : State) (f : Frame) (ty : BitVec 8) (h1 : s.fabUp 5 = true) (h2 : f.typ = ty) (h3 : s.frameFault 5 f = 0)
    (h4 : f.seq.toNat = (s.fabPort 5).expect) (h5 : (s.fabPort 5).expect = 0) : Taken s 5 f ty (taken s) := by
  refine ⟨h1, h2, h3, h4, ?_⟩
  show taken s = s.setFabPort 5 { s.fabPort 5 with expect := ((s.fabPort 5).expect + 1) % 4096 }
  rw [h5]
  rfl

theorem hasSlot_setLine (s : State) (l : Nat) (x : Option CLine) (w c : Nat) (d : Bool) : (s.setLine l x).hasSlot w c d = s.hasSlot w c d := by
  cases x <;> rfl

theorem node_slots : ∀ w, w < 142 → (node false (cpu [])).hasSlot w 5 false = true := by decide +kernel

/-- The descriptor of queue 0 with a control word, and the RKEY 0. -/
def remoteQ (ctl : Nat) : State :=
  (node false (cpu [])).setLine 0 (some ⟨BitVec.ofNat 512 (0x40000 * 2 ^ 64 + ctl), false, false, 0, 0, []⟩)

theorem remoteQ_desc (ctl : Nat) (h : ctl = 0xA2001 ∨ ctl = 0xA2201 ∨ ctl = 0xA2205) : ∃ u d, (remoteQ ctl).readDesc (fabReq 5 5 none) 5 0 = (u, .ok d) ∧
    d.encoded = true ∧ d.cid = 5 ∧ d.rkey = 0#64 ∧ d.ctl = BitVec.ofNat 64 ctl := by
  have hs : ∀ w, w < 142 → (remoteQ ctl).hasSlot w 5 false = true := fun w hw => by
    rw [remoteQ, hasSlot_setLine]
    exact node_slots w hw
  have hr : (remoteQ ctl).toSlice (fabReq 5 5 none) (0 * 64) = (remoteQ ctl, none) :=
    slots_reach _ _ _ hs (by decide) (by rintro x ⟨⟩; decide) (by rcases h with rfl | rfl | rfl <;> decide +kernel)
      (by rcases h with rfl | rfl | rfl <;> decide +kernel) (by rcases h with rfl | rfl | rfl <;> decide +kernel) (by decide) (by decide)
  obtain ⟨q, hd⟩ := dmaRead_present (remoteQ ctl) (fabReq 5 5 none) 0 ⟨BitVec.ofNat 512 (0x40000 * 2 ^ 64 + ctl), false, false, 0, 0, []⟩ hr rfl
    (by
      have c : (remoteQ ctl).isF (Reg.ERR_INJECT (pageL3S (sliceOf (0 * 64)))) Fld.ERR_INJECT_ARM = false := by
        rcases h with rfl | rfl | rfl <;> decide +kernel
      unfold State.takeInject
      simp only [c]
      rfl) (fun _ hk => absurd hk (List.not_mem_nil))
  have hp : (remoteQ ctl).packed 5 ((remoteQ ctl).getF (Reg.QM_DTB 5) Fld.QM_DTB_BASE * 2 ^ 18)
      (64 * (0 - (remoteQ ctl).getF (Reg.QM_RANGE 5) Fld.QM_RANGE_BASE)) = some 0 := by
    rcases h with rfl | rfl | rfl <;> decide +kernel
  unfold State.readDesc
  simp only [hp, Nat.zero_div]
  rw [show (0 : Nat) * 64 = 0 from rfl] at *
  rw [hd]
  refine ⟨_, _, rfl, ?_⟩
  rcases h with rfl | rfl | rfl <;> decide +kernel

/-- Core 0 that waits for the answer to remote push 1. -/
def pushingCpu : Core := { cpu [5#64] with run := .pushing, remote := some 1#16 }

theorem witness_FramesAreRoutedAndRemotePushesChecked :
    (∀ dn up : Bool, ∃ s : State, s.ring = true ∧ 7 ≠ s.node ∧ 0 < s.getF Reg.FABG_NODE Fld.FABG_NODE_RINGN ∧
      s.node < s.getF Reg.FABG_NODE Fld.FABG_NODE_RINGN ∧ 7 < s.getF Reg.FABG_NODE Fld.FABG_NODE_RINGN ∧ s.fabUp s.dnPort = dn ∧ s.fabUp s.upPort = up ∧ s.fabLive s.dnPort = dn ∧ s.fabLive s.upPort = up) ∧
    (∃ s : State, s.ring = false ∧ 7 ≠ s.node ∧ (∀ k, k < 6 → s.behind k 7 = false) ∧ s.upPort < 6) ∧
    (∃ s : State, s.ring = false ∧ 7 ≠ s.node ∧ s.behind 5 7 = true ∧ (∀ j, j < 5 → s.behind j 7 = false)) ∧
    (∃ (s t : State) (f : Frame), Taken s 5 f 0x01#8 t ∧ f.dst.toNat ≠ s.node ∧ t.routeTo f.dst.toNat = .port 4 ∧ s.fabUp 4 = true) ∧
    (∃ (s t : State) (f : Frame), Taken s 5 f 0x01#8 t ∧ f.dst.toNat ≠ s.node ∧ t.routeTo f.dst.toNat = .none ∧ s.ring = false) ∧
    (∃ s : State, s.routeTo (frame 1#8 0#2 256 3).src.toNat = .port 4 ∧ s.fabUp 4 = true ∧ s.fabSlot 4 5 = true) ∧
    (∃ (s t u : State) (f : Frame) (st : Nat), Arrived s 5 f 0x01#8 t ∧ t.remotePush (some 5) (f.addr.toNat % 2 ^ 18) f (some f.opnd) = (u, st)) ∧
    (∃ s : State, s.queueComp 0x3FFFF = none) ∧
    (∃ (s u : State) (d : Desc), s.queueComp 0 = some 5 ∧ s.readDesc (fabReq 5 5 none) 5 0 = (u, .ok d) ∧ d.ctl.getLsbD 9 = false) ∧
    (∃ (s u : State) (d : Desc), s.queueComp 0 = some 5 ∧ s.readDesc (fabReq 5 5 none) 5 0 = (u, .ok d) ∧
      ¬(d.encoded = false ∨ d.ctl.getLsbD 9 = false ∨ d.lvl ≠ 0 ∨ d.cid ≠ 5 ∨ (frame 1#8 0#2 256 3).opnd ≠ d.rkey)) ∧
    (∃ (s t : State) (f : Frame), Arrived s 5 f 0x11#8 t ∧ t.pusher f.opid = none) ∧
    (∃ (s t : State) (f : Frame), Arrived s 5 f 0x11#8 t ∧ t.pusher f.opid = some 0) ∧
    (∃ s : State, (s.core 1535).run ≠ .pushing) ∧ (∃ s : State, (s.core 0).run = .pushing ∧ (s.core 0).remote ≠ none) := by
  obtain ⟨u, d, h1, h2, h3, h4, h5⟩ := remoteQ_desc 0xA2001 (by decide)
  obtain ⟨u', d', k1, k2, k3, k4, k5⟩ := remoteQ_desc 0xA2201 (by decide)
  refine ⟨fun dn up => ⟨((linked true booted).setFabState 5 (if dn then 2 else 0)).setFabState 4 (if up then 2 else 0), ?_⟩, ⟨port5 {}, ?_, ?_, ?_, ?_⟩,
    ⟨(port5 {}).wr (Reg.FABG_SUB 5) (BitVec.ofNat 64 (7 + 7 * 2 ^ 20 + 2 ^ 38)), ?_, ?_, ?_, ?_⟩,
    ⟨port5 {}, _, frame 1#8 0#2 256 8, taken_of _ _ _ ?_ ?_ ?_ ?_ ?_, ?_, ?_, ?_⟩,
    ⟨(port5 {}).setF Reg.FABG_NODE Fld.FABG_NODE_UP 7, _, frame 1#8 0#2 256 8, taken_of _ _ _ ?_ ?_ ?_ ?_ ?_, ?_, ?_, ?_⟩,
    ⟨node false (cpu []), ?_, ?_, ?_⟩, ⟨node false (cpu []), _, _, frame 1#8 0#2 256 3, _, ⟨taken_of _ _ _ ?_ ?_ ?_ ?_ ?_, ?_⟩, rfl⟩,
    ⟨node false (cpu []), ?_⟩, ⟨remoteQ 0xA2001, u, d, ?_, h1, ?q1⟩, ⟨remoteQ 0xA2201, u', d', ?_, k1, ?q2⟩,
    ⟨node false (cpu []), _, frame 0x11#8 1#2 0 3, ⟨taken_of _ _ _ ?_ ?_ ?_ ?_ ?_, ?_⟩, ?_⟩,
    ⟨node false pushingCpu, _, frame 0x11#8 1#2 0 3, ⟨taken_of _ _ _ ?_ ?_ ?_ ?_ ?_, ?_⟩, ?_⟩, ⟨booted, ?_⟩, ⟨node false pushingCpu, ?_, ?_⟩⟩
  case q1 => rw [h5]; decide
  case q2 =>
    have hl : d'.lvl = 0 := by rw [Desc.lvl, k5]; decide
    have hb : d'.ctl.getLsbD 9 = true := by rw [k5]; decide
    have hk : (frame 1#8 0#2 256 3).opnd = d'.rkey := k4.symm
    simp [k2, hl, hb, k3, hk]
  all_goals first | decide +kernel | (revert dn up; decide +kernel)

theorem hasSlot_taken (s : State) (w c : Nat) (d : Bool) : (taken s).hasSlot w c d = s.hasSlot w c d := rfl

/-- A request of port 5's die reaches line 0xC1 of the node. -/
theorem taken_reach (key : Option (Nat × Nat)) : (taken (node false (cpu []))).toSlice (fabReq 5 5 key) (0xC1 * 64) =
    (taken (node false (cpu [])), none) := by
  refine slots_reach _ _ _ (fun w hw => ?_) (show 8 + 5 / 3 < 11 by decide) ?_ (by decide +kernel) (by decide +kernel) ?_ (by decide) (by decide)
  · rw [hasSlot_taken]
    exact node_slots w hw
  · intro x hx
    cases hx
    decide
  · show (taken (node false (cpu []))).colorOK 5 (0xC1 * 64) = true
    decide +kernel

def window : Frame := { frame 2#8 0#2 32 3 with aux := 15#8, addr := 0x3060#64 }
def getter : Frame := { frame 3#8 0#2 0 3 with aux := 15#8, addr := 0x3040#64, len := 64 }

theorem respond_plru (s : State) (q : List (Nat × Nat)) (l : Nat) (x : CLine) (c : Nat) (f : Frame) (ty : BitVec 8) (st : Nat) (data : List Byte)
    (p : BitVec 8) : (((plru s q).setLine l (some x)).respond c f ty st data p).2 = (s.respond c f ty st data p).2 := by
  have h1 : ∀ d, ((plru s q).setLine l (some x)).routeTo d = s.routeTo d := fun _ => rfl
  have h2 : ∀ d, ((plru s q).setLine l (some x)).fabState d = s.fabState d := fun _ => rfl
  have h3 : ∀ d, ((plru s q).setLine l (some x)).fabLive d = s.fabLive d := fun _ => rfl
  have h4 : ∀ d, ((plru s q).setLine l (some x)).fabSlot d c = s.fabSlot d c := fun _ => rfl
  unfold State.respond State.sendFrame
  simp only [h1, h2, h3, h4]
  split
  · rfl
  · rfl
  · split
    · rfl
    · split
      · rfl
      · split <;> rfl

theorem witness_WindowsAnswerPutsAndGets :
    (∃ s : State, s.windowOk 5 15 0 (2 ^ 40 - 1) 0#64 true = true) ∧
    (∃ (s t : State) (f : Frame), Arrived s 5 f 0x02#8 t ∧ t.fdomComp f.fdom.toNat = none) ∧
    (∃ (s t : State) (f : Frame), Arrived s 5 f 0x02#8 t ∧ t.fdomComp f.fdom.toNat = some 5 ∧ 16 = f.aux.toNat) ∧
    (∃ (s t : State) (f : Frame), Arrived s 5 f 0x02#8 t ∧ t.fdomComp f.fdom.toNat = some 5 ∧ f.aux.toNat = 15 ∧
      t.windowOk 5 15 f.addr.toNat f.payload.length f.opnd true = false) ∧
    (∃ (s t u : State) (f : Frame) (pa : Nat), Arrived s 5 f 0x02#8 t ∧ t.fdomComp f.fdom.toNat = some 5 ∧ f.aux.toNat = 15 ∧
      t.windowOk 5 f.aux.toNat f.addr.toNat f.payload.length f.opnd true = true ∧ f.payload ≠ [] ∧ f.addr.toNat % 64 + f.payload.length = 64 ∧
      f.poison = 0#8 ∧ t.packed 5 (t.getF (Reg.FXC_WIN_CTL 5 f.aux.toNat) Fld.FXC_WIN_CTL_BASE * 2 ^ 18) f.addr.toNat = some pa ∧
      t.dmaWrite (fabReq 5 5 (some (5, t.getF (Reg.FXC_WIN_SIZE 5 f.aux.toNat) Fld.FXC_WIN_SIZE_TAG))) (pa / 64)
        (BitVec.ofNat 512 (bytesToNat f.payload <<< (8 * (pa % 64)))) (maskBytes (pa % 64) f.payload.length) false = (u, none)) ∧
    (∃ (s t : State) (f : Frame), Arrived s 5 f 0x03#8 t ∧ t.fdomComp f.fdom.toNat = none) ∧
    (∃ (s t : State) (f : Frame), Arrived s 5 f 0x03#8 t ∧ t.fdomComp f.fdom.toNat = some 5 ∧ 257 = f.len) ∧
    (∃ (s t u v : State) (f : Frame) (pa : Nat) (d : BitVec 512) (psn : Bool), Arrived s 5 f 0x03#8 t ∧ t.fdomComp f.fdom.toNat = some 5 ∧
      f.aux.toNat = 15 ∧ t.windowOk 5 f.aux.toNat f.addr.toNat f.len f.opnd false = true ∧ 0 < f.len ∧ f.addr.toNat % 64 + f.len = 64 ∧
      t.packed 5 (t.getF (Reg.FXC_WIN_CTL 5 f.aux.toNat) Fld.FXC_WIN_CTL_BASE * 2 ^ 18) f.addr.toNat = some pa ∧
      t.dmaRead (fabReq 5 5 (some (5, t.getF (Reg.FXC_WIN_SIZE 5 f.aux.toNat) Fld.FXC_WIN_SIZE_TAG))) (pa / 64) = (u, .ok (d, psn)) ∧
      u.respond 5 f 0x13#8 0 (natToBytes f.len (d.toNat >>> (8 * (pa % 64)))) (if psn then (if f.len ≤ 32 then 1#8 else 3#8) else 0#8) =
        (v, .sent 4)) := by
  obtain ⟨u, hu⟩ := dmaWrite_present (taken (node false (cpu []))) (fabReq 5 5 (some (5, 0))) 0xC1 (BitVec.ofNat 512 (bytesToNat window.payload <<< (8 * 32)))
    (maskBytes 32 32) false ⟨0#512, false, false, 0, 0, []⟩ (taken_reach _) rfl (fun _ hk => absurd hk (List.not_mem_nil))
  obtain ⟨q, hr⟩ := dmaRead_present (taken (node false (cpu []))) (fabReq 5 5 (some (5, 0))) 0xC1 ⟨0#512, false, false, 0, 0, []⟩ (taken_reach _) rfl
    (by
      have c : (taken (node false (cpu []))).isF (Reg.ERR_INJECT (pageL3S (sliceOf (0xC1 * 64)))) Fld.ERR_INJECT_ARM = false := by decide +kernel
      unfold State.takeInject
      simp only [c]
      rfl) (fun _ hk => absurd hk (List.not_mem_nil))
  let z : CLine := (⟨0#512, false, false, 0, 0, []⟩ : CLine).downgrade
  have hv : ∃ v, ((plru (taken (node false (cpu []))) q).setLine 0xC1 (some z)).respond 5 getter 0x13#8 0
      (natToBytes 64 (z.data.toNat >>> (8 * (0x3040 % 64)))) 0#8 = (v, .sent 4) := by
    have e : ((taken (node false (cpu []))).respond 5 getter 0x13#8 0 (natToBytes 64 (z.data.toNat >>> (8 * (0x3040 % 64)))) 0#8).2 = .sent 4 := by
      decide +kernel
    exact ⟨_, Prod.ext rfl ((respond_plru ..).trans e)⟩
  obtain ⟨v, hv⟩ := hv
  have tag : (taken (node false (cpu []))).getF (Reg.FXC_WIN_SIZE 5 15) Fld.FXC_WIN_SIZE_TAG = 0 := by decide +kernel
  refine ⟨⟨node false (cpu []), ?_⟩, ⟨node false (cpu []), _, { window with fdom := 8#16 }, ⟨taken_of _ _ _ ?_ ?_ ?_ ?_ ?_, ?_⟩, ?_⟩,
    ⟨node false (cpu []), _, { window with aux := 16#8 }, ⟨taken_of _ _ _ ?_ ?_ ?_ ?_ ?_, ?_⟩, ?_, ?_⟩,
    ⟨node false (cpu []), _, { window with opnd := 1#64 }, ⟨taken_of _ _ _ ?_ ?_ ?_ ?_ ?_, ?_⟩, ?_, ?_, ?_⟩,
    ⟨node false (cpu []), _, u, window, 0x3060, ⟨taken_of _ _ _ ?_ ?_ ?_ ?_ ?_, ?_⟩, ?_, ?_, ?_, ?_, ?_, ?_, ?_, ?wr⟩,
    ⟨node false (cpu []), _, { getter with fdom := 8#16 }, ⟨taken_of _ _ _ ?_ ?_ ?_ ?_ ?_, ?_⟩, ?_⟩,
    ⟨node false (cpu []), _, { getter with len := 257 }, ⟨taken_of _ _ _ ?_ ?_ ?_ ?_ ?_, ?_⟩, ?_, ?_⟩,
    ⟨node false (cpu []), _, (plru (taken (node false (cpu []))) q).setLine 0xC1 (some z), v, getter, 0x3040, z.data, z.poison, ⟨taken_of _ _ _ ?_ ?_ ?_ ?_ ?_, ?_⟩, ?_, ?_, ?_, ?_, ?_, ?_, ?rd, hv⟩⟩
  case wr => rw [show window.aux.toNat = 15 from rfl, tag]; exact hu
  case rd => rw [show getter.aux.toNat = 15 from rfl, tag]; exact hr
  all_goals decide +kernel

/-- A command of a ring: its first word, node, local address, length, completion address and last word. -/
def fxc (w0 nd at' len caddr w7 : Nat) : FxcCmd :=
  ⟨2 ^ 32 - 1, [BitVec.ofNat 64 w0, BitVec.ofNat 64 nd, BitVec.ofNat 64 at', 0#64, BitVec.ofNat 64 len, 0#64, BitVec.ofNat 64 caddr, BitVec.ofNat 64 w7],
    false, [], 0, none, 0#64, 0⟩
/-- Compartment 5 with one command; its core 0 owns the page of its rings. -/
def withCmd (x : FxcCmd) : State := ((node false (cpu [])).wr (Reg.BLK_OWNER 0x385) 5#64).setCmds 5 [x]
/-- The same with word 0 of the ring's first command as given, and its poison; and with the tail one on from the head. -/
def ringLine (w0 : Nat) (p : Bool) : CLine := ⟨BitVec.ofNat 512 (0x40000 * 2 ^ 64 + w0), false, p, 0, 0, []⟩
def ringed (w0 : Nat) (p : Bool) : State := (withCmd (fxc 0 7 0 0 0 0)).setLine 0 (some (ringLine w0 p))
def tailed (w0 : Nat) (p : Bool) : State := (ringed w0 p).putFields (Reg.FXC_TAIL 5) 1#64

theorem putFields_setLine (s : State) (l k : Nat) (x : CLine) (v : Word) :
    (s.setLine l (some x)).putFields k v = (s.putFields k v).setLine l (some x) := by
  unfold State.putFields
  cases rowOf k <;> rfl

theorem tailed_read (w0 : Nat) (p : Bool) (h : w0 = 0xA2005 ∨ w0 = 0xA2006) : ∃ t, (tailed w0 p).dmaRead (fxcReq 5 none) (0 / 64) =
    (t, .ok (BitVec.ofNat 512 (0x40000 * 2 ^ 64 + w0), p)) := by
  have hs : ∀ w, w < 142 → (tailed w0 p).hasSlot w 5 false = true := fun w hw => by
    have : ∀ w, w < 142 → ((withCmd (fxc 0 7 0 0 0 0)).putFields (Reg.FXC_TAIL 5) 1#64).hasSlot w 5 false = true := by decide +kernel
    rw [tailed, ringed, putFields_setLine, hasSlot_setLine]
    exact this w hw
  have hr : (tailed w0 p).toSlice (fxcReq 5 none) (0 * 64) = (tailed w0 p, none) :=
    slots_reach _ _ _ hs (by decide) (by rintro x ⟨⟩; decide) (by rcases h with rfl | rfl <;> cases p <;> decide +kernel)
      (by rcases h with rfl | rfl <;> cases p <;> decide +kernel) (by rcases h with rfl | rfl <;> cases p <;> decide +kernel) (by decide) (by decide)
  obtain ⟨q, e⟩ := dmaRead_present _ _ 0 (ringLine w0 p) hr (by rcases h with rfl | rfl <;> cases p <;> decide +kernel) (by
    have c : (tailed w0 p).isF (Reg.ERR_INJECT (pageL3S (sliceOf (0 * 64)))) Fld.ERR_INJECT_ARM = false := by
      rcases h with rfl | rfl <;> cases p <;> decide +kernel
    unfold State.takeInject
    simp only [c]
    rfl) (fun _ hk => absurd hk (List.not_mem_nil))
  exact ⟨_, e⟩

theorem unlatch_nil (s : State) (k : Nat) (h : s.latched = []) : s.unlatch k = s := by
  unfold State.unlatch
  rw [h]
  cases s
  cases h
  rfl

/-- The write of the tail of an empty ring, whose registers in force are those last written. -/
theorem tailed_eq (w0 : Nat) (p : Bool) : (if (ringed w0 p).ringEmpty 5 then ((ringed w0 p).unlatch (Reg.FXC_RING 5)).unlatch (Reg.FXC_XLAT 5)
    else ringed w0 p).putFields (Reg.FXC_TAIL 5) 1#64 = tailed w0 p := by
  have h : (ringed w0 p).latched = [] := rfl
  rw [unlatch_nil _ _ h, unlatch_nil _ _ h, ite_self]
  rfl

theorem dmaReadSeg_present (s u : State) (a : Mover) (ipa k : Nat) (d : BitVec 512) (p : Bool) (h : a.en = false)
    (ht : s.dmaTarget a.eng ipa .wb = .ok .mem) (hr : s.dmaRead a.req (ipa / 64) = (u, .ok (d, p))) :
    s.dmaReadSeg a {} ipa k = (u, .ok (natToBytes k (d.toNat >>> (8 * (ipa % 64))), p,
      { page := some (ipa / 4096, ipa / 4096, .mem), line := some (ipa / 64, d, p) })) := by
  simp [State.dmaReadSeg, State.dmaAddr, State.dmaXlat, h, ht, hr]

theorem dmaWriteSeg_present (s u : State) (a : Mover) (ipa : Nat) (l : List Byte) (p : Bool) (h : a.en = false)
    (ht : s.dmaTarget a.eng ipa .wb = .ok .mem)
    (hr : s.dmaWrite a.req (ipa / 64) (BitVec.ofNat 512 (bytesToNat l <<< (8 * (ipa % 64)))) (maskBytes (ipa % 64) l.length) p = (u, none)) :
    s.dmaWriteSeg a {} ipa l p = (u, .ok { page := some (ipa / 4096, ipa / 4096, .mem) }) := by
  simp [State.dmaWriteSeg, State.dmaAddr, State.dmaXlat, h, ht, hr]

theorem setLine_fab (s : State) (l : Nat) (x : CLine) : (s.setLine l (some x)).fab = s.fab := rfl
theorem setLine_regs (s : State) (l : Nat) (x : CLine) : (s.setLine l (some x)).regs = s.regs := rfl
theorem setLine_maps (s : State) (l : Nat) (x : CLine) : (s.setLine l (some x)).comp.maps = s.comp.maps := rfl
theorem plru_fab (s : State) (q : List (Nat × Nat)) : (plru s q).fab = s.fab := rfl
theorem plru_regs (s : State) (q : List (Nat × Nat)) : (plru s q).regs = s.regs := rfl
theorem plru_maps (s : State) (q : List (Nat × Nat)) : (plru s q).comp.maps = s.comp.maps := rfl
theorem regs_setCmds (s : State) (c : Nat) (l : List FxcCmd) : (s.setCmds c l).regs = s.regs := rfl
theorem comp_setCmds (s : State) (c : Nat) (l : List FxcCmd) : (s.setCmds c l).comp = s.comp := rfl
theorem hasSlot_setCmds (s : State) (c : Nat) (l : List FxcCmd) (w n : Nat) (d : Bool) : (s.setCmds c l).hasSlot w n d = s.hasSlot w n d := rfl
theorem orderB_setCmds (s : State) (c : Nat) (l : List FxcCmd) : (s.setCmds c l).orderB = s.orderB := rfl
theorem inDram_setCmds (s : State) (c : Nat) (l : List FxcCmd) (pa : Nat) : (s.setCmds c l).inDram pa = s.inDram pa := rfl
theorem colorOK_setCmds (s : State) (c : Nat) (l : List FxcCmd) (n pa : Nat) : (s.setCmds c l).colorOK n pa = s.colorOK n pa := rfl
theorem line_setCmds (s : State) (c : Nat) (l : List FxcCmd) (n : Nat) : (s.setCmds c l).line n = s.line n := rfl
theorem isF_setCmds (s : State) (c : Nat) (l : List FxcCmd) (k : Nat) (f : Fld) : (s.setCmds c l).isF k f = s.isF k f := rfl

/-- The slots are open and the lines stand as in `withCmd`, whatever the commands. -/
def cmdBase : State := (node false (cpu [])).wr (Reg.BLK_OWNER 0x385) 5#64
theorem cmdBase_slots : ∀ w, w < 142 → cmdBase.hasSlot w 5 false = true := by decide +kernel
def zeroLine : CLine := ⟨0#512, false, false, 0, 0, []⟩
theorem cmdBase_line : cmdBase.line 0xC1 = some zeroLine := by decide +kernel

theorem zero_clean : ∀ k ∈ zeroLine.copies, k.st ≠ .m := fun _ hk => absurd hk (List.not_mem_nil)

theorem cmd_reach (l : List FxcCmd) (key : Option (Nat × Nat)) : (cmdBase.setCmds 5 l).toSlice (fxcReq 5 key) (0xC1 * 64) = (cmdBase.setCmds 5 l, none) := by
  refine slots_reach _ _ _ (fun w hw => ?_) (show 8 < 11 by decide) ?_ ?_ ?_ ?_ (by decide) (by decide)
  · rw [hasSlot_setCmds]; exact cmdBase_slots w hw
  · intro x hx
    cases hx
    decide
  · rw [orderB_setCmds]; decide +kernel
  · rw [inDram_setCmds]; decide +kernel
  · rw [colorOK_setCmds]; show cmdBase.colorOK 5 (0xC1 * 64) = true; decide +kernel

theorem cmd_read (l : List FxcCmd) (key : Option (Nat × Nat)) : ∃ u, (cmdBase.setCmds 5 l).dmaRead (fxcReq 5 key) 0xC1 =
    (u, .ok (zeroLine.downgrade.data, zeroLine.downgrade.poison)) ∧ u.fab = (cmdBase.setCmds 5 l).fab ∧ u.regs = cmdBase.regs ∧ u.comp.maps = cmdBase.comp.maps := by
  have hl : (cmdBase.setCmds 5 l).line 0xC1 = some zeroLine := by rw [line_setCmds]; exact cmdBase_line
  have c : cmdBase.isF (Reg.ERR_INJECT (pageL3S (sliceOf (0xC1 * 64)))) Fld.ERR_INJECT_ARM = false := by decide +kernel
  have hi : (cmdBase.setCmds 5 l).takeInject (pageL3S (sliceOf (0xC1 * 64))) (fxcReq 5 key).cid = (none, cmdBase.setCmds 5 l) := by
    unfold State.takeInject
    simp only [isF_setCmds, c]
    rfl
  obtain ⟨q, h⟩ := dmaRead_present (cmdBase.setCmds 5 l) (fxcReq 5 key) 0xC1 zeroLine (cmd_reach l key) hl hi zero_clean
  refine ⟨_, h, (setLine_fab _ _ _).trans (plru_fab _ _), (setLine_regs _ _ _).trans ((plru_regs _ _).trans (regs_setCmds _ _ _)), ?_⟩
  rw [setLine_maps, plru_maps, comp_setCmds]

theorem cmd_write (l : List FxcCmd) (key : Option (Nat × Nat)) (d : BitVec 512) (m : BitVec 64) :
    ∃ u, (cmdBase.setCmds 5 l).dmaWrite (fxcReq 5 key) 0xC1 d m false = (u, none) :=
  dmaWrite_present _ _ _ _ _ _ zeroLine (cmd_reach l key) (by rw [line_setCmds]; exact cmdBase_line) zero_clean

/-- The commands of the tests: a PUT and a GET of line 0xC1, one that waits for request 1, and one that has ended. -/
def putCmd : FxcCmd := fxc 0 7 0x3040 64 0 0
def getCmd : FxcCmd := fxc 1 7 0x3040 64 0 0
def waitCmd (op : Nat) : FxcCmd := { fxc op 7 0x3040 64 0 0 with started := true, opids := [1] }
def endedCmd (w0 caddr : Nat) : FxcCmd := { fxc w0 7 0x3040 64 caddr 0 with started := true, status := some 3 }

theorem withCmd_eq (x : FxcCmd) : withCmd x = cmdBase.setCmds 5 [x] := rfl

theorem put_reads : ∃ u k, ((withCmd putCmd).modCmd 5 putCmd.idx (fun y => { y with started := true, startTb := (withCmd putCmd).now })).dmaReadSeg
    ((withCmd putCmd).fxcMover 5 putCmd) {} putCmd.localA putCmd.len = (u, .ok (natToBytes putCmd.len 0, false, k)) ∧
    u.fab = ((withCmd putCmd).modCmd 5 putCmd.idx (fun y => { y with started := true, startTb := (withCmd putCmd).now })).fab ∧
    u.regs = (withCmd putCmd).regs ∧ u.comp.maps = (withCmd putCmd).comp.maps := by
  have e : (withCmd putCmd).modCmd 5 putCmd.idx (fun y => { y with started := true, startTb := (withCmd putCmd).now }) =
      cmdBase.setCmds 5 [{ putCmd with started := true, startTb := (withCmd putCmd).now }] := by
    rw [withCmd_eq]
    simp [State.modCmd, State.fxcCmds, State.setCmds]
  rw [e]
  obtain ⟨u, h1, h2, h3, h4⟩ := cmd_read [{ putCmd with started := true, startTb := (withCmd putCmd).now }] (some (5, putCmd.tag))
  have zd : zeroLine.downgrade.data = 0#512 := by decide +kernel
  have zp : zeroLine.downgrade.poison = false := by decide +kernel
  rw [zd, zp] at h1
  have g := dmaReadSeg_present (cmdBase.setCmds 5 [{ putCmd with started := true, startTb := (withCmd putCmd).now }]) u ((withCmd putCmd).fxcMover 5 putCmd)
    0x3040 64 0#512 false (by decide +kernel) (by
      have f : (cmdBase.setCmds 5 [{ putCmd with started := true, startTb := (withCmd putCmd).now }]).fixedType 0x3040 = some .wb := by decide +kernel
      unfold State.dmaTarget
      rw [f]
      rfl) h1
  have zz : (0#512).toNat >>> (8 * (0x3040 % 64)) = 0 := by decide +kernel
  rw [zz] at g
  refine ⟨u, _, g, h2, h3.trans ?_, h4.trans ?_⟩
  · rw [withCmd_eq, regs_setCmds]
  · rw [withCmd_eq, comp_setCmds]

/-- Core 0 of the platform, owner of the page of the rings of compartment 4; domain 9 is bound to compartment 5. -/
def accCore : State := (platformCore.wr (Reg.BLK_OWNER (0x380 + 4)) 5#64).wr (Reg.FXC_ACC 5) (BitVec.ofNat 64 (9 + 2 ^ 16))
/-- The warden's core 16, where compartment 5 is the platform. -/
def wardenNode : State := ((wardenOpen (inComp (cpu []))).setCore 16 wardenCpu).wr (Reg.BLK_OWNER pageCMT) 5#64

/-- The node behind the charge of a response's payload. -/
def chargedNode : State := (taken (withCmd (waitCmd 1))).chargeFab 5 (some (5, 0)) 6 64
theorem charged_slots : ∀ w, w < 142 → chargedNode.hasSlot w 5 false = true := by decide +kernel

theorem rsp_write : ∃ (u : State) (k : DmaCache), chargedNode.dmaWriteSeg (chargedNode.fxcMover 5 (waitCmd 1)) {} 0x3040 (List.replicate 64 0xAB#8) false =
    (u, .ok k) := by
  have hr : chargedNode.toSlice (fxcReq 5 (some (5, 0))) (0xC1 * 64) = (chargedNode, none) :=
    slots_reach _ _ _ charged_slots (by decide) (by rintro x ⟨⟩; decide) (by decide +kernel) (by decide +kernel) (by decide +kernel) (by decide) (by decide)
  obtain ⟨u, hu⟩ := dmaWrite_present chargedNode (fxcReq 5 (some (5, 0))) 0xC1 (BitVec.ofNat 512 (bytesToNat (List.replicate 64 0xAB#8) <<<
    (8 * (0x3040 % 64)))) (maskBytes (0x3040 % 64) 64) false zeroLine hr (by decide +kernel) zero_clean
  have g := dmaWriteSeg_present chargedNode u (chargedNode.fxcMover 5 (waitCmd 1)) 0x3040 (List.replicate 64 0xAB#8) false
    (by decide +kernel) (by
      have f : chargedNode.fixedType 0x3040 = some .wb := by decide +kernel
      unfold State.dmaTarget
      rw [f]
      rfl) hu
  exact ⟨u, _, g⟩

theorem record_write : ∃ (u : State) (k : DmaCache), (withCmd (endedCmd 0 0x3070)).dmaWriteSeg ((withCmd (endedCmd 0 0x3070)).fxcMover 5 (endedCmd 0 0x3070)) {}
    0x3070 (natToBytes 8 (3 + 0 % 2 ^ 40 * 256) ++ natToBytes 8 0) false = (u, .ok k) := by
  obtain ⟨u, hu⟩ := cmd_write [endedCmd 0 0x3070] (some (5, 0)) (BitVec.ofNat 512 (bytesToNat (natToBytes 8 (3 + 0 % 2 ^ 40 * 256) ++ natToBytes 8 0) <<<
    (8 * (0x3070 % 64)))) (maskBytes (0x3070 % 64) 16)
  have g := dmaWriteSeg_present (withCmd (endedCmd 0 0x3070)) u ((withCmd (endedCmd 0 0x3070)).fxcMover 5 (endedCmd 0 0x3070)) 0x3070
    (natToBytes 8 (3 + 0 % 2 ^ 40 * 256) ++ natToBytes 8 0) false (by decide +kernel) (by
      have f : (withCmd (endedCmd 0 0x3070)).fixedType 0x3070 = some .wb := by decide +kernel
      unfold State.dmaTarget
      rw [f]
      rfl) hu
  exact ⟨u, _, g⟩

theorem witness_CommandRingsCopyAndComplete :
    (∃ (s : State) (w : Who), Performed s (.core 16) w (Reg.FXC_ACC 4) ∧ (w.boot || w.isH s.platform) = false) ∧
    (∃ (s : State) (w : Who), Performed s (.core 16) w (Reg.FXC_ACC 63) ∧ w.wOrBoot = true) ∧
    (∃ (s : State) (w : Who), Performed s (.core 0) w (Reg.FXC_ACC 4) ∧ (w.boot || w.isH s.platform) = true ∧ s.isF (Reg.FXC_ACC 5) Fld.FXC_ACC_EN = true ∧
      s.getF (Reg.FXC_ACC 5) Fld.FXC_ACC_FDOM = 9 ∧ ∀ d, d < 64 → s.isF (Reg.FXC_ACC d) Fld.FXC_ACC_EN = true → s.getF (Reg.FXC_ACC d) Fld.FXC_ACC_FDOM ≠ 8) ∧
    (∃ (s : State) (w : Who), Performed s (.core 0) w (Reg.FXC_TAIL 5) ∧ s.getF (Reg.FXC_HEAD 5) Fld.FXC_HEAD_HEAD = 0) ∧
    (∀ w0 p, w0 = 0xA2005 ∨ w0 = 0xA2006 → ∃ (s u t : State) (w : Who) (d : BitVec 512), Performed s (.core 0) w (Reg.FXC_TAIL 5) ∧
      s.isF (Reg.FXC_ACC 5) Fld.FXC_ACC_EN = true ∧ s.getF (Reg.FXC_HEAD 5) Fld.FXC_HEAD_HEAD = 0 ∧
      (if s.ringEmpty 5 then (s.unlatch (Reg.FXC_RING 5)).unlatch (Reg.FXC_XLAT 5) else s).putFields (Reg.FXC_TAIL 5) 1#64 = u ∧
      u.packed 5 (u.ringF 5 (Reg.FXC_RING 5) Fld.FXC_RING_BASE * 2 ^ 18) (64 * (0 % u.ringDepth 5)) = some 0 ∧
      u.dmaRead (fxcReq 5 none) (0 / 64) = (t, .ok (d, p)) ∧ (lineWords d).headD 0 = BitVec.ofNat 64 w0) ∧
    (∀ op < 4, State.reset.nextCmd 5 op = none) ∧
    (∀ op < 2, ∃ (s : State) (x : FxcCmd), s.nextCmd 5 op = some x ∧ s.isF (Reg.FXC_ACC 5) Fld.FXC_ACC_EN = true ∧ x.reserved = true) ∧
    (∀ op < 2, ∃ (s : State) (x : FxcCmd), s.nextCmd 5 op = some x ∧ s.isF (Reg.FXC_ACC 5) Fld.FXC_ACC_EN = true ∧ x.reserved = false ∧ x.len = 0) ∧
    (∃ (s : State) (x : FxcCmd), s.fxcCmds 5 = [x] ∧ x.started = false ∧ x.status = none ∧ x.opids = [] ∧ x.reserved = false ∧
      s.isF (Reg.FXC_ACC 5) Fld.FXC_ACC_EN = true ∧ s.fab.nextOp < 65536 ∧ 0 < x.len ∧ x.len ≤ 256 ∧ x.op = 1 ∧ s.routeTo x.node = .port 4 ∧
      s.fabUp 4 = true ∧ s.fabSlot 4 5 = true) ∧
    (∃ (s : State) (x : FxcCmd), s.fxcCmds 5 = [x] ∧ x.started = false ∧ x.status = none ∧ x.opids = [] ∧ x.reserved = false ∧
      s.isF (Reg.FXC_ACC 5) Fld.FXC_ACC_EN = true ∧ s.fab.nextOp < 65536 ∧ 0 < x.len ∧ x.len ≤ 256 ∧ x.op = 1 ∧ s.routeTo x.node = .none) ∧
    (∃ (s u : State) (x : FxcCmd) (l : List Byte) (k : DmaCache), s.fxcCmds 5 = [x] ∧ x.started = false ∧ x.status = none ∧ x.opids = [] ∧ x.reserved = false ∧
      s.isF (Reg.FXC_ACC 5) Fld.FXC_ACC_EN = true ∧ s.fab.nextOp < 65536 ∧ 0 < x.len ∧ x.len ≤ 256 ∧ x.op = 0 ∧ x.localA % 64 + x.len = 64 ∧
      s.routeTo x.node = .port 4 ∧ s.fabUp 4 = true ∧ s.fabSlot 4 5 = true ∧
      (s.modCmd 5 x.idx (fun y => { y with started := true, startTb := s.now })).dmaReadSeg (s.fxcMover 5 x) {} x.localA x.len = (u, .ok (l, false, k)) ∧
      u.fab = (s.modCmd 5 x.idx (fun y => { y with started := true, startTb := s.now })).fab ∧ u.regs = s.regs ∧ u.comp.maps = s.comp.maps) ∧
    (∀ ty ∈ [0x12#8, 0x13#8], ∃ (s t : State) (f : Frame), Arrived s 5 f ty t ∧ t.cmdOf f.opid.toNat = none) ∧
    (∀ ty ∈ [0x12#8, 0x13#8], ∃ (s t : State) (f : Frame), Arrived s 5 f ty t ∧ t.cmdOf f.opid.toNat = some (5, waitCmd 1) ∧ f.aux ≠ 0#8) ∧
    (∃ (s t u : State) (f : Frame) (k : DmaCache), Arrived s 5 f 0x13#8 t ∧ t.cmdOf f.opid.toNat = some (5, waitCmd 1) ∧ f.aux = 0#8 ∧ f.payload ≠ [] ∧
      f.poison = 0#8 ∧ ((waitCmd 1).localA + smGet (fun _ => 0) s.fab.gets f.opid.toNat) % 64 + f.payload.length = 64 ∧
      (t.chargeFab 5 (some (5, (waitCmd 1).tag)) 6 f.payload.length).dmaWriteSeg
        ((t.chargeFab 5 (some (5, (waitCmd 1).tag)) 6 f.payload.length).fxcMover 5 (waitCmd 1)) {}
        ((waitCmd 1).localA + smGet (fun _ => 0) s.fab.gets f.opid.toNat) f.payload false = (u, .ok k)) ∧
    (∃ (s : State) (x : FxcCmd), s.fxcCmds 5 = [x] ∧ x.opids = [1] ∧ x.status = none) ∧
    (∃ s : State, ∀ x ∈ s.fxcCmds 5, x.idx ≠ (0#32).toNat) ∧
    (∃ (s : State) (x : FxcCmd), s.fxcCmds 5 = [x] ∧ x.idx = (0xFFFFFFFF#32).toNat ∧ x.started = true ∧ x.status = none ∧ x.op ≤ 1 ∧
      x.startTb + 100000 = s.now) ∧
    (∃ (s : State) (x : FxcCmd), s.fxcCmds 5 = [x] ∧ x.idx = (0xFFFFFFFF#32).toNat ∧ s.now < x.startTb + 100000) ∧
    (∃ (s : State) (x : FxcCmd), s.fxcCmds 5 = [x] ∧ x.idx = (0xFFFFFFFF#32).toNat ∧ x.status = some 3 ∧ x.event = false ∧ x.caddr = 0) ∧
    (∃ (s u : State) (x : FxcCmd) (k : DmaCache), s.fxcCmds 5 = [x] ∧ x.idx = (0xFFFFFFFF#32).toNat ∧ x.status = some 3 ∧ x.event = false ∧
      x.caddr ≠ 0 ∧ x.caddr % 64 = 48 ∧ s.dmaWriteSeg (s.fxcMover 5 x) {} x.caddr
        (natToBytes 8 (3 + x.done % 2 ^ 40 * 256) ++ natToBytes 8 x.result.toNat) false = (u, .ok k)) ∧
    (∃ (s : State) (x : FxcCmd), s.fxcCmds 5 = [x] ∧ x.idx = (0xFFFFFFFF#32).toNat ∧ x.status = some 3 ∧ x.event = true ∧ x.caddr = 0) := by
  obtain ⟨u, k, h1, h2, h3, h4⟩ := put_reads
  obtain ⟨v, m, hv⟩ := rsp_write
  obtain ⟨z, n, hz⟩ := record_write
  refine ⟨⟨wardenNode, wardenNode.whoCore 16, ⟨rfl, ?_⟩, ?_⟩, ⟨wardenNode, wardenNode.whoCore 16, ⟨rfl, ?_⟩, ?_⟩, ⟨accCore, accCore.whoCore 0, ⟨rfl, ?_⟩, ?_, ?_, ?_, ?_⟩,
    ⟨withCmd getCmd, (withCmd getCmd).whoCore 0, ⟨rfl, ?_⟩, ?_⟩,
    ?tail, ?_,
    fun op h => ⟨withCmd (fxc (op + 2 ^ 19) 7 0 1 0 0), fxc (op + 2 ^ 19) 7 0 1 0 0, ?_, ?_, ?_⟩,
    fun op h => ⟨withCmd (fxc op 7 0 0 0 0), fxc op 7 0 0 0 0, ?_, ?_, ?_, ?_⟩,
    ⟨withCmd getCmd, getCmd, ?_, ?_, ?_, ?_, ?_, ?_, ?_, ?_, ?_, ?_, ?_, ?_, ?_⟩,
    ⟨(withCmd getCmd).setF Reg.FABG_NODE Fld.FABG_NODE_UP 7, getCmd, ?_, ?_, ?_, ?_, ?_, ?_, ?_, ?_, ?_, ?_, ?_⟩,
    ⟨withCmd putCmd, u, putCmd, _, k, ?_, ?_, ?_, ?_, ?_, ?_, ?_, ?_, ?_, ?_, ?_, ?_, ?_, ?_, h1, h2, h3, h4⟩,
    fun ty h => ⟨node false (cpu []), _, frame ty 1#2 0 3, ⟨taken_of _ _ _ ?_ rfl ?_ ?_ ?_, ?_⟩, ?_⟩,
    fun ty h => ⟨withCmd (waitCmd 1), _, { frame ty 1#2 0 3 with aux := 5#8 }, ⟨taken_of _ _ _ ?_ rfl ?_ ?_ ?_, ?_⟩, ?_, ?_⟩,
    ⟨withCmd (waitCmd 1), taken (withCmd (waitCmd 1)), v, frame 0x13#8 1#2 64 3, m, ⟨taken_of _ _ _ ?_ ?_ ?_ ?_ ?_, ?_⟩, ?_, ?_, ?_, ?_, ?_, ?rsp⟩,
    ⟨withCmd (waitCmd 1), waitCmd 1, ?_, ?_, ?_⟩, ⟨withCmd getCmd, ?_⟩, ⟨{ withCmd (waitCmd 1) with tb := 100000#64 }, waitCmd 1, ?_, ?_, ?_, ?_, ?_, ?_⟩,
    ⟨withCmd (waitCmd 1), waitCmd 1, ?_, ?_, ?_⟩, ⟨withCmd (endedCmd 0 0), endedCmd 0 0, ?_, ?_, ?_, ?_, ?_⟩,
    ⟨withCmd (endedCmd 0 0x3070), z, endedCmd 0 0x3070, n, ?_, ?_, ?_, ?_, ?_, ?_, ?rec⟩, ⟨withCmd (endedCmd 256 0), endedCmd 256 0, ?_, ?_, ?_, ?_, ?_⟩⟩
  case tail =>
    intro w0 p h
    obtain ⟨t, ht⟩ := tailed_read w0 p h
    refine ⟨ringed w0 p, tailed w0 p, t, (ringed w0 p).whoCore 0, _, ⟨rfl, ?_⟩, ?_, ?_, tailed_eq w0 p, ?_, ht, ?_⟩ <;>
      rcases h with rfl | rfl <;> cases p <;> decide +kernel
  case rsp => exact hv
  case rec => exact hz
  all_goals first | decide +kernel | (revert op; decide +kernel) | (revert ty; decide +kernel)

/-- Group entry 63 of domain 9 with compartment 5 as its member, and more bits of the entry. -/
def grouped (bits : Nat) (s : State) : State := s.wr (Reg.FABG_GRP 63) (BitVec.ofNat 64 (9 + 5 * 2 ^ 16 + 2 ^ 22 + 2 ^ 30 + bits))
/-- Compartment 5 with one command of the group: operation, reduction, operand. -/
def grpCmd (op rop v : Nat) : FxcCmd := fxc (op + 16 * rop + 63 * 2 ^ 9) 7 v 0 0 0
/-- The group's generation in progress with a local contribution of -1 to a sum, and the command that waits for it. -/
def reducing (bits : Nat) : State :=
  (grouped bits (withCmd { grpCmd 3 0 (2 ^ 64 - 1) with started := true })).setGen 63 { gen := 8, localC := some (-1), rop := some 0 }
def arrival (ty : BitVec 8) (vc : BitVec 2) : Frame := { frame ty vc 32 0 with addr := 9#64 }

theorem witness_GlobalReductionsCombineAndComplete :
    (∀ op ∈ [2, 3], ∃ (s : State) (x : FxcCmd), OneCommand s ⟨5, by decide⟩ x op 63 ∧ x.rop ≤ 4 ∧ s.gen 63 = { gen := 0 } ∧ s.grpPorts 63 = [] ∧
      s.isF (Reg.FABG_GRP 63) Fld.FABG_GRP_ROOT = true) ∧
    (∀ op ∈ [2, 3], ∃ (s : State) (x : FxcCmd), OneCommand s ⟨5, by decide⟩ x op 63 ∧ x.rop ≤ 4 ∧ s.gen 63 = { gen := 0 } ∧ s.grpPorts 63 = [5]) ∧
    (∀ op ∈ [2, 3], ∃ (s : State) (x : FxcCmd), OneCommand s ⟨5, by decide⟩ x op 63 ∧ x.rop ≤ 4 ∧ s.gen 63 = { gen := 0 } ∧ s.grpPorts 63 = [] ∧
      s.isF (Reg.FABG_GRP 63) Fld.FABG_GRP_ROOT = false ∧ s.ring = false ∧ s.fabUp s.upPort = true ∧ s.fabSlot s.upPort 5 = true) ∧
    (∀ op ∈ [2, 3], ∃ (s : State) (x : FxcCmd), s.nextCmd 5 op = some x ∧ s.isF (Reg.FXC_ACC 5) Fld.FXC_ACC_EN = true ∧
      s.isF (Reg.FABG_GRP x.grp) Fld.FABG_GRP_EN = false) ∧
    (∃ (s : State) (x : FxcCmd), s.nextCmd 5 3 = some x ∧ s.isF (Reg.FXC_ACC 5) Fld.FXC_ACC_EN = true ∧ 5 = x.rop) ∧
    (∃ (s t : State) (f : Frame) (x : FxcCmd), Taken s 5 f 0x21#8 t ∧ s.groupOf (f.addr.toNat % 65536) = some 63 ∧ s.grpPorts 63 = [5] ∧
      s.isF (Reg.FABG_GRP 63) Fld.FABG_GRP_ROOT = true ∧ s.grpMember 63 = true ∧ s.gen 63 = { gen := 8, localC := some (-1), rop := some 0 } ∧
      s.fxcCmds (s.grpCid 63) = [x] ∧ x.started = true ∧ x.status = none ∧ x.grp = 63 ∧ x.op = 3 ∧ f.aux.toNat = 0) ∧
    (∀ code ∈ [4#8, 5#8], ∃ (s t : State) (f : Frame) (x : FxcCmd), Taken s 5 f 0x21#8 t ∧ s.groupOf (f.addr.toNat % 65536) = some 63 ∧
      s.grpPorts 63 = [5] ∧ s.isF (Reg.FABG_GRP 63) Fld.FABG_GRP_ROOT = true ∧ s.grpMember 63 = true ∧
      s.gen 63 = { gen := 8, localC := some (-1), rop := some 0 } ∧ s.fxcCmds (s.grpCid 63) = [x] ∧ x.started = true ∧ x.status = none ∧
      x.grp = 63 ∧ x.op = 3 ∧ f.aux = code) ∧
    (∃ (s t : State) (f : Frame) (x : FxcCmd), Taken s 5 f 0x22#8 t ∧ s.groupOf (f.addr.toNat % 65536) = some 63 ∧ s.grpPorts 63 = [] ∧
      s.grpMember 63 = true ∧ s.gen 63 = { gen := 8, localC := some (-1), rop := some 0 } ∧ s.fxcCmds (s.grpCid 63) = [x] ∧ x.started = true ∧
      x.status = none ∧ x.grp = 63 ∧ x.op = 3) := by
  refine ⟨fun op h => ⟨grouped (2 ^ 29) (withCmd (grpCmd op 4 7)), grpCmd op 4 7, ⟨?_, ?_, ?_, ?_, ?_, ?_, ?_, ?_, ?_, ?_⟩, ?_, ?_, ?_, ?_⟩,
    fun op h => ⟨grouped (2 ^ 28) (withCmd (grpCmd op 4 7)), grpCmd op 4 7, ⟨?_, ?_, ?_, ?_, ?_, ?_, ?_, ?_, ?_, ?_⟩, ?_, ?_, ?_⟩,
    fun op h => ⟨grouped 0 (withCmd (grpCmd op 4 7)), grpCmd op 4 7, ⟨?_, ?_, ?_, ?_, ?_, ?_, ?_, ?_, ?_, ?_⟩, ?_, ?_, ?_, ?_, ?_, ?_, ?_⟩,
    fun op h => ⟨withCmd (grpCmd op 0 7), grpCmd op 0 7, ?_, ?_, ?_⟩, ⟨grouped 0 (withCmd (grpCmd 3 5 7)), grpCmd 3 5 7, ?_, ?_, ?_⟩,
    ⟨reducing (2 ^ 28 + 2 ^ 29), _, arrival 0x21#8 2#2, _, taken_of _ _ _ ?_ ?_ ?_ ?_ ?_, ?_, ?_, ?_, ?_, ?_, rfl, ?_, ?_, ?_, ?_, ?_⟩,
    fun code h => ⟨reducing (2 ^ 28 + 2 ^ 29), _, { arrival 0x21#8 2#2 with aux := code }, _, taken_of _ _ _ ?_ rfl ?_ ?_ ?_,
      ?_, ?_, ?_, ?_, ?_, rfl, ?_, ?_, ?_, ?_, rfl⟩,
    ⟨reducing 0, _, arrival 0x22#8 2#2, _, taken_of _ _ _ ?_ ?_ ?_ ?_ ?_, ?_, ?_, ?_, ?_, rfl, ?_, ?_, ?_, ?_⟩⟩
  all_goals first | (revert op; decide +kernel) | (revert code; decide +kernel) | decide +kernel

/-- The group with its broadcast queue, its root or not, and one command. -/
def casting (bits : Nat) (x : FxcCmd) : State := grouped bits (withCmd x)

theorem witness_BroadcastsAndSnapshotsReachTheirMembers :
    (∃ (s t : State) (f : Frame), Taken s 5 f 0x23#8 t ∧ s.groupOf (f.addr.toNat % 65536) = none) ∧
    (∀ m : Bool, ∃ (s t : State) (f : Frame), Taken s 5 f 0x23#8 t ∧ s.groupOf (f.addr.toNat % 65536) = some 63 ∧ s.grpPorts 63 = [] ∧
      s.grpMember 63 = m) ∧
    (∀ op ∈ [4, 5], State.reset.nextCmd 5 op = none) ∧
    (∃ (s : State) (x : FxcCmd), s.nextCmd 5 4 = some x ∧ s.isF (Reg.FXC_ACC 5) Fld.FXC_ACC_EN = true ∧ x.len = 255) ∧
    (∃ (s : State) (x : FxcCmd), s.nextCmd 5 4 = some x ∧ s.isF (Reg.FXC_ACC 5) Fld.FXC_ACC_EN = true ∧ x.reserved = false ∧ x.len = 256 ∧
      s.isF (Reg.FABG_GRP x.grp) Fld.FABG_GRP_EN = true ∧ s.isF (Reg.FABG_GRP x.grp) Fld.FABG_GRP_ROOT = true ∧ s.grpCid x.grp = 5) ∧
    (∃ (s t : State) (f : Frame), Taken s 5 f 0x24#8 t ∧ s.groupOf f.fdom.toNat = none) ∧
    (∃ (s t : State) (f : Frame), Taken s 5 f 0x24#8 t ∧ s.groupOf f.fdom.toNat = some 63 ∧ s.grpPorts 63 = [] ∧ s.grpMember 63 = true ∧
      s.now = f.addr.toNat) ∧
    (∃ (s t : State) (f : Frame) (x : FxcCmd), Taken s 5 f 0x24#8 t ∧ s.groupOf f.fdom.toNat = some 63 ∧ s.grpPorts 63 = [] ∧ s.grpMember 63 = true ∧
      f.addr.toNat + 1 = s.now ∧ s.fxcCmds (s.grpCid 63) = [x] ∧ x.started = true ∧ x.status = none ∧ x.op = 5) ∧
    (∃ s : State, (5, 1#64) ∈ s.fab.snaps ∧ ∀ e ∈ s.fab.snaps, e.1 = 5 → s.now < e.2.toNat) ∧
    (∃ (s : State) (x : FxcCmd), (5, 1#64) ∈ s.fab.snaps ∧ (1#64).toNat = s.now ∧ s.fxcCmds 5 = [x] ∧ x.started = true ∧ x.status = none ∧ x.op = 5) ∧
    (∃ (s : State) (x : FxcCmd), OneCommand s ⟨5, by decide⟩ x 5 63 ∧ s.isF (Reg.FABG_GRP 63) Fld.FABG_GRP_ROOT = false) ∧
    (∃ (s : State) (x : FxcCmd), OneCommand s ⟨5, by decide⟩ x 5 63 ∧ s.isF (Reg.FABG_GRP 63) Fld.FABG_GRP_ROOT = true ∧
      s.grpPorts 63 = [] ∧ s.now = (BitVec.ofNat 64 x.localA).toNat) ∧
    (∃ (s : State) (x : FxcCmd), OneCommand s ⟨5, by decide⟩ x 5 63 ∧ s.isF (Reg.FABG_GRP 63) Fld.FABG_GRP_ROOT = true ∧
      s.grpPorts 63 = [] ∧ (BitVec.ofNat 64 x.localA).toNat + 1 = s.now) := by
  refine ⟨⟨withCmd getCmd, _, arrival 0x23#8 2#2 |> fun f => { f with ncell := 8#4 }, taken_of _ _ _ ?_ ?_ ?_ ?_ ?_, ?_⟩,
    fun m => ⟨if m then casting 0 getCmd else (casting 0 getCmd).setF (Reg.FABG_GRP 63) Fld.FABG_GRP_MEMBER 0, _,
      arrival 0x23#8 2#2 |> fun f => { f with ncell := 8#4 }, taken_of _ _ _ ?_ rfl ?_ ?_ ?_, ?_, ?_, ?_⟩, ?_,
    ⟨casting (2 ^ 29) (fxc (4 + 63 * 2 ^ 9) 7 0x40000 255 0 0), fxc (4 + 63 * 2 ^ 9) 7 0x40000 255 0 0, ?_, ?_, ?_⟩,
    ⟨casting (2 ^ 29) (fxc (4 + 63 * 2 ^ 9) 7 0x40000 256 0 0), fxc (4 + 63 * 2 ^ 9) 7 0x40000 256 0 0, ?_, ?_, ?_, ?_, ?_, ?_, ?_⟩,
    ⟨withCmd getCmd, _, frame 0x24#8 2#2 0 0, taken_of _ _ _ ?_ ?_ ?_ ?_ ?_, ?_⟩,
    ⟨casting 0 getCmd, _, frame 0x24#8 2#2 0 0, taken_of _ _ _ ?_ ?_ ?_ ?_ ?_, ?_, ?_, ?_, ?_⟩,
    ⟨{ casting 0 { grpCmd 5 0 0 with started := true } with tb := 1#64 }, _, frame 0x24#8 2#2 0 0, _, taken_of _ _ _ ?_ ?_ ?_ ?_ ?_, ?_, ?_, ?_, ?_, rfl, ?_, ?_, ?_⟩,
    ⟨{ booted with fab := { booted.fab with snaps := [(5, 1#64)] } }, ?_, ?_⟩,
    ⟨{ casting 0 { grpCmd 5 0 0 with started := true } with
        tb := 1#64, fab := { (casting 0 { grpCmd 5 0 0 with started := true }).fab with snaps := [(5, 1#64)] } }, _, ?_, ?_, rfl, ?_, ?_, ?_⟩,
    ⟨casting 0 (grpCmd 5 0 1), grpCmd 5 0 1, ⟨?_, ?_, ?_, ?_, ?_, ?_, ?_, ?_, ?_, ?_⟩, ?_⟩,
    ⟨{ casting (2 ^ 29) (grpCmd 5 0 1) with tb := 1#64 }, grpCmd 5 0 1, ⟨?_, ?_, ?_, ?_, ?_, ?_, ?_, ?_, ?_, ?_⟩, ?_, ?_, ?_⟩,
    ⟨{ casting (2 ^ 29) (grpCmd 5 0 0) with tb := 1#64 }, grpCmd 5 0 0, ⟨?_, ?_, ?_, ?_, ?_, ?_, ?_, ?_, ?_, ?_⟩, ?_, ?_, ?_⟩⟩
  all_goals first | (revert m; decide +kernel) | decide +kernel

/-! ### The remontoir and Index -/

/-- Cluster 95 in compartment 5 with a share, at an operating point, its bounds 0 and 23. -/
def pooled (share point : Nat) : State :=
  (((booted.wr (Reg.CMT_CLUSTER 95) 0x45#64).setF (Reg.RMT_POOL 5) Fld.RMT_POOL_SHARE share).wr (Reg.IDX_CLB 95) 0#64).setF (Reg.IDX_CLB 95) Fld.IDX_CLB_CUR point
    |>.setF (Reg.IDX_CLB 95) Fld.IDX_CLB_FMAX 23
/-- The same with leaves out, and that cluster's own part. -/
def lent (share point : Nat) (l : List Leave) (k : Cluster) : State :=
  let s := (pooled share point).setCluster 95 k
  { s with power := { s.power with leaves := l } }
def n95 : ClusterId := ⟨95, by decide⟩
def comp5 : CompId := ⟨5, by decide⟩

theorem witness_LeaveIsGrantedWithinThePool :
    (∃ s : State, s.leavePool (.boost n95 23) = some 5 ∧ s.committed (some 5) + s.leaveCredits (.boost n95 23) = s.poolSize (some 5)) ∧
    (∃ s : State, s.committed none + s.leaveCredits (.dram 15) = s.poolSize none) ∧
    (∃ s : State, s.poolSize none + 1 = s.committed none + s.leaveCredits (.dram 15)) ∧
    (∃ s : State, s.leavePool (.crypto n95) = some 5 ∧ s.poolSize (some 5) + 1 = s.committed (some 5) + s.leaveCredits (.crypto n95)) ∧
    (∃ (s : State) (w : Who), Performed s .boot w Reg.RMT_LIM ∧ (s.putFields Reg.RMT_LIM 0#64).ilim < (s.putFields Reg.RMT_LIM 0#64).shareSum) ∧
    (∃ (s : State) (w : Who), Performed s .boot w (Reg.RMT_POOL 63) ∧
      (s.putFields (Reg.RMT_POOL 63) 0#64).shareSum ≤ (s.putFields (Reg.RMT_POOL 63) 0#64).ilim) ∧
    (∃ s : State, s.holdsLeave (.crypto n95) = true) ∧
    (∀ ok : Bool, ∃ s u : State, s.holdsLeave (.crypto n95) = false ∧ (∃ b, (s.cluster 95).cryptoRef = some b ∧ b + 100000 = s.now) ∧ s.askLeave (.crypto n95) = (u, ok)) ∧
    (∃ s : State, (s.cluster 95).cryptoRef = none) ∧ (∃ s : State, (s.cluster 95).cryptoRef = some 0 ∧ s.now + 1 = 100000) ∧ (∃ s : State, s.now < (s.cluster 95).cryptoUse + 1000000) ∧
    (∃ s : State, (s.cluster 95).cryptoUse + 1000000 = s.now ∧ s.power.leaves = [⟨.crypto n95, 6, 0⟩]) ∧ (∃ s : State, s.boostLeave 95 = none) ∧
    (∃ (s : State) (l : Leave), s.boostLeave 95 = some l ∧ s.now < l.tb + max 1 (s.getF Reg.RMT_CTL Fld.RMT_CTL_BOOST_MS) * 1000000) ∧
    (∃ (s : State) (l : Leave), s.boostLeave 95 = some l ∧ l.tb + max 1 (s.getF Reg.RMT_CTL Fld.RMT_CTL_BOOST_MS) * 1000000 = s.now) ∧
    (∃ s : State, (s.cluster 95).ramp = none) ∧ (∃ s : State, (s.cluster 95).ramp = some 23 ∧ s.opPoint 95 < 23) ∧
    (∃ s : State, (s.cluster 95).ramp = some 0 ∧ 0 < s.opPoint 95) ∧ (∃ s : State, (s.cluster 95).ramp = some 7 ∧ s.opPoint 95 = 7) := by
  let at_ (ok : Bool) : State := { lent (if ok then 10 else 9) 0 [] { cryptoRef := some 0 } with tb := 100000#64 }
  have ask : ∀ ok : Bool, ∃ u, (at_ ok).askLeave (.crypto n95) = (u, ok) := by
    intro ok
    cases ok <;> exact bool_pair _ _ (by decide +kernel)
  refine ⟨⟨pooled 18 0, ?_, ?_⟩, ⟨booted.setF Reg.RMT_LIM Fld.RMT_LIM_PLAT 424, ?_⟩, ⟨booted.setF Reg.RMT_LIM Fld.RMT_LIM_PLAT 423, ?_⟩,
    ⟨pooled 9 0, ?_, ?_⟩, ⟨pooled 3331 0, _, ⟨rfl, ?_⟩, ?_⟩, ⟨pooled 0 0, _, ⟨rfl, ?_⟩, ?_⟩, ⟨lent 0 0 [⟨.crypto n95, 6, 0⟩] {}, ?_⟩, ?ask, ⟨pooled 0 0, ?_⟩,
    ⟨{ lent 0 0 [] { cryptoRef := some 0 } with tb := 99999#64 }, ?_, ?_⟩, ⟨pooled 0 0, ?_⟩, ⟨{ lent 0 0 [⟨.crypto n95, 6, 0⟩] {} with tb := 1000000#64 }, ?_, ?_⟩, ⟨pooled 0 0, ?_⟩,
    ⟨lent 99 0 [⟨.boost n95 23, 14, 0⟩] {}, _, rfl, ?_⟩,
    ⟨{ (lent 99 0 [⟨.boost n95 23, 14, 0⟩] {}).setF Reg.RMT_CTL Fld.RMT_CTL_BOOST_MS 1 with tb := 1000000#64 }, _, rfl, ?_⟩,
    ⟨pooled 0 0, ?_⟩, ⟨lent 99 22 [] { ramp := some 23 }, ?_, ?_⟩, ⟨lent 99 1 [] { ramp := some 0 }, ?_, ?_⟩, ⟨lent 99 7 [] { ramp := some 7 }, ?_, ?_⟩⟩
  case ask =>
    intro ok
    obtain ⟨u, hu⟩ := ask ok
    refine ⟨_, u, ?_, ⟨0, ?_, ?_⟩, hu⟩ <;> (cases ok <;> decide +kernel)
  all_goals decide +kernel

theorem witness_IndexDecidesWithinItsBounds :
    (∃ s : State, s.dtmCluster 95 = true) ∧ (∃ s : State, s.throttle ≠ 0) ∧
    (∃ s : State, s.dtmCluster 95 = false ∧ s.throttle = 0 ∧ s.getF (Reg.IDX_CLB 95) Fld.IDX_CLB_FMIN ≤ s.getF (Reg.IDX_CLB 95) Fld.IDX_CLB_FMAX ∧
      s.getF (Reg.IDX_CLB 95) Fld.IDX_CLB_FMIN = 23) ∧
    (∃ l : List (Nat × Nat), l = [(0, 23), (95, 23)] ∧ ∀ e ∈ l, e.2 ≤ 23) ∧
    (∃ s : State, s.clustersOf 5 = [95] ∧ s.throttle = 0 ∧ s.wantPoint 95 18 = s.nominal ∧ credits (s.wantPoint 95 18) = s.share 5 - s.otherLeaves 5) ∧
    (∃ s : State, s.clustersOf 5 = [95] ∧ credits (s.wantPoint 95 23) = s.share 5 - s.otherLeaves 5 ∧ s.nominal < s.wantPoint 95 23) ∧
    (∃ s : State, s.code = .b1l ∧ s.clustersOf 5 = [95] ∧ s.throttle = 0 ∧ credits (s.wantPoint 95 15) ≤ s.share 5 - s.otherLeaves 5 ∧
      s.nominal < s.wantPoint 95 15) ∧
    (∃ s : State, s.fabUp 5 = true ∧ 1 ≤ s.getF (Reg.FAB_PORT_CTL 5) Fld.FAB_PORT_CTL_MINW) := by
  refine ⟨⟨booted.setCore 1535 { cpu [] with eff := { coreCtl := 1#64 } }, ?_⟩, ⟨booted.setF Reg.IDX_THERM Fld.IDX_THERM_LEVEL 1, ?_⟩,
    ⟨(pooled 0 0).setF (Reg.IDX_CLB 95) Fld.IDX_CLB_FMIN 23, ?_, ?_, ?_, ?_⟩, ⟨_, rfl, ?_⟩, ⟨pooled 20 0, ?_, ?_, ?_, ?_⟩, ⟨pooled 34 0, ?_, ?_, ?_⟩, ⟨{ pooled 34 0 with code := .b1l }, ?_, ?_, ?_, ?_, ?_⟩,
    ⟨trained 2 0 {}, ?_, ?_⟩⟩
  all_goals decide +kernel

/-- A throttle level in force, a hottest sensor and the limit 100 °C. -/
def hot (level sensor : Nat) : State :=
  ((pooled 99 22).setF Reg.IDX_THERM Fld.IDX_THERM_LEVEL level).setF Reg.IDX_THERM Fld.IDX_THERM_HOT sensor |>.setF Reg.IDX_THERM Fld.IDX_THERM_EMERG 100
def powered (s : State) (f : Power → Power) : State := { s with power := f s.power }

theorem witness_TheEmergencyThrottleCapsAndTrips :
    (∃ s : State, (99#8).toNat < s.emerg) ∧ (∃ s : State, s.emerg ≤ (100#8).toNat ∧ s.throttle = 0) ∧
    (∃ s : State, s.throttle = 1 ∧ s.emerg + 2 ≤ 102) ∧
    (∃ s : State, s.throttle = 0 ∧ s.power.prochotIn = true ∧ s.power.prochotOut = false) ∧ (∃ s : State, s.throttle ≤ 1 ∧ 20 ≤ s.power.overs) ∧
    (∃ s : State, s.throttle ≤ 1 ∧ s.getF (Reg.DMC_STAT 15) Fld.DMC_STAT_RATE = 2) ∧ (∃ s : State, s.throttle ≠ 2) ∧
    (∃ s : State, s.throttle = 2 ∧ s.level2Trigger = true) ∧ (∃ s : State, s.throttle = 2 ∧ s.level2Trigger = false) ∧
    (∃ s : State, s.throttle = 1 ∧ s.level2Trigger = false ∧ s.now + 1 = s.power.trigTb + 1000000 ∧
      s.getF Reg.IDX_THERM Fld.IDX_THERM_HOT + 5 < s.emerg) ∧
    (∃ s : State, s.throttle = 1 ∧ s.level2Trigger = false ∧ s.power.trigTb + 1000000 ≤ s.now ∧ s.emerg = s.getF Reg.IDX_THERM Fld.IDX_THERM_HOT + 5) ∧
    (∀ b : Bool, ∃ s : State, s.throttle = 2 ∧ s.level2Trigger = false ∧ s.power.trigTb + 1000000 = s.now ∧
      s.getF Reg.IDX_THERM Fld.IDX_THERM_HOT + 5 < s.emerg ∧ s.power.level1 = b) ∧
    (∃ s : State, s.power.prochotOut = true) ∧ (∃ s : State, s.power.prochotOut = false ∧ s.throttle = 1) ∧
    (∃ s : State, s.throttle = 1) ∧ (∃ s : State, s.throttle = 0) ∧
    (∃ s : State, s.ilim < (101#12).toNat ∧ 19 ≤ s.power.overs ∧ s.throttle ≤ 1) ∧ (∃ s : State, s.ilim = (100#12).toNat ∧ s.throttle ≤ 1) ∧
    (∃ s : State, s.boot.st ∈ [.noPower, .off, .offLocked]) ∧ (∃ s : State, s.boot.st ∉ [.noPower, .off, .offLocked]) := by
  refine ⟨⟨hot 0 0, ?_⟩, ⟨hot 0 0, ?_, ?_⟩, ⟨hot 1 0, ?_, ?_⟩, ⟨powered (hot 0 0) ({ · with prochotIn := true }), ?_, rfl, rfl⟩,
    ⟨powered (hot 1 0) ({ · with overs := 20 }), ?_, ?_⟩, ⟨(hot 1 0).setF (Reg.DMC_STAT 15) Fld.DMC_STAT_RATE 2, ?_, ?_⟩, ⟨hot 1 0, ?_⟩,
    ⟨hot 2 102, ?_, ?_⟩, ⟨hot 2 101, ?_, ?_⟩, ⟨{ hot 1 94 with tb := 999999#64 }, ?_, ?_, ?_, ?_⟩,
    ⟨{ hot 1 95 with tb := 1000000#64 }, ?_, ?_, ?_, ?_⟩,
    fun b => ⟨{ powered (hot 2 94) ({ · with level1 := b }) with tb := 1000000#64 }, ?_, ?_, ?_, ?_, rfl⟩,
    ⟨powered (hot 0 0) ({ · with prochotOut := true }), rfl⟩, ⟨hot 1 0, ?_, ?_⟩, ⟨hot 1 0, ?_⟩, ⟨hot 0 0, ?_⟩, ⟨powered ((hot 1 0).setF Reg.RMT_LIM Fld.RMT_LIM_ILIM 100) ({ · with overs := 19 }), ?_, ?_, ?_⟩,
    ⟨(hot 0 0).setF Reg.RMT_LIM Fld.RMT_LIM_ILIM 100, ?_, ?_⟩, ⟨State.reset, ?_⟩, ⟨booted, ?_⟩⟩
  all_goals first | decide +kernel | (revert b; decide +kernel)

/-! ### Handshakes, idle islands and wakes -/

/-- A handshake of island 95 that waits for its lead page. -/
def shake : Handshake := ⟨95, 2, false, false, [0x15F], 0, none, false⟩
/-- Handshakes in progress; the clusters without a compartment are compartment 5's. -/
def shaking (l : List Handshake) : State := (powered booted ({ · with hs := l })).wr (Reg.BLK_OWNER pageCMT) 5#64
def core95 (k : Core) (s : State) : State := s.setCore 1535 k
def island (i v : Nat) (s : State) : State := s.setF (Reg.PWC_ISL i) Fld.PWC_ISL_STATE v
def later (tb : Word) (s : State) : State := { s with tb := tb }

theorem witness_HandshakesAskEveryBlock :
    (∃ (s : State) (w : Who), Performed s .boot w (Reg.BLK_PWR (0x15F#12).toNat) ∧ s.islandState 95 = 1 ∧ leadPage 95 = 0x15F ∧ s.hsOf 95 = none) ∧
    (∃ (s : State) (w : Who), Performed s .boot w (Reg.BLK_PWR (0x15F#12).toNat) ∧ s.islandState 95 = 1 ∧ s.hsOf 95 ≠ none) ∧
    (∃ (s : State) (w : Who), Performed s .boot w Reg.PWC_DEV_REQ ∧ s.getF Reg.PWC_DEV_STAT Fld.PWC_DEV_STAT_RESULT ≠ 1) ∧
    (∃ s : State, s.isF (Reg.IDX_CLB 95) Fld.IDX_CLB_AUTO = true ∧ s.islandState 95 = 1 ∧ s.hsOf 95 = none ∧
      (∀ c ∈ clusterCores 95, (s.core c).run = .parked ∨ (s.core c).run = .off) ∧ s.islandFailed 95 = false) ∧
    (∃ s : State, s.isF (Reg.IDX_CLB 95) Fld.IDX_CLB_AUTO = false) ∧ (∃ s : State, s.hsWaiting 0x15F = none) ∧
    (∃ (s : State) (k : Nat), s.hsWaiting 0x15F = some shake ∧ s.hsReason shake 0x15F = some k) ∧
    (∀ b : Bool, ∃ s : State, s.hsWaiting 0x15F = some shake ∧ s.hsReason shake 0x15F = none ∧ s.hsCanAck 0x15F = b ∧
      shake.startTb + s.hsAllow shake * 1000 + 1 = s.now + 1 * 1000) ∧
    (∃ s : State, s.hsWaiting 0x15F = some shake ∧ s.now + 1 = shake.startTb + s.hsAllow shake * 1000) ∧
    (∃ s : State, s.hsWaiting 0x15F = some shake ∧ shake.startTb + s.hsAllow shake * 1000 = s.now) ∧
    (∃ (s : State) (h : Handshake), h.device = false ∧ h ∈ s.power.hs ∧ h.island = 135) ∧
    (∀ b : Bool, ∃ s : State, shake.island = 95 ∧ s.islandFailed 95 = false ∧ s.owner (0x100 + 95) % 64 ≠ 63 ∧ s.ist = [] ∧ (s.cluster 95).drain = none ∧
      (s.cluster 95).resetKind = none ∧ (s.hsReason shake (0x100 + 95)).isSome = b ∧ s.hsCanAck (0x100 + 95) = b) ∧
    (∃ s : State, s.hsOf 135 = none) ∧ (∃ s : State, s.hsOf 95 = some shake ∧ shake.refused = none) ∧
    (∃ (s : State) (h : Handshake), s.power.hs = [h] ∧ h.island = 95 ∧ h.device = false ∧ s.power.newReq = [] ∧ h.refused = some 8) ∧
    (∃ s : State, s.power.hs = [shake] ∧ shake.island = 95 ∧ shake.device = false ∧ shake.refused = none ∧ shake.waiting ≠ []) ∧
    (∃ (s : State) (h : Handshake), s.power.hs = [h] ∧ h.island = 95 ∧ h.device = false ∧ s.power.newReq = [] ∧ h.refused = none ∧ h.waiting = [] ∧
      h.target < 8) := by
  refine ⟨⟨island 95 1 booted, _, ⟨rfl, ?_⟩, ?_, ?_, ?_⟩, ⟨island 95 1 (shaking [shake]), _, ⟨rfl, ?_⟩, ?_, ?_⟩, ⟨booted, _, ⟨rfl, ?_⟩, ?_⟩,
    ⟨island 95 1 (booted.setF (Reg.IDX_CLB 95) Fld.IDX_CLB_AUTO 1), ?_, ?_, ?_, ?_, ?_⟩, ⟨booted.wr (Reg.IDX_CLB 95) 0#64, ?_⟩, ⟨booted, ?_⟩,
    ⟨(shaking [shake]).setF (Reg.PWC_ISL 95) Fld.PWC_ISL_FAILED 1, 8, ?_, ?_⟩,
    fun b => ⟨later 999001#64 (core95 { sb := if b then [] else [{ kind := .store, pa := 0x3008, size := 8 }] } (shaking [shake])), ?_, ?_, ?_, ?_⟩,
    ⟨later 999999#64 (shaking [shake]), ?_, ?_⟩, ⟨later 1000000#64 (shaking [shake]), ?_, ?_⟩, ⟨shaking [{ shake with island := 135 }], _, ?_, .head _, rfl⟩,
    fun b => ⟨core95 { run := if b then .running else .parked, sb := if b then [] else [{ kind := .store, pa := 0x3008, size := 8 }] } (shaking [shake]), rfl, ?_, ?_, ?_, ?_, ?_, ?_, ?_⟩,
    ⟨booted, ?_⟩, ⟨shaking [shake], ?_, rfl⟩, ⟨shaking [{ shake with refused := some 8 }], _, rfl, rfl, rfl, rfl, rfl⟩,
    ⟨shaking [shake], rfl, rfl, rfl, rfl, by decide⟩, ⟨shaking [{ shake with waiting := [] }], _, rfl, rfl, rfl, rfl, rfl, rfl, by decide⟩⟩
  all_goals first | decide +kernel | (revert b; decide +kernel)

theorem witness_IslandsIdleAndWake :
    (∃ s : State, (s.core 1535).run = .parked) ∧ (∃ s : State, (s.core 1535).run = .waiting) ∧ (∃ s : State, (s.core 1535).run = .running) ∧
    (∃ s : State, s.islandState 95 = 0 ∧ s.islandFailed 95 = false ∧ (∀ c ∈ clusterCores 95, (s.core c).idle = true ∨ (s.core c).run = .off)) ∧
    (∃ s : State, s.islandState 135 = 0 ∧ s.islandFailed 135 = false) ∧ (∃ s : State, s.islandState 135 = 1) ∧ (∃ s : State, s.islandFailed 135 = true) ∧
    (∃ s : State, s.islandFailed 95 = false ∧ s.power.hs = [shake] ∧ shake.island = 95 ∧ shake.device = false ∧ s.power.newReq = [] ∧ 95 ∈ s.power.wakeWait) ∧
    (∃ s : State, s.islandFailed 95 = false ∧ s.hsOf 95 = none ∧ s.islandState 95 = 2 ∧ s.devState = 0 ∧ 95 ∈ s.power.wakeWait) ∧
    (∃ s : State, s.islandFailed 95 = false ∧ s.hsOf 95 = none ∧ s.islandState 95 = 3 ∧ s.devState = 0 ∧ s.clusterWake 95 = true ∧ s.armed 1535 63 = true) ∧
    (∃ s : State, s.islandFailed 95 = false ∧ s.hsOf 95 = none ∧ s.islandState 95 = 2 ∧ s.devState = 0 ∧ 95 ∉ s.power.wakeWait ∧ s.clusterWake 95 = false) ∧
    (∃ s : State, s.isF (Reg.BLK_PWR 0x15F) Fld.BLK_PWR_AUTOWAKE = false) ∧ pageIsland 0xFFF = 255 ∧
    (∃ s : State, s.isF (Reg.BLK_PWR 0x15F) Fld.BLK_PWR_AUTOWAKE = true ∧ s.islandFailed 95 = false ∧ s.power.hs = [shake] ∧ s.power.newReq = []) ∧
    (∃ s : State, s.isF (Reg.BLK_PWR 0x15F) Fld.BLK_PWR_AUTOWAKE = true ∧ pageIsland 0x15F = 95 ∧ s.islandFailed 95 = false ∧ s.hsOf 95 = none ∧
      s.islandState 95 = 2 ∧ s.blockAsleep 0x15F = true) ∧ (∃ s : State, s.blockAsleep 0x15F = false) ∧
    (∃ s : State, s.isF (Reg.BLK_PWR 0x15F) Fld.BLK_PWR_AUTOWAKE = true ∧ s.blockAsleep 0x15F = true ∧
      (s.storeWaiting 0x15F).map (·.1) = some 1535) := by
  refine ⟨⟨core95 { run := .parked } booted, ?_⟩, ⟨core95 { run := .waiting } booted, ?_⟩, ⟨core95 { run := .running } booted, ?_⟩,
    ⟨(List.range 16).foldl (fun s i => s.setCore (1520 + i) { idle := true }) booted, ?_, ?_, ?_⟩, ⟨booted, ?_, ?_⟩, ⟨island 135 1 booted, ?_⟩,
    ⟨booted.setF (Reg.PWC_ISL 135) Fld.PWC_ISL_FAILED 1, ?_⟩, ⟨powered (shaking [shake]) ({ · with wakeWait := [95] }), ?_, rfl, rfl, rfl, rfl, .head _⟩,
    ⟨island 95 2 (powered booted ({ · with wakeWait := [95] })), ?_, ?_, ?_, ?_, ?_⟩,
    ⟨island 95 3 ((booted.wr (Reg.CII_PEND 95 15) 0x8000000000000000#64).wr (Reg.CII_EN 95 15) 0x8000000000000000#64), ?_, ?_, ?_, ?_, ?_, ?_⟩,
    ⟨island 95 2 booted, ?_, ?_, ?_, ?_, ?_, ?_⟩, ⟨booted.setF (Reg.BLK_PWR 0x15F) Fld.BLK_PWR_AUTOWAKE 0, ?_⟩, ?_,
    ⟨(shaking [shake]).setF (Reg.BLK_PWR 0x15F) Fld.BLK_PWR_AUTOWAKE 1, ?_, ?_, rfl, rfl⟩,
    ⟨island 95 2 (booted.setF (Reg.BLK_PWR 0x15F) Fld.BLK_PWR_AUTOWAKE 1), ?_, ?_, ?_, ?_, ?_, ?_⟩, ⟨booted, ?_⟩,
    ⟨island 95 2 (booted.setF (Reg.BLK_PWR 0x15F) Fld.BLK_PWR_AUTOWAKE 1) |>.setCore 1535 { sb := [{ kind := .store, mt := .devStrict, pa := pageAddr 0x15F + 0xF00, size := 8 }] }, ?_, ?_, ?_⟩⟩
  all_goals decide +kernel

/-! ### The timebase and resets -/

theorem witness_TheTimebaseIsSetAndSlewed :
    (∃ (s : State) (w : Who), Performed s .boot w Reg.TBC_SET ∧ s.getF Reg.FABG_SYNC Fld.FABG_SYNC_STATE = 1 ∧ s.isF Reg.FABG_SYNC Fld.FABG_SYNC_MASTER = false) ∧
    (∃ (s : State) (w : Who), Performed s .boot w Reg.TBC_SET ∧ s.getF Reg.FABG_SYNC Fld.FABG_SYNC_STATE = 2) ∧
    (∃ (s : State) (w : Who), Performed s .boot w Reg.TBC_SLEW) ∧ (∃ s : State, s.getF Reg.TBC_SLEW Fld.TBC_SLEW_PPB = 100000) ∧
    (∃ s : State, s.getF Reg.FABG_SYNC Fld.FABG_SYNC_STATE = 1 ∧ s.isF Reg.FABG_SYNC Fld.FABG_SYNC_MASTER = true) ∧
    (∃ s : State, s.tbSet = some 7#64) ∧ (∃ s : State, s.tbSet = none) := by
  refine ⟨⟨synced 1 0, _, ⟨rfl, ?_⟩, ?_, ?_⟩, ⟨synced 2 0, _, ⟨rfl, ?_⟩, ?_⟩, ⟨booted, _, rfl, ?_⟩, ⟨booted.setF Reg.TBC_SLEW Fld.TBC_SLEW_PPB 100000, ?_⟩,
    ⟨(synced 1 0).setF Reg.FABG_SYNC Fld.FABG_SYNC_MASTER 1, ?_, ?_⟩, ⟨{ booted with tbSet := some 7#64 }, rfl⟩, booted, rfl⟩
  all_goals decide +kernel

/-- The device at work with some state to lose. -/
def dirty (keep : Nat) : State :=
  { (((synced 1 9).setF Reg.RST_CFG Fld.RST_CFG_KEEPDRAM keep).wr (Reg.RST_ARB 3) 7#64).wr (Reg.CMT_CLUSTER 95) 0x45#64 with mem := [(0x3000, 5#8)], boot := { st := .running } }

theorem witness_DeviceResetsKeepWhatTheyMust :
    (∃ (s : State) (w : Who), Performed s .boot w Reg.RST_REQ ∧ w.wOrBoot = true) ∧
    (∃ (s : State) (w : Who), Performed s (.core 0) w Reg.RST_REQ ∧ w.wOrBoot = false) ∧
    (∃ s : State, s.boot.st = .noPower) ∧ (999#64).toNat < 1000 ∧
    (∃ s : State, s.boot.st ≠ .noPower ∧ s.boot.st ≠ .offLocked ∧ 1000 ≤ (1000#64).toNat ∧ (99999999#64).toNat < 100000000) ∧
    (∃ s : State, s.boot.st = .offLocked ∧ 100000000 ≤ (100000000#64).toNat) ∧
    (∃ (s t : State) (f : Frame), Taken s 5 f 0x25#8 t ∧ f.opnd ≠ s.rd Reg.FABG_RSTKEY) ∧
    (∀ x : Bool, ∃ (s t : State) (f : Frame), Taken s 5 f 0x25#8 t ∧ f.opnd = s.rd Reg.FABG_RSTKEY ∧ s.isF Reg.FABG_CTL Fld.FABG_CTL_RSTIN = x) ∧
    (∃ s : State, s.ring = false ∧ 5 ∈ s.resetPorts 0 none) ∧ (∃ s : State, s.ring = true ∧ s.getF Reg.FABG_NODE Fld.FABG_NODE_RINGN = 8 ∧ 5 ∈ s.resetPorts 7 none) ∧
    (∃ (s : State) (w : Who), Performed s .boot w Reg.FABG_CTL) := by
  have fwd : ∀ r : Bool, 5 ∈ (((linked r booted).setF (Reg.FABG_SUB 5) Fld.FABG_SUB_EN 1).setF (Reg.FABG_SUB 5) Fld.FABG_SUB_RSTFWD 1).resetPorts 7 none := by decide +kernel
  have fwd0 : 5 ∈ (((linked false booted).setF (Reg.FABG_SUB 5) Fld.FABG_SUB_EN 1).setF (Reg.FABG_SUB 5) Fld.FABG_SUB_RSTFWD 1).resetPorts 0 none := by decide +kernel
  refine ⟨⟨booted, _, ⟨rfl, ?_⟩, rfl⟩, ⟨platformCore.wr (Reg.BLK_OWNER (Reg.RST_REQ / 4096)) 5#64, _, ⟨rfl, ?_⟩, rfl⟩, ⟨State.reset, rfl⟩, by decide, ⟨booted, ?_, ?_, ?_, ?_⟩,
    ⟨{ booted with boot := { st := .offLocked } }, rfl, by decide⟩,
    ⟨linked false booted, _, { frame 0x25#8 2#2 0 0 with opnd := 1#64 }, taken_of _ _ _ ?_ rfl ?_ ?_ ?_, ?_⟩,
    fun x => ⟨if x then (linked false booted).setF Reg.FABG_CTL Fld.FABG_CTL_RSTIN 1 else linked false booted, _, frame 0x25#8 2#2 0 0, taken_of _ _ _ ?_ rfl ?_ ?_ ?_, ?_, ?_⟩,
    ⟨_, ?_, fwd0⟩, ⟨_, ?_, ?_, fwd true⟩, ⟨booted, _, rfl, ?_⟩⟩
  all_goals first | decide +kernel | (revert x; decide +kernel)

theorem witness_NarrowResetsReachTheirTargets :
    (∃ (s : State) (w : Who), Performed s .boot w Reg.RST_REQ ∧ w.boot = true ∧ s.clustersOf 62 = []) ∧
    (∃ (s : State) (w : Who), Performed s (.core 16) w Reg.RST_REQ ∧ w.boot = false ∧ w.isH s.platform = false ∧ w.isH (s.cid 0) = false ∧ w.wOrBoot = false) ∧
    (∃ (s : State) (w : Who), Performed s .boot w Reg.RST_REQ ∧ w.boot = true ∧ s.clustersOf 5 = [95] ∧ (s.cluster 95).resetKind = none ∧ (s.cluster 95).drain = none ∧
      s.islandState 95 = 1 ∧ s.hsOf 95 = none ∧ (s.core 1535).resetting = none) ∧
    (∃ (s : State) (w : Who), Performed s .boot w Reg.RST_REQ ∧ w.wOrBoot = true ∧ (s.cluster 95).resetKind ≠ none) ∧
    (∃ s : State, ∀ c ∈ clusterCores 95, (s.core c).resetting ≠ none) ∧
    (Blk.ofPage (0xFFF#12).toNat = none ∧ ∃ b i, Blk.ofPage (0x15F#12).toNat = some (b, i)) ∧
    (∃ (s : State) (w : Who), Performed s (.core 16) w Reg.RST_REQ ∧ w.boot = false ∧ s.wardenOwned w 0x10 = true) ∧
    (∃ (s : State) (w : Who), Performed s (.core 16) w Reg.RST_REQ ∧ w.boot = false ∧ s.isOwner w 0x15F = false) ∧
    (∃ (s : State) (w : Who), Performed s (.core 0) w Reg.RST_REQ ∧ s.wardenOwned w 0x100 = false ∧ s.isOwner w 0x100 = true) ∧
    (∃ (s : State) (w : Who), Performed s .boot w (Reg.RST_ARB 3) ∧ 3 ∉ s.boot.arbBad ∧ s.getF (Reg.RST_ARB 3) Fld.RST_ARB_MIN = 0xFFFFFFFE) ∧
    (∃ (s : State) (w : Who), Performed s .boot w (Reg.RST_ARB 3) ∧ 3 ∈ s.boot.arbBad) := by
  let other : State := ((platformCore.wr (Reg.CMT_CLUSTER 1) 0x46#64).setCore 16 (cpu [])).wr (Reg.BLK_OWNER (Reg.RST_REQ / 4096)) 6#64
  let own : State := platformCore.wr (Reg.BLK_OWNER (Reg.RST_REQ / 4096)) 5#64
  refine ⟨⟨booted, _, ⟨rfl, ?_⟩, rfl, ?_⟩, ⟨other, _, ⟨rfl, ?_⟩, ?_, ?_, ?_, ?_⟩, ⟨island 95 1 (pooled 0 0), _, ⟨rfl, ?_⟩, rfl, ?_, ?_, ?_, ?_, ?_, ?_⟩,
    ⟨booted.setCluster 95 { resetKind := some 1 }, _, ⟨rfl, ?_⟩, rfl, ?_⟩, ⟨(List.range 16).foldl (fun s i => s.setCore (1520 + i) { resetting := some 1 }) booted, ?_⟩,
    ⟨by decide, _, _, rfl⟩, ⟨other.wr (Reg.BLK_OWNER 0x10) 0xFF#64, _, ⟨rfl, ?_⟩, ?_, ?_⟩, ⟨other, _, ⟨rfl, ?_⟩, ?_, ?_⟩, ⟨own, _, ⟨rfl, ?_⟩, ?_, ?_⟩,
    ⟨booted.wr (Reg.RST_ARB 3) 0xFFFFFFFE#64, _, ⟨rfl, ?_⟩, ?_, ?_⟩, ⟨{ booted with boot := { booted.boot with arbBad := [3] } }, _, ⟨rfl, ?_⟩, ?_⟩⟩
  all_goals decide +kernel

/-! ### Start-up, management, hand-over, parcels -/

/-- A start-up report without a fault. -/
def clean : StartReport := ⟨true, true, true, [], [], [], [], [], 0, false, 0, (booted.dram).geom, []⟩
def at_ (b : BootState) (s : State) : State := { s with boot := { s.boot with st := b } }
/-- DRAM hold with channel 15 untrained, and a remontoir pool. -/
def holding15 (pool : Nat) : State :=
  let s := (booted.wr (Reg.DMC_STAT 15) 0#64).setF Reg.RMT_LIM Fld.RMT_LIM_PLAT pool
  let t := (List.range 15).foldl (fun s m => s.setF (Reg.DMC_STAT m) Fld.DMC_STAT_PRESENT 1) s
  { t with boot := { st := .dramHold, report := some { clean with untrained := [15] } } }
def retried (n i : Nat) : State := (at_ .starting booted).setF Reg.RST_WAKE Fld.RST_WAKE_RETRY n |>.setF Reg.RST_WAKE Fld.RST_WAKE_ISLAND i

theorem witness_StartUpFollowsItsSteps :
    (∃ s : State, s.boot.st ≠ .noPower ∧ s.boot.st ≠ .starting ∧ s.boot.st ≠ .dramHold ∧ s.boot.st ≠ .running) ∧ (∃ s : State, s.boot.st = .noPower) ∧
    (∃ s : State, s.boot.st = .starting ∧ s.isF Reg.RST_CFG Fld.RST_CFG_KEEPDRAM = false ∧ s.isF Reg.DMG_CFG Fld.DMG_CFG_LOCK = false) ∧
    (∃ r : StartReport, r.xtal25 = false) ∧
    (∃ r : StartReport, r.xtal25 = true ∧ State.mainBad r (fun j => decide (j = 133 ∨ j = 134)) = some 134) ∧
    (∃ (s : State) (r : StartReport), (s.boot.st = .noPower ∨ s.boot.st = .starting) ∧ Clean r ∧ ¬SingleRankB s r ∧ s.boot.st ≠ .waitHandover ∧
      s.committed none + 640 = s.poolSize none) ∧
    (∃ (s : State) (r : StartReport), s.boot.st = .starting ∧ Clean r ∧ SingleRankB s r) ∧
    (∃ r : StartReport, Clean { r with untrained := [] } ∧ r.untrained = [15] ∧ r.spare = false) ∧
    (∃ s : State, s.boot.st = .starting ∧ s.getF Reg.RST_WAKE Fld.RST_WAKE_ISLAND ≠ 135) ∧
    (∃ s : State, s.boot.st = .starting ∧ s.getF Reg.RST_WAKE Fld.RST_WAKE_ISLAND = 135 ∧ s.getF Reg.RST_WAKE Fld.RST_WAKE_RETRY = 2) ∧
    (∃ s : State, s.boot.st = .starting ∧ s.getF Reg.RST_WAKE Fld.RST_WAKE_ISLAND = 134 ∧ s.getF Reg.RST_WAKE Fld.RST_WAKE_RETRY = 3 ∧ mainIsland 134 = true) ∧
    (∃ s : State, s.boot.st = .starting ∧ s.getF Reg.RST_WAKE Fld.RST_WAKE_ISLAND = 95 ∧ s.getF Reg.RST_WAKE Fld.RST_WAKE_RETRY = 3) ∧
    (∀ b : Bool, ∃ (s u : State) (r : StartReport), s.boot.st = .dramHold ∧ s.boot.report = some r ∧ r.geoms = [] ∧
      (r.geom.rankBits.val ≠ 0 ∨ s.orderB = false) ∧ r.ivrFailed = [] ∧ s.dram.copyWait = none ∧ s.sparing = false ∧
      s.isF (Reg.DMC_STAT 15) Fld.DMC_STAT_PRESENT = false ∧ (∀ m, m < 16 → m ≠ 15 → s.isF (Reg.DMC_STAT m) Fld.DMC_STAT_PRESENT = true) ∧
      s.askLeave (.dram 15) = (u, b)) := by
  have ask : ∀ b : Bool, ∃ u, (holding15 (if b then 4095 else 0)).askLeave (.dram 15) = (u, b) := by
    intro b
    cases b <;> exact bool_pair _ _ (by decide +kernel)
  refine ⟨⟨booted, ?_, ?_, ?_, ?_⟩, ⟨State.reset, rfl⟩, ⟨at_ .starting booted, rfl, ?_, ?_⟩, ⟨{ clean with xtal25 := false }, rfl⟩,
    ⟨{ clean with ivrFailed := [134] }, rfl, ?_⟩,
    ⟨at_ .starting (booted.setF Reg.RMT_LIM Fld.RMT_LIM_PLAT 640), clean, .inr rfl, ⟨rfl, rfl, rfl, rfl, rfl, rfl, rfl, rfl, rfl⟩, ?_, ?_, ?_⟩,
    ⟨at_ .starting booted, { clean with geom := { (booted.dram).geom with rankBits := 0 }, order := 1 }, rfl,
      ⟨rfl, rfl, rfl, rfl, rfl, rfl, rfl, rfl, rfl⟩, rfl, ?_⟩,
    ⟨{ clean with untrained := [15] }, ⟨rfl, rfl, rfl, rfl, rfl, rfl, rfl, rfl, rfl⟩, rfl, rfl⟩, ⟨retried 0 0, rfl, ?_⟩, ⟨retried 2 135, rfl, ?_, ?_⟩,
    ⟨retried 3 134, rfl, ?_, ?_, ?_⟩, ⟨retried 3 95, rfl, ?_, ?_⟩, fun b => ?ask⟩
  case ask =>
    obtain ⟨u, hu⟩ := ask b
    refine ⟨_, u, _, rfl, rfl, rfl, ?_, rfl, rfl, ?_, ?_, ?_, hu⟩
    all_goals (clear hu; revert b; decide +kernel)
  all_goals first | decide +kernel | (rintro ⟨h, _⟩; exact absurd h (by decide +kernel))

theorem witness_ManagementAndSuppliesActAsStated :
    (∃ s : State, s.boot.st = .limp) ∧ (∃ s : State, s.boot.st = .recoveryHold) ∧ (∃ s : State, s.boot.st = .dramHold) ∧ (∃ s : State, s.boot.st = .off) ∧
    (∃ s : State, s.boot.st = .offLocked) ∧
    (∃ s : State, s.boot.st ∉ [.noPower, .limp, .recoveryHold, .dramHold, .off, .offLocked] ∧ s.power.hs = [] ∧ s.pins.pwrgood = true) ∧
    (∃ s : State, s.pins.pwrgood = false) ∧ (List.replicate 256 (0#8 : Byte)).length ≤ 256 ∧ 256 < (List.replicate 257 (0#8 : Byte)).length ∧
    (∃ s : State, s.boot.st = .noPower ∧ s.pins.pwrgood = true) := by
  refine ⟨⟨at_ .limp booted, rfl⟩, ⟨at_ .recoveryHold booted, rfl⟩, ⟨at_ .dramHold booted, rfl⟩, ⟨at_ .off booted, rfl⟩, ⟨at_ .offLocked booted, rfl⟩,
    ⟨{ booted with pins := { booted.pins with pwrgood := true } }, by decide, rfl, rfl⟩, ⟨{ booted with pins := { booted.pins with pwrgood := false } }, rfl⟩, Nat.le_of_eq List.length_replicate, by rw [List.length_replicate]; decide,
    ⟨{ State.reset with pins := { State.reset.pins with pwrgood := true } }, rfl, rfl⟩⟩

theorem witness_HandOverStartsThePlatform :
    (∃ (s : State) (w : Who), s.who (.core 0) = some w ∧ w.boot = false) ∧
    (∃ (s : State) (w : Who), Performed s .boot w Reg.RST_HOV_CTL ∧ s.boot.hovLocked = true) ∧
    (∃ (s : State) (w : Who), Performed s .boot w Reg.RST_HOV_CTL ∧ w.boot = true ∧ s.boot.hovLocked = false ∧ (0#64).getLsbD 52 = false) ∧
    (∃ (s : State) (w : Who) (v : Word), Performed s .boot w Reg.RST_HOV_CTL ∧ w.boot = true ∧ s.boot.hovLocked = false ∧ v.getLsbD 52 = true ∧
      s.boot.st = .waitHandover ∧ v.toNat / 64 % 128 = 95) := by
  refine ⟨⟨platformCore, _, rfl, ?_⟩,
    ⟨{ booted with boot := { st := .waitHandover, hovLocked := true } }, _, ⟨rfl, ?_⟩, rfl⟩, ⟨booted, _, ⟨rfl, ?_⟩, rfl, rfl, rfl⟩,
    ⟨booted, _, BitVec.ofNat 64 (2 ^ 52 + 95 * 64 + 5), ⟨rfl, ?_⟩, rfl, rfl, ?_, rfl, ?_⟩⟩
  all_goals decide +kernel

theorem witness_DecodedParcelsAreWellFormedAndDistinct :
    (∃ i n, decodeParcels 0 [0x3B00#16, 0xFFFF#16, 0xFFFF#16] = some (i, n)) ∧ (∃ i, decodeOne 0 0x0002#16 = some i) ∧ parcelUndefined 0x3F00#16 = true :=
  ⟨⟨_, _, rfl⟩, ⟨_, rfl⟩, rfl⟩

/-! ### The manual's worked examples and tables -/

theorem test_parcels : ParcelsOfEachClassDecode := by
  intro c
  refine ⟨rfl, rfl, rfl, rfl, rfl, rfl, rfl, rfl, rfl, rfl, rfl, rfl, rfl, rfl, rfl, rfl⟩

/-- The branch of "a loop with an annulled delay slot". -/
theorem test_loop_branch : decodeParcels 0 [0x9E78#16, 0x0005#16, 0x000B#16, 0xB001#16] = some (.bnz 0 true true 0x78#7 [] 0x0005#16, 1) := by decide

/-- The state behind a command. -/
def after (i : Instr) (s : State) : State := match exec i s with | .next t => t | _ => s
/-- What an operation leaves on the stack, with V and DZ. -/
def pushes (i : Instr) (st : List Word) : List Word × Bool × Bool :=
  let k := (after i (on (cpu st))).core 0
  (k.stack, k.v, k.dz)

/-- R87. -/
theorem test_edges_of_sums_and_products :
    pushes (.add 0) [1#64, (~~~minW)] = ([minW], true, false) ∧ pushes (.sub 0) [1#64, minW] = ([(~~~minW)], true, false) ∧
    pushes (.neg 0) [minW] = ([minW], true, false) ∧ pushes (.mul 0) [BitVec.ofNat 64 (2 ^ 32), BitVec.ofNat 64 (2 ^ 32)] = ([0#64], true, false) ∧
    pushes (.mul 0) [minW, onesW] = ([minW], true, false) ∧ pushes (.mulhs 0) [minW, onesW] = ([0#64], false, false) ∧
    pushes (.mulhu 0) [onesW, onesW] = ([0xFFFFFFFFFFFFFFFE#64], false, false) := by decide +kernel

theorem test_edges_of_divisions :
    pushes (.div 0) [onesW, minW] = ([minW], true, false) ∧ pushes (.rem 0) [onesW, minW] = ([0#64], false, false) ∧
    pushes (.div 0) [2#64, -7#64] = ([-3#64], false, false) ∧ pushes (.rem 0) [2#64, -7#64] = ([-1#64], false, false) ∧
    pushes (.div 0) [0#64, 7#64] = ([onesW], false, true) ∧ pushes (.rem 0) [0#64, 7#64] = ([7#64], false, true) ∧
    pushes (.divu 0) [0#64, 7#64] = ([onesW], false, true) ∧ pushes (.remu 0) [0#64, 7#64] = ([7#64], false, true) ∧
    pushes (.divu 0) [2#64, onesW] = ([(~~~minW)], false, false) := by decide +kernel

theorem test_edges_of_shifts :
    pushes (.shl 0) [64#64, 1#64] = ([0#64], false, false) ∧ pushes (.shr 0) [onesW, onesW] = ([0#64], false, false) ∧
    pushes (.sar 0) [200#64, minW] = ([onesW], false, false) ∧ pushes (.sar 0) [64#64, (~~~minW)] = ([0#64], false, false) ∧
    pushes (.rol 0) [65#64, 1#64] = ([2#64], false, false) ∧ pushes (.ror 0) [1#64, 1#64] = ([minW], false, false) := by decide +kernel

/-- The CRC-32C of "123456789", as the example of R96 computes it. -/
theorem test_seal :
    ((after (.zextw 0) (after (.not 0) (after (.sealB 0) (after (.lit 0 0x39#11) (after (.sealD 0)
      (on (cpu [0x3837363534333231#64, 0xFFFFFFFF#64]))))))).core 0).stack = [0xE3069283#64] := by decide +kernel


/-- Round 1 of the example of FIPS 197, appendix B, and the first word of its key expansion (R97). -/
theorem test_aes :
    ((after (.aese 0) (on (cpu [0x05766C2A3939A323#64, 0xB12C548817FEFAA0#64, 0x0848F8E92A8DC69A#64, 0x2BE2F4A0BEE33D19#64]))).core 0).stack =
      [0x49506A0243EA5B6B#64, 0x2B359F68F27F9CA4#64] ∧
    ((after (.aeskg 0) (on (cpu [1#64, 0x3C4FCF09#64]))).core 0).stack = [0x01EB848B#64] := by decide +kernel

/-- "An exception in a delay slot". -/
theorem test_exception_in_a_delay_slot :
    let k : Core := { cpu [1#64, 0#64, 9#64] with
      lvl := 0#2, pc := 0x2010#64, dztrap := true, bankU := ⟨0#64, 0x7FFFFFF8#64, 0x7F000100#64⟩, eff := { evbK := 0x100000#64 }, sync := { evbK := 0x100000#64 } }
    let t := (after (.bnz 0 false true 0x18#7 [] 0x1013#16) (((State.reset.wr Reg.DMG_TOP 0x80000000#64).setLine 0x4001
      (some ⟨0#512, false, false, 0, 0, [⟨0, .s, [], [0]⟩]⟩)).setCore 0 k)).core 0
    t.pc = 0x100060#64 ∧ t.excK.epc = 0x2010#64 ∧ t.excK.ecause = 0x406#64 ∧ t.bankU.osp = 0x7F000118#64 ∧ t.lvl = 1#2 ∧ t.stack = [] ∧
      t.sb.map (fun e => (e.pa, e.data)) = [(0x7F000100, 9#64), (0x7F000108, 0#64), (0x7F000110, 1#64)] := by decide +kernel

/-- "Decoding an address", without sparing and with the spare in channel 15. -/
theorem test_dram_address :
    let s : State := { State.reset.wr Reg.DMG_CFG 1#64 with dram := { State.reset.dram with geom := ⟨false, 2, true, 0, 8000⟩ } }
    s.dramAddr 0x00408A016A18 = ⟨4, 0, 5, 2, 0, 0x408A, 1, 0⟩ ∧
    ((s.wr Reg.DMG_CFG 5#64).wr Reg.DMG_CHMAP 0xEDCBA9876543210#64).dramAddr 0x00408A016A18 = ⟨1, 0, 5, 2, 0, 17623, 61, 0⟩ := by decide +kernel

/-- "A share under pressure". -/
theorem test_share_under_pressure :
    let want : List (Nat × Nat) := [(24, 23), (25, 23), (26, 23), (27, 23), (28, 23), (29, 23), (30, 18), (31, 18), (32, 18), (33, 18), (34, 18), (35, 18)]
    (want.map (fun e => credits e.2)).sum = 324 ∧
    (fitShare 288 want 300).map (·.2) = [22, 22, 22, 22, 21, 21, 18, 18, 18, 18, 18, 18] ∧
    (fitShare 288 want 294).map (·.2) = [22, 22, 22, 21, 21, 21, 18, 18, 18, 18, 18, 18] := by decide +kernel

/-- "Reaching a sleeping cluster's pages": BLK_ID and BLK_PWR of cluster 30. -/
theorem test_block_identity : (State.reset.rd (0x11E * 4096)) = 0x111E11E#64 := by decide +kernel

end Sys2Proof.Tests
end

section
/-! What the delivery of waiting events leaves alone: the words at the head of page 0, below IRQ_STAT. Routing an event logs, counts, sets
pending bits and pushes frames through coherent memory, and every register that it writes lies at IRQ_STAT of its page or above. -/

namespace Sys2Proof.Machine

/-- The words of page 0 below IRQ_STAT read in `t` as they read in `s`. -/
def KeepsHeader (s t : State) : Prop := ∀ k, k < 0x40 → t.rd k = s.rd k

variable {s t u : State}

theorem KeepsHeader.refl (s : State) : KeepsHeader s s := fun _ _ => rfl

theorem KeepsHeader.trans (h : KeepsHeader s t) (k : KeepsHeader t u) : KeepsHeader s u := fun r hr => (k r hr).trans (h r hr)

/-- An update that touches no register. -/
theorem KeepsHeader.of_regs (hr : t.regs = s.regs) (hc : t.code = s.code := by rfl) : KeepsHeader s t := fun k _ => by
  unfold State.rd
  rw [hr, hc]

theorem KeepsHeader.with_dram (s : State) (d : Dram) : KeepsHeader s { s with dram := d } := .of_regs rfl
theorem KeepsHeader.with_io (s : State) (x : Io) : KeepsHeader s { s with io := x } := .of_regs rfl

theorem KeepsHeader.ite {p : Prop} [Decidable p] (h : KeepsHeader s t) (k : KeepsHeader s u) : KeepsHeader s (if p then t else u) := by
  split <;> assumption

theorem KeepsHeader.foldl {γ : Type} {f : State → γ → State} (h : ∀ s c, KeepsHeader s (f s c)) (l : List γ) (s : State) :
    KeepsHeader s (l.foldl f s) := by
  induction l generalizing s with
  | nil => exact .refl s
  | cons c l ih => exact (h s c).trans (ih (f s c))

/-- The same for a fold that carries an answer beside the state. -/
theorem KeepsHeader.foldl_fst {γ α : Type} {f : State × α → γ → State × α} (h : ∀ p c, KeepsHeader p.1 (f p c).1) (l : List γ) (p : State × α) :
    KeepsHeader p.1 (l.foldl f p).1 := by
  induction l generalizing p with
  | nil => exact .refl p.1
  | cons c l ih => exact (h p c).trans (ih (f p c))

/-! ### Named writes of registers -/

/-- A register at IRQ_STAT of its page or above is no word of the header. -/
theorem header_le_regKey (page : Nat) {off : Nat} (h : 0x40 ≤ off) : 0x40 ≤ regKey page off := by unfold regKey; omega

theorem State.wr_keepsHeader (s : State) {k : Nat} (v : Word) (h : 0x40 ≤ k) : KeepsHeader s (s.wr k v) :=
  fun _ hr => s.rd_wr_ne v (by omega)
theorem State.setF_keepsHeader (s : State) {k : Nat} (f : Fld) (x : Nat) (h : 0x40 ≤ k) : KeepsHeader s (s.setF k f x) := s.wr_keepsHeader _ h
theorem State.addF_keepsHeader (s : State) {k : Nat} (f : Fld) (x : Nat) (h : 0x40 ≤ k) : KeepsHeader s (s.addF k f x) := s.wr_keepsHeader _ h

/-! ### Logs, interrupt lines, pending bits -/

theorem State.irqFire_keepsHeader (s : State) (page : Nat) (old : Word) : KeepsHeader s (s.irqFire page old) := by
  unfold State.irqFire
  exact .ite (.of_regs rfl) (.refl s)

theorem State.irqRaise_keepsHeader (s : State) (page : Nat) (bits : Word) : KeepsHeader s (s.irqRaise page bits) :=
  (s.wr_keepsHeader (k := Reg.IRQ_STAT page) _ (header_le_regKey page (by decide))).trans (State.irqFire_keepsHeader _ _ _)

theorem State.logErr_keepsHeader (s : State) (page sev : Nat) (addr info : Word) : KeepsHeader s (s.logErr page sev addr info) := by
  have stat (t : State) (f : Fld) (x : Nat) : KeepsHeader t (t.setF (Reg.ERR_STAT page) f x) :=
    t.setF_keepsHeader f x (header_le_regKey page (by decide))
  have count (t : State) (f : Fld) : KeepsHeader t (t.addF (Reg.ERR_COUNT page) f 1) := t.addF_keepsHeader f 1 (header_le_regKey page (by decide))
  have word (t : State) (off : Nat) (v : Word) (h : 0x40 ≤ off) : KeepsHeader t (t.wr (regKey page off) v) :=
    t.wr_keepsHeader v (header_le_regKey page h)
  unfold State.logErr
  refine .trans ?_ (State.irqRaise_keepsHeader _ _ _)
  refine .trans (.trans ?_ (word _ 0x88 addr (by decide))) (word _ 0x90 info (by decide))
  refine .trans (.trans ?_ (count _ _)) (.ite (.refl _) (count _ _))
  exact ((stat _ _ _).trans (.ite (stat _ _ _) (stat _ _ _))).trans (.ite (stat _ _ _) (.refl _))

theorem State.logErrOpen_keepsHeader (s : State) (page sev pa : Nat) : KeepsHeader s (s.logErrOpen page sev pa) :=
  (KeepsHeader.of_regs (t := s.tick) rfl).trans (State.logErr_keepsHeader _ _ _ _ _)

theorem State.strayDrop_keepsHeader (s : State) (attr cluster core vec : Nat) : KeepsHeader s (s.strayDrop attr cluster core vec) := by
  have atl (t : State) (off : Nat) (v : Word) (h : 0x40 ≤ off) : KeepsHeader t (t.wr (regKey 6 off) v) := t.wr_keepsHeader v (header_le_regKey 6 h)
  unfold State.strayDrop State.stray
  refine .trans (.trans (.trans (atl _ _ _ ?_) (atl _ _ _ ?_)) (atl _ _ _ ?_)) (atl _ _ _ ?_) <;> omega

theorem State.setPend_keepsHeader (s : State) (core id : Nat) : KeepsHeader s (s.setPend core id) :=
  s.wr_keepsHeader _ (header_le_regKey _ (by omega))

/-! ### Memory and its controllers -/

theorem State.memPut_keepsHeader (s : State) (l : Nat) (d : BitVec 512) (mask : BitVec 64) : KeepsHeader s (s.memPut l d mask) := by
  unfold State.memPut
  exact .foldl (fun t _ => .ite (.of_regs (State.memSet_regs t _ _)) (.refl t)) _ s

theorem State.setPoison_keepsHeader (s : State) (l : Nat) (b : Bool) : KeepsHeader s (s.setPoison l b) := .of_regs rfl

theorem State.memWrite_keepsHeader (s : State) (l : Nat) (d : BitVec 512) (mask : BitVec 64) (p : Bool) : KeepsHeader s (s.memWrite l d mask p) := by
  unfold State.memWrite
  dsimp only
  exact ((KeepsHeader.with_dram s _).trans (State.memPut_keepsHeader _ l d mask)).trans (State.setPoison_keepsHeader _ l _)

theorem State.charge_keepsHeader (s : State) (p : Nat) (key : Option (Nat × Nat)) (i n : Nat) : KeepsHeader s (s.charge p key i n) := by
  unfold State.charge
  split
  · exact .refl s
  · exact .ite (.refl s) (.of_regs rfl)

theorem State.queuedWrite_keepsHeader (s : State) (r : DramReq) : KeepsHeader s (s.queuedWrite r) :=
  .trans (.trans (.ite (.refl s) (s.charge_keepsHeader _ _ _ _)) (State.charge_keepsHeader _ _ _ _ _)) (State.memWrite_keepsHeader _ _ _ _ _)

theorem State.settleLine_keepsHeader (s : State) (l : Nat) : KeepsHeader s (s.settleLine l) :=
  .trans (.foldl State.queuedWrite_keepsHeader _ s) (.of_regs rfl)

theorem State.takeInject_keepsHeader (s : State) (page cid : Nat) : KeepsHeader s (s.takeInject page cid).2 := by
  unfold State.takeInject
  dsimp only
  split
  · exact s.setF_keepsHeader _ _ (header_le_regKey page (by decide))
  · exact .refl s

theorem State.logDmc_keepsHeader (s : State) (pa kind sev sym word : Nat) (scrub : Bool) : KeepsHeader s (s.logDmc pa kind sev sym word scrub) :=
  s.logErr_keepsHeader _ _ _ _

theorem State.dmcCheck_keepsHeader (s : State) (cid l : Nat) : KeepsHeader s (s.dmcCheck cid l).1 := by
  have h := s.takeInject_keepsHeader (pageDMC (s.dramAddr (l * 64)).ch) cid
  unfold State.dmcCheck
  dsimp only
  generalize s.takeInject (pageDMC (s.dramAddr (l * 64)).ch) cid = p at h ⊢
  obtain ⟨inj, t⟩ := p
  have counted : KeepsHeader t (if inj.isSome then t.openWord else (0#64, t)).2 := by
    split
    · exact .of_regs rfl
    · exact .refl t
  dsimp only at h ⊢
  generalize (if inj.isSome then t.openWord else (0#64, t)) = q at counted ⊢
  obtain ⟨w, u⟩ := q
  refine (h.trans counted).trans ?_
  split
  · exact (KeepsHeader.with_dram u _).trans (State.logDmc_keepsHeader _ _ _ _ _ _ _)
  · exact State.logDmc_keepsHeader _ _ _ _ _ _ _
  · exact State.logDmc_keepsHeader _ _ _ _ _ _ _
  · exact State.logDmc_keepsHeader _ _ _ _ _ _ _
  · split
    · exact State.logDmc_keepsHeader _ _ _ _ _ _ _
    · exact .refl u

theorem State.dmcRead_keepsHeader (s : State) (cid : Nat) (key : Option (Nat × Nat)) (l : Nat) : KeepsHeader s (s.dmcRead cid key l).1 :=
  ((s.settleLine_keepsHeader l).trans (State.charge_keepsHeader _ _ _ _ _)).trans (State.dmcCheck_keepsHeader _ _ _)

theorem State.dmcWrite_keepsHeader (s : State) (key : Option (Nat × Nat)) (l : Nat) (d : BitVec 512) (mask : BitVec 64) (p : Bool) :
    KeepsHeader s (s.dmcWrite key l d mask p) :=
  .ite (.refl s) (((s.settleLine_keepsHeader l).trans (.ite (.refl _) (State.charge_keepsHeader _ _ _ _ _))).trans
    ((State.charge_keepsHeader _ _ _ _ _).trans (State.memWrite_keepsHeader _ _ _ _ _)))

/-! ### Coherent lines -/

theorem State.setLine_keepsHeader (s : State) (l : Nat) (x : Option CLine) : KeepsHeader s (s.setLine l x) := by
  cases x <;> exact .of_regs rfl

theorem State.logNoSlot_keepsHeader (s : State) (w pa : Nat) : KeepsHeader s (s.logNoSlot w pa) := s.logErrOpen_keepsHeader _ _ _

theorem State.refusalIrq_keepsHeader (s : State) (r : Req) : KeepsHeader s (s.refusalIrq r) := by
  unfold State.refusalIrq
  split
  · exact s.setPend_keepsHeader _ _
  · split
    · exact s.setPend_keepsHeader _ _
    · exact .refl s

theorem State.logColor_keepsHeader (s : State) (r : Req) (pa : Nat) : KeepsHeader s (s.logColor r pa) := by
  unfold State.logColor
  exact (s.logErr_keepsHeader _ _ _ _).trans (State.refusalIrq_keepsHeader _ r)

theorem State.pull_keepsHeader (s : State) (l : Nat) (p : L2Copy → Bool) : KeepsHeader s (s.pull l p) := by
  unfold State.pull
  split
  · exact .refl s
  · refine .foldl (fun t c => ?_) _ s
    split
    · exact .refl t
    · exact (t.logNoSlot_keepsHeader _ _).trans (State.setLine_keepsHeader _ _ _)

theorem State.writeDown_keepsHeader (s : State) (key : Option (Nat × Nat)) (l : Nat) (d : BitVec 512) (p : Bool) :
    KeepsHeader s (s.writeDown key l d p) :=
  .ite (s.dmcWrite_keepsHeader _ _ _ _ _) ((s.logNoSlot_keepsHeader _ _).trans (State.dmcWrite_keepsHeader _ _ _ _ _ _))

theorem State.recallLine_keepsHeader (s : State) (l : Nat) : KeepsHeader s (s.recallLine l) := by
  unfold State.recallLine
  refine (s.pull_keepsHeader l (fun _ => true)).trans ?_
  dsimp only
  split
  · exact State.setLine_keepsHeader _ _ _
  · exact .refl _

theorem State.downgradeLine_keepsHeader (s : State) (l : Nat) : KeepsHeader s (s.downgradeLine l) := by
  unfold State.downgradeLine
  refine (s.pull_keepsHeader l (fun _ => true)).trans ?_
  dsimp only
  split
  · exact State.setLine_keepsHeader _ _ _
  · exact .refl _

theorem State.evictLine_keepsHeader (s : State) (key : Option (Nat × Nat)) (l : Nat) : KeepsHeader s (s.evictLine key l) := by
  unfold State.evictLine
  refine (s.pull_keepsHeader l (fun _ => true)).trans ?_
  dsimp only
  split
  · exact .refl _
  · exact (State.setLine_keepsHeader _ _ _).trans (.ite (State.writeDown_keepsHeader _ _ _ _ _) (.refl _))

theorem State.resteerStep_keepsHeader (s : State) (pa : Nat) : KeepsHeader s (s.resteerStep pa) := by
  unfold State.resteerStep
  split
  · exact .refl s
  · split
    · exact .refl s
    · exact .trans (.trans (.of_regs (t := s.tick) rfl) (.foldl (fun t _ => t.evictLine_keepsHeader none _) _ _)) (.of_regs rfl)

theorem State.touchL3_keepsHeader (s : State) (l : Nat) : KeepsHeader s (s.touchL3 l) := by
  unfold State.touchL3
  split
  · exact .refl s
  · dsimp only
    split
    · exact .of_regs rfl
    · exact .refl s

theorem State.spareTrigger_keepsHeader (s : State) (sl n : Nat) : KeepsHeader s (s.spareTrigger sl n) := by
  have stat (t : State) (f : Fld) (x : Nat) : KeepsHeader t (t.setF (Reg.L3S_SPARE_STAT sl) f x) :=
    t.setF_keepsHeader f x (header_le_regKey _ (by decide))
  unfold State.spareTrigger
  exact .ite (.refl s) (.trans (.of_regs rfl) (.ite ((stat _ _ _).trans (stat _ _ _)) (.refl _)))

theorem State.wayError_keepsHeader (s : State) (sl n : Nat) : KeepsHeader s (s.wayError sl n) :=
  .trans (.of_regs rfl) (.ite (State.spareTrigger_keepsHeader _ _ _) (.refl _))

/-! ### The home slice and the controllers behind it, as an agent beside the cores reaches them -/

theorem State.toSlice_keepsHeader (s : State) (r : Req) (pa : Nat) : KeepsHeader s (s.toSlice r pa).1 := by
  unfold State.toSlice
  dsimp only
  split
  · exact s.logNoSlot_keepsHeader _ _
  · split
    · exact .refl s
    · split
      · exact s.logColor_keepsHeader r pa
      · split
        · exact s.logNoSlot_keepsHeader _ _
        · exact s.resteerStep_keepsHeader pa

theorem State.toDram_keepsHeader (s : State) (r : Req) (pa : Nat) : KeepsHeader s (s.toDram r pa).1 := by
  unfold State.toDram
  dsimp only
  split
  · exact .refl s
  · exact s.logNoSlot_keepsHeader _ _

theorem State.l3Error_keepsHeader (s : State) (r : Req) (l : Nat) : KeepsHeader s (s.l3Error r l) := by
  have poisoned (t : State) (x : Option CLine) (page : Nat) : KeepsHeader t ((t.setLine l x).logErrOpen page 1 (l * 64)) :=
    (t.setLine_keepsHeader l x).trans (State.logErrOpen_keepsHeader _ _ _ _)
  unfold State.l3Error
  cases s.line l with
  | none => exact .refl s
  | some x =>
    have h := s.takeInject_keepsHeader (pageL3S (sliceOf (l * 64))) r.cid
    dsimp only
    generalize s.takeInject (pageL3S (sliceOf (l * 64))) r.cid = p at h ⊢
    obtain ⟨inj, t⟩ := p
    refine h.trans ?_
    match inj with
    | none => exact .refl t
    | some 1 =>
      dsimp only
      refine .trans (t := if Config.errTag t.free then t.tick.spareTrigger (sliceOf (l * 64)) x.way else t.tick) ?_ ?_
      · exact .ite (.trans (.of_regs (t := t.tick) rfl) (State.spareTrigger_keepsHeader _ _ _)) (.of_regs rfl)
      · refine .ite (poisoned _ _ _) ((State.logErrOpen_keepsHeader _ _ _ _).trans (.ite (State.recallLine_keepsHeader _ _) ?_))
        generalize State.logErrOpen _ (pageL3S (sliceOf (l * 64))) 0 (l * 64) = u
        have k := u.toDram_keepsHeader r (l * 64)
        generalize u.toDram r (l * 64) = p at k ⊢
        obtain ⟨v, _ | _⟩ := p
        · exact (k.trans (v.dmcRead_keepsHeader r.cid r.key l)).trans (State.setLine_keepsHeader _ _ _)
        · exact k.trans (v.setLine_keepsHeader _ _)
    | some 2 => exact poisoned _ _ _
    | some 0 => exact (State.logErrOpen_keepsHeader _ _ _ _).trans (State.wayError_keepsHeader _ _ _)
    | some (_ + 3) => exact (State.logErrOpen_keepsHeader _ _ _ _).trans (State.wayError_keepsHeader _ _ _)

theorem State.dmaRead_keepsHeader (s : State) (r : Req) (l : Nat) : KeepsHeader s (s.dmaRead r l).1 := by
  have h := s.toSlice_keepsHeader r (l * 64)
  unfold State.dmaRead
  generalize s.toSlice r (l * 64) = p at h ⊢
  obtain ⟨t, _ | e⟩ := p
  · refine h.trans ?_
    dsimp only
    cases t.line l with
    | some x =>
      exact ((t.touchL3_keepsHeader l).trans (State.l3Error_keepsHeader _ _ _)).trans (State.downgradeLine_keepsHeader _ _)
    | none =>
      have k := t.toDram_keepsHeader r (l * 64)
      dsimp only
      generalize t.toDram r (l * 64) = p at k ⊢
      obtain ⟨u, _ | e⟩ := p
      · exact k.trans (u.dmcRead_keepsHeader _ _ _)
      · exact k
  · exact h

theorem State.dmaWrite_keepsHeader (s : State) (r : Req) (l : Nat) (d : BitVec 512) (mask : BitVec 64) (poison : Bool) :
    KeepsHeader s (s.dmaWrite r l d mask poison).1 := by
  unfold State.dmaWrite
  split
  · exact .refl s
  · have h := s.toSlice_keepsHeader r (l * 64)
    generalize s.toSlice r (l * 64) = p at h ⊢
    obtain ⟨t, _ | e⟩ := p
    · refine (h.trans (t.touchL3_keepsHeader l)).trans (.trans (State.recallLine_keepsHeader _ l) ?_)
      dsimp only
      generalize (t.touchL3 l).recallLine l = v
      cases v.line l with
      | some x => exact v.setLine_keepsHeader _ _
      | none =>
        have k := v.toDram_keepsHeader r (l * 64)
        dsimp only
        generalize v.toDram r (l * 64) = p at k ⊢
        obtain ⟨u, _ | e⟩ := p
        · exact k.trans (u.dmcWrite_keepsHeader _ _ _ _ _)
        · exact k
    · exact h

theorem State.agentRead64_keepsHeader (s : State) (r : Req) (pa : Nat) : KeepsHeader s (s.agentRead64 r pa).1 := by
  have h := s.dmaRead_keepsHeader r (pa / 64)
  unfold State.agentRead64
  generalize s.dmaRead r (pa / 64) = p at h ⊢
  obtain ⟨t, _ | _⟩ := p <;> exact h

theorem State.agentWrite64_keepsHeader (s : State) (r : Req) (pa : Nat) (v : Word) : KeepsHeader s (s.agentWrite64 r pa v).1 :=
  s.dmaWrite_keepsHeader _ _ _ _ _

/-! ### Queues -/

theorem State.packedRefused_keepsHeader (s : State) (r : Req) (b o : Nat) : KeepsHeader s (s.packedRefused r b o) := s.logColor_keepsHeader _ _

theorem State.readDesc_keepsHeader (s : State) (r : Req) (c q : Nat) : KeepsHeader s (s.readDesc r c q).1 := by
  unfold State.readDesc
  dsimp only
  split
  · exact s.packedRefused_keepsHeader _ _ _
  · next pa _ =>
    have h := s.dmaRead_keepsHeader r (pa / 64)
    generalize s.dmaRead r (pa / 64) = p at h ⊢
    obtain ⟨t, _ | _⟩ := p <;> exact h

theorem State.putHT_keepsHeader (s : State) (r : Req) (d : Desc) (h t : Nat) : KeepsHeader s (s.putHT r d h t).1 := by
  unfold State.putHT State.putDesc
  generalize BitVec.ofNat 64 (h % 2 ^ 32 + t % 2 ^ 32 * 2 ^ 32) = v
  have k := s.agentWrite64_keepsHeader r (d.pa + 8 * 2) v
  generalize s.agentWrite64 r (d.pa + 8 * 2) v = p at k ⊢
  obtain ⟨u, _ | _⟩ := p <;> exact k

theorem State.queueLost_keepsHeader (s : State) (r : Req) (d : Desc) : KeepsHeader s (s.queueLost r d) := by
  have h := s.agentRead64_keepsHeader r (d.pa + 32)
  unfold State.queueLost
  generalize s.agentRead64 r (d.pa + 32) = p at h ⊢
  obtain ⟨t, _ | _⟩ := p
  · exact h
  · exact h.trans (t.agentWrite64_keepsHeader _ _ _)

theorem State.readSeq_keepsHeader (s : State) (r : Req) (c : Nat) (d : Desc) (i : Nat) : KeepsHeader s (s.readSeq r c d i).1 := by
  unfold State.readSeq
  split
  · exact s.packedRefused_keepsHeader _ _ _
  · next pa _ =>
    have h := s.agentRead64_keepsHeader r pa
    generalize s.agentRead64 r pa = p at h ⊢
    obtain ⟨t, _ | _⟩ := p <;> exact h

theorem State.writeSeq_keepsHeader (s : State) (r : Req) (c : Nat) (d : Desc) (i v : Nat) : KeepsHeader s (s.writeSeq r c d i v).1 := by
  unfold State.writeSeq
  split
  · exact s.packedRefused_keepsHeader _ _ _
  · next pa _ =>
    have h := s.agentWrite64_keepsHeader r pa (BitVec.ofNat 64 (v % 2 ^ 32))
    generalize s.agentWrite64 r pa (BitVec.ofNat 64 (v % 2 ^ 32)) = p at h ⊢
    obtain ⟨t, _ | _⟩ := p <;> exact h

theorem State.writeSlot_keepsHeader (s : State) (r : Req) (c : Nat) (d : Desc) (i : Nat) (f : QFrame) :
    KeepsHeader s (s.writeSlot r c d i f).1 := by
  unfold State.writeSlot
  refine KeepsHeader.foldl_fst (fun p j => ?_) _ (s, none)
  obtain ⟨t, _ | e⟩ := p
  · dsimp only
    split
    · exact t.packedRefused_keepsHeader _ _ _
    · next pa _ =>
      have h := t.dmaWrite_keepsHeader r (pa / 64) (f.line j) (if j = 3 then maskBytes 0 56 else fullMask) (f.p.getD j false)
      generalize t.dmaWrite r (pa / 64) (f.line j) (if j = 3 then maskBytes 0 56 else fullMask) (f.p.getD j false) = p at h ⊢
      obtain ⟨u, _ | _⟩ := p <;> exact h
  · exact .refl t

theorem State.wakeCluster_keepsHeader (s : State) (n : Nat) : KeepsHeader s (s.wakeCluster n) := by
  unfold State.wakeCluster
  exact .foldl (fun t _ => .ite (.of_regs (State.modCore_regs t _ _)) (.refl t)) _ s

theorem State.setMask_keepsHeader (s : State) (n bit : Nat) (v : Bool) : KeepsHeader s (s.setMask n bit v) := by
  unfold State.setMask
  split
  · exact .foldl (fun t k => .trans (.of_regs (State.modCluster_regs t k _)) (.ite (State.wakeCluster_keepsHeader _ k) (.refl _))) _ s
  · exact .trans (.of_regs (State.setCluster_regs s n _)) (.ite (State.wakeCluster_keepsHeader _ n) (.refl _))

theorem State.published_keepsHeader (s : State) (c q : Nat) : KeepsHeader s (s.published c q) := by
  unfold State.published
  refine .foldl (fun s n => .foldl (fun s core => .foldl (fun s slot => ?_) _ s) _ s) _ s
  have woken (f : Core → Core) : KeepsHeader s ((s.setMask n (maskBit core slot) true).modCore core f) :=
    (s.setMask_keepsHeader n (maskBit core slot) true).trans (.of_regs (State.modCore_regs _ core f))
  refine .ite ?_ (.refl s)
  dsimp only
  split
  · exact .ite ((woken _).trans (State.setF_keepsHeader _ _ _ (header_le_regKey _ (by omega)))) (woken _)
  · exact woken _

/-- A push by a block beside the clusters. -/
theorem State.pushQ_keepsHeader (s : State) (r : Req) (core c q : Nat) (d : Desc) (f : QFrame) :
    KeepsHeader s (s.pushQ r none core c q d f).1 := by
  unfold State.pushQ
  split
  · exact .refl s
  have h1 := s.putHT_keepsHeader r d d.head (d.tail + 1)
  generalize s.putHT r d d.head (d.tail + 1) = p1 at h1 ⊢
  obtain ⟨s1, _ | _⟩ := p1
  case some => exact h1
  have h2 := s1.readSeq_keepsHeader r c d d.tail
  dsimp only
  generalize s1.readSeq r c d d.tail = p2 at h2 ⊢
  obtain ⟨s2, _ | q0⟩ := p2
  case error => exact h1.trans h2
  have h3 : KeepsHeader s2 (if q0 = d.tail then s2 else ((s2.slotBroken r none core q d d.tail).writeSeq r c d d.tail d.tail).1) :=
    .ite (.refl s2) ((s2.queueLost_keepsHeader r d).trans (State.writeSeq_keepsHeader _ _ _ _ _ _))
  dsimp only
  generalize (if q0 = d.tail then s2 else ((s2.slotBroken r none core q d d.tail).writeSeq r c d d.tail d.tail).1) = s3 at h3 ⊢
  have h4 := s3.writeSlot_keepsHeader r c d d.tail f
  generalize s3.writeSlot r c d d.tail f = p4 at h4 ⊢
  obtain ⟨s4, _ | _⟩ := p4
  case some => exact ((h1.trans h2).trans h3).trans h4
  have h5 := s4.readSeq_keepsHeader r c d d.tail
  dsimp only
  generalize s4.readSeq r c d d.tail = p5 at h5 ⊢
  obtain ⟨s5, _ | q1⟩ := p5
  case error => exact (((h1.trans h2).trans h3).trans h4).trans h5
  have done := (((h1.trans h2).trans h3).trans h4).trans h5
  dsimp only
  split
  · exact done
  · have h6 := s5.writeSeq_keepsHeader r c d d.tail (d.tail + 1)
    generalize s5.writeSeq r c d d.tail (d.tail + 1) = p6 at h6 ⊢
    obtain ⟨s6, _ | _⟩ := p6
    · exact (done.trans h6).trans (s6.published_keepsHeader c q)
    · exact done.trans h6

/-! ### Events -/

theorem State.mergeEvent_keepsHeader (s : State) (vec : Nat) : KeepsHeader s (s.mergeEvent vec) :=
  s.addF_keepsHeader _ _ (header_le_regKey _ (by omega))

theorem State.countDrop_keepsHeader (s : State) (vec : Nat) : KeepsHeader s (s.countDrop vec) :=
  s.addF_keepsHeader _ _ (header_le_regKey _ (by decide))

theorem State.dropEvent_keepsHeader (s : State) (e : Ev) (cluster core : Nat) : KeepsHeader s (s.dropEvent e cluster core) :=
  (s.countDrop_keepsHeader _).trans (State.strayDrop_keepsHeader _ _ _ _ _)

theorem State.holdEvent_keepsHeader (s : State) (e : Ev) (q : Nat) : KeepsHeader s (s.holdEvent e q) :=
  .ite (s.mergeEvent_keepsHeader _) (.ite (s.countDrop_keepsHeader _)
    (.trans (.of_regs rfl) (State.setF_keepsHeader _ _ _ (header_le_regKey _ (by decide)))))

theorem State.postEvent_keepsHeader (s : State) (die c q : Nat) (e : Ev) : KeepsHeader s (s.postEvent die c q e).1 := by
  unfold State.postEvent
  split
  · exact .refl s
  have h := s.readDesc_keepsHeader (routerReq die c) c q
  dsimp only
  generalize s.readDesc (routerReq die c) c q = p at h ⊢
  obtain ⟨t, _ | d⟩ := p
  case error => exact h
  dsimp only
  split
  · exact h
  have k := t.pushQ_keepsHeader (routerReq die c) 0 c q d (eventFrame e q d t.tb)
  generalize t.pushQ (routerReq die c) none 0 c q d (eventFrame e q d t.tb) = p at k ⊢
  obtain ⟨u, x⟩ := p
  cases x <;> exact h.trans k

theorem State.deliverCore_keepsHeader (s : State) (e : Ev) : KeepsHeader s (s.deliverCore e) :=
  .ite (s.strayDrop_keepsHeader _ _ _ _) (.ite (s.mergeEvent_keepsHeader _) (s.setPend_keepsHeader _ _))

theorem State.deliverQueue_keepsHeader (s : State) (e : Ev) : KeepsHeader s (s.deliverQueue e) := by
  refine .ite (s.mergeEvent_keepsHeader _) ?_
  have h := s.postEvent_keepsHeader (e.vec / 4096 % 2) (e.attr % 64) (s.getF (irtKey e.vec) Fld.IRT_QUEUE) e
  generalize s.postEvent (e.vec / 4096 % 2) (e.attr % 64) (s.getF (irtKey e.vec) Fld.IRT_QUEUE) e = p at h ⊢
  obtain ⟨t, x⟩ := p
  cases x with
  | done => exact h
  | full => exact h.trans (t.holdEvent_keepsHeader _ _)
  | notQueue => exact h.trans (t.dropEvent_keepsHeader _ _ _)

theorem State.route_keepsHeader (s : State) (e : Ev) : KeepsHeader s (s.route e) :=
  .ite (s.dropEvent_keepsHeader _ _ _) (.ite (s.deliverQueue_keepsHeader e) (s.deliverCore_keepsHeader e))

theorem State.settleN_keepsHeader (n : Nat) (s : State) : KeepsHeader s (s.settleN n) := by
  induction n generalizing s with
  | zero => exact .refl s
  | succ n ih =>
    unfold State.settleN
    split
    · exact .refl s
    · exact ((KeepsHeader.with_io s _).trans (State.route_keepsHeader _ _)).trans (ih _)

/-- The delivery of the events that a command has raised changes no header word of page 0. -/
theorem State.settle_keepsHeader (s : State) : KeepsHeader s s.settle := by
  unfold State.settle
  exact .ite (.refl s) (s.settleN_keepsHeader 256)

end Sys2Proof.Machine
end

section
/-! Resets by request (R451 to R453, R456): the statement fails on a register map that lists one key twice. -/

namespace Sys2Proof.Machine

open Sys2Proof.Claims

/-- Boot firmware runs, and the register map lists BLK_OWNER of page 0 twice: a read finds the first entry, owner 1. -/
def ownerTwice : State :=
  { State.reset with boot := { st := .waitHandover }, regs := [(Reg.BLK_OWNER 0, 1#64), (Reg.BLK_OWNER 0, 2#64)] }

/-- Boot firmware as a requester (R447). -/
def bootWho : Who := ⟨63, true, 3, 127, 0, true⟩

theorem ownerTwice_performed : Performed ownerTwice .boot bootWho Reg.RST_REQ := ⟨rfl, by decide +kernel⟩

theorem ownerTwice_owner : (ownerTwice.rd (Reg.BLK_OWNER 0)).toNat % 256 = 1 := by decide

/-- A block reset writes each listed entry of the page in turn, so the word that stands after it is that of the second entry. -/
theorem blockReset_ownerTwice_owner :
    ((ownerTwice.cmdWrite .boot Reg.RST_REQ (rstWord 5 0 0 0)).rd (Reg.BLK_OWNER 0)).toNat % 256 = 2 := by decide +kernel

/-- Refutes O58, in its clause that a block reset keeps BLK_OWNER (R451). The clause speaks of every state, also of one whose register
map is not in its canonical form: in `ownerTwice` BLK_OWNER of page 0 reads 1, and boot firmware's reset of block 0 leaves 2. The state
that the clause names may still hold waiting events, but their delivery leaves BLK_OWNER of page 0 alone, so it reads 2 there as well. -/
theorem not_narrowResetsReachTheirTargets : ¬ Obligations.NarrowResetsReachTheirTargets := by
  unfold Obligations.NarrowResetsReachTheirTargets
  rintro ⟨-, -, -, -, blockResets, -⟩
  obtain ⟨-, ofBlock⟩ := blockResets .boot 0 ownerTwice bootWho ownerTwice_performed
  obtain ⟨-, -, granted⟩ := ofBlock .dev 0 (by decide)
  obtain ⟨t, hexec, -, howner, -⟩ := granted (.inl rfl) (by decide)
  have hsettle : ownerTwice.cmdWrite .boot Reg.RST_REQ (rstWord 5 0 0 0) = t.settle := Host.Outcome.next.inj hexec
  have hkept : t.settle.rd (Reg.BLK_OWNER 0) = t.rd (Reg.BLK_OWNER 0) := t.settle_keepsHeader _ (by decide)
  have hafter : (t.rd (Reg.BLK_OWNER 0)).toNat % 256 = 2 := by
    rw [← hkept, ← hsettle]
    exact blockReset_ownerTwice_owner
  have hbefore : (t.rd (Reg.BLK_OWNER 0)).toNat % 256 = 1 := howner.trans ownerTwice_owner
  omega

end Sys2Proof.Machine
end

section
/-! Dispatch and the search for work (R236, R247, R248): what a dispatch leaves on its core, how one candidate and how the first of
several is tried, and the commands that let a parked core search. -/

namespace Sys2Proof.Machine

open Sys2Proof.Claims

/-! ### Lists of naturals -/

theorem length_natsFrom (a n : Nat) : (natsFrom a n).length = n := by
  induction n generalizing a with
  | zero => rfl
  | succ n ih => simp [natsFrom, ih]

theorem getElem_natsFrom (a n i : Nat) (h : i < (natsFrom a n).length) : (natsFrom a n)[i] = a + i := by
  induction n generalizing a i with
  | zero => cases h
  | succ n ih =>
    cases i with
    | zero => rfl
    | succ i => simpa [natsFrom, Nat.add_assoc, Nat.add_comm 1] using ih (a + 1) i (Nat.lt_of_succ_lt_succ h)

/-! ### The context that a dispatch loads (R236) -/

@[simp] theorem Core.bank_setBank_self (k : Core) (lvl : Nat) (b : Bank) : (k.setBank lvl b).bank lvl = b := by
  unfold Core.setBank Core.bank
  split
  · rfl
  · split <;> rfl

section load

variable (k : Core) (d : Desc) (q : Nat) (f : QFrame) (stolen : Bool) (now : Nat)

/-- The slots of a bank are doubles: the low three bits of a frame's bank words are dropped. -/
theorem Core.load_bank (h : f.at 0x28 ≠ 0#64) : (k.load d q f stolen now).bank d.lvl =
    ⟨f.at 0x20 &&& 0xFFFFFFFFFFFFFFF8#64, f.at 0x28 &&& 0xFFFFFFFFFFFFFFF8#64, f.at 0x30 &&& 0xFFFFFFFFFFFFFFF8#64⟩ := by
  rw [← k.bank_setBank_self d.lvl ⟨_, _, _⟩]
  simp only [Core.load, if_neg h]
  rfl

theorem Core.load_stack_length : (k.load d q f stolen now).stack.length = min 16 ((f.at 0x18).toNat / 2 ^ 16 % 32) := by
  have hscd : fieldN (f.at 0x18) 16 5 = (f.at 0x18).toNat / 2 ^ 16 % 32 := by simp [fieldN, Nat.shiftRight_eq_div_pow]
  simp [Core.load, length_natsFrom, hscd]

theorem Core.load_qid : (k.load d q f stolen now).qid = BitVec.ofNat 18 ((f.at 0x38).toNat / 2 ^ 16 % 2 ^ 18) := by
  rw [← Nat.shiftRight_eq_div_pow]
  rfl

end load

variable (s : State) (core : Nat) (d : Desc) (q : Nat) (f : QFrame) (stolen : Bool)

/-- The core of a dispatch has loaded the frame, after the tenant fence where the queue asks for one. -/
theorem State.core_dispatch : ∃ k now, (s.dispatch core d q f stolen).core core = Core.load k d q f stolen now := by
  unfold State.dispatch
  dsimp only
  generalize (if (bitN d.ctl 8 && _) = true then _ else s) = t
  have loaded (g : Cluster → Cluster) (v : Word) :
      (((t.modCore core (fun k => k.load d q f stolen t.now)).modCluster (core / 16) g).wr (dspStat core) v).core core =
        (t.core core).load d q f stolen t.now := by simp
  refine ⟨t.core core, t.now, ?_⟩
  split
  · rw [State.addF, State.core_setF]
    exact loaded _ _
  · exact loaded _ _

/-- DSP_STEALS of a cluster lies above the DSP_STAT of its cores. -/
theorem dspStat_ne_steals : dspStat core ≠ Reg.DSP_STEALS (core / 16) := by
  simp only [dspStat, Reg.DSP_STAT, Reg.DSP_STEALS, regKey]
  omega

theorem State.rd_dspStat_dispatch : (s.dispatch core d q f stolen).rd (dspStat core) =
    BitVec.ofNat 64 (q % 2 ^ 18 + 2 ^ 18 + (if stolen then 2 ^ 20 else 0)) := by
  have hstolen : b2n stolen * 2 ^ 20 = if stolen then 2 ^ 20 else 0 := by cases stolen <;> rfl
  rw [← hstolen]
  unfold State.dispatch
  dsimp only
  split
  · exact (State.rd_setF_ne _ _ _ (dspStat_ne_steals core)).trans (State.rd_wr_self _ _ _)
  · exact State.rd_wr_self _ _ _

theorem State.dispatch_runs (c : CoreId) : Runs (s.dispatch c.val d q f stolen) c q d f stolen := by
  obtain ⟨k, now, hcore⟩ := s.core_dispatch c.val d q f stolen
  unfold Runs
  rw [hcore]
  exact ⟨rfl, rfl, rfl, rfl, rfl, k.load_qid d q f stolen now, rfl, rfl, rfl, k.load_stack_length d q f stolen now, rfl,
    k.load_bank d q f stolen now, s.rd_dspStat_dispatch c.val d q f stolen⟩

/-! ### Candidates (R247) -/

variable {s core d q f stolen}

/-- A candidate whose descriptor stands, which the core may take and whose head frame carries no poison gives the core its task. -/
theorem State.tryQueue_task {u w : State} {idx : Nat} (hrange : s.inRange (s.cid (core / 16)) q = true)
    (hdesc : s.readDesc (s.seqReq core none) (s.cid (core / 16)) q = (u, .ok d)) (hvalid : d.valid = true)
    (hcid : d.cid = s.cid (core / 16)) (hkind : d.kindDma = false) (hhome : d.ctl.getLsbD 6 = false ∨ s.isHome core q = true)
    (hclaim : u.claimFor core q d = (w, .frame idx f)) (hclean : ∀ p ∈ f.p, p = false) :
    s.tryQueue core q = (w.repostAll.dispatch core d q f (!s.isHome core q), .task) := by
  have hmay : ¬(d.valid = false ∨ d.cid ≠ s.cid (core / 16) ∨ d.kindDma = true ∨ (bitN d.ctl 6 = true ∧ (!s.isHome core q) = true)) := by
    rintro (h | h | h | ⟨hhomeOnly, hforeign⟩)
    · simp [hvalid] at h
    · exact h hcid
    · simp [hkind] at h
    · rcases hhome with hopen | hhome
      · exact Bool.noConfusion (hopen.symm.trans hhomeOnly)
      · simp [hhome] at hforeign
  have hpoison : f.p.any id = false := List.any_eq_false.mpr fun p hp => by simp [hclean p hp]
  unfold State.tryQueue
  simp only [hrange, hdesc, if_neg hmay, hclaim, hpoison, Bool.true_eq_false, Bool.false_eq_true, if_false]

/-- The home queues are a core's first candidates, slot 0 before slot 1. -/
theorem State.candidates_home (s : State) (core : Nat) :
    ∃ l, s.candidates core = (s.homeQ core 0).toList ++ (s.homeQ core 1).toList ++ l := by
  have hown : (natsFrom 0 2).filterMap (s.homeQ core) = (s.homeQ core 0).toList ++ (s.homeQ core 1).toList := by
    cases h0 : s.homeQ core 0 <;> cases h1 : s.homeQ core 1 <;> simp [natsFrom, h0, h1]
  unfold State.candidates
  dsimp only
  rw [hown, List.append_assoc]
  exact ⟨_, rfl⟩

/-! ### The search -/

theorem State.seekWork_of_not_maySeek (h : s.maySeek core = false) : s.seekWork core = s := by
  unfold State.seekWork
  rw [if_pos h]

theorem State.seekWork_no_candidate (h : s.maySeek core = true)
    (hnone : (s.unlatch (Reg.DSP_HOME (core / 16) (core % 16))).candidates core = []) :
    s.seekWork core = (s.unlatch (Reg.DSP_HOME (core / 16) (core % 16))).modCore core (fun k => { k with woken := false }) := by
  unfold State.seekWork
  simp [h, hnone, State.tryQueues]

theorem State.seekWork_first_task {t : State} {qs : List Nat} (h : s.maySeek core = true)
    (hcand : (s.unlatch (Reg.DSP_HOME (core / 16) (core % 16))).candidates core = q :: qs)
    (htask : (s.unlatch (Reg.DSP_HOME (core / 16) (core % 16))).tryQueue core q = (t, .task)) : s.seekWork core = t := by
  unfold State.seekWork
  simp [h, hcand, State.tryQueues, htask]

/-- A command that makes the cores of kind `p` seek work is a search. -/
theorem searches_of_seekWork {i : CoreId → Instr} {p : Core → Prop}
    (hexec : ∀ (c : CoreId) (s : State), p (s.core c.val) → exec (i c) s = .next (s.seekWork c.val).settle) : Searches i p := by
  rintro c s b hp rfl
  rw [hexec c s hp]
  refine ⟨fun hmay => ?_, fun hmay hnone => ?_, ?_⟩
  · rw [State.seekWork_of_not_maySeek hmay]
  · rw [State.seekWork_no_candidate hmay hnone]
  · intro q qs u d w idx f hmay hcand hrange hdesc hvalid hcid hkind hhome hclaim hclean
    have htask := State.tryQueue_task hrange hdesc hvalid hcid hkind hhome hclaim hclean
    exact ⟨_, by rw [State.seekWork_first_task hmay hcand htask], State.dispatch_runs _ _ _ _ _ _⟩

theorem taskDispatch_searches : Searches .taskDispatch (fun _ => True) := searches_of_seekWork fun _ _ _ => rfl

theorem parkWake_searches : Searches .parkWake (fun k => k.woken = true) := searches_of_seekWork fun _ _ hwoken => if_pos hwoken

theorem parkWake_not_woken (c : CoreId) (s : State) (h : (s.core c.val).woken = false) : exec (.parkWake c) s = .next s :=
  if_neg (by simp [h])

end Sys2Proof.Machine
end

section
/-! The broadcast of a work mask (R253): each working cluster keeps the mask it receives, and a bit that rises wakes its parked cores. -/

namespace Sys2Proof.Machine

/-! ### Waking a cluster -/

/-- A core of the list that is parked is woken, and every other core stands as it stood. -/
theorem State.core_wake_foldl (l : List Nat) (s : State) (c : Nat) :
    (l.foldl (fun s c => if (s.core c).run = .parked then s.modCore c (fun k => { k with woken := true }) else s) s).core c =
      if c ∈ l ∧ (s.core c).run = .parked then { s.core c with woken := true } else s.core c := by
  induction l generalizing s with
  | nil => simp
  | cons a l ih =>
    rw [List.foldl_cons, ih]
    by_cases hca : c = a
    · subst hca
      by_cases hrun : (s.core c).run = .parked <;> simp [hrun]
    · have hkept : (if (s.core a).run = .parked then s.modCore a (fun k => { k with woken := true }) else s).core c = s.core c := by
        split
        · exact s.core_modCore_ne _ hca
        · rfl
      simp [hkept, hca]

theorem State.core_wakeCluster (s : State) (n c : Nat) : (s.wakeCluster n).core c =
    if c ∈ clusterCores n ∧ (s.core c).run = .parked then { s.core c with woken := true } else s.core c :=
  State.core_wake_foldl (clusterCores n) s c

@[simp] theorem State.cluster_wakeCluster (s : State) (n m : Nat) : (s.wakeCluster n).cluster m = s.cluster m := by
  unfold State.wakeCluster
  refine foldl_keeps (fun t : State => t.cluster m = s.cluster m) _ (fun t c ht => ?_) _ s rfl
  split
  · exact ht
  · exact ht

theorem State.wakeCluster_run (s : State) (n c : Nat) : ((s.wakeCluster n).core c).run = (s.core c).run := by
  rw [State.core_wakeCluster]
  split <;> rfl

theorem State.wakeCluster_woken_of_woken {s : State} (n : Nat) {c : Nat} (h : (s.core c).woken = true) :
    ((s.wakeCluster n).core c).woken = true := by
  rw [State.core_wakeCluster]
  split
  · rfl
  · exact h

theorem State.wakeCluster_woken {s : State} {n c : Nat} (hc : c ∈ clusterCores n) (hrun : (s.core c).run = .parked) :
    ((s.wakeCluster n).core c).woken = true := by
  rw [State.core_wakeCluster, if_pos ⟨hc, hrun⟩]

/-! ### One cluster receives a mask -/

/-- Cluster `k` keeps the mask `m` of cluster `n`. -/
def State.keepMask (s : State) (n k : Nat) (m : BitVec 32) : State :=
  s.modCluster k (fun x => { x with peer := smPut (fun _ => 0#32) x.peer n m })

/-- Cluster `k` receives the mask `m` that cluster `n` sends (R253). -/
def State.receiveMask (n : Nat) (m : BitVec 32) (s : State) (k : Nat) : State :=
  if k = n then s else
  if m &&& ~~~(s.peerMask k n) ≠ 0#32 then (s.keepMask n k m).wakeCluster k else s.keepMask n k m

theorem exec_workMaskBroadcast (n : ClusterId) (s : State) (h : s.isF (Reg.CMT_CLUSTER n.val) Fld.CMT_CLUSTER_FAILED = false) :
    exec (.workMaskBroadcast n) s =
      .next ((s.workingClusters (s.cid n.val)).foldl (State.receiveMask n.val (s.cluster n.val).mask) s) :=
  if_neg (by simp [h])

variable {n : Nat} {m : BitVec 32} {s : State} {k j c : Nat}

theorem State.peerMask_receiveMask_self (h : k ≠ n) : (s.receiveMask n m k).peerMask k n = m := by
  have hkept : (s.keepMask n k m).peerMask k n = m := by simp [State.keepMask, State.peerMask]
  unfold State.receiveMask
  rw [if_neg h]
  split
  · simpa [State.peerMask] using hkept
  · exact hkept

theorem State.peerMask_receiveMask_ne (h : j ≠ k) : (s.receiveMask n m k).peerMask j n = s.peerMask j n := by
  have hkept : (s.keepMask n k m).cluster j = s.cluster j := s.cluster_modCluster_ne _ h
  unfold State.receiveMask State.peerMask
  split
  · rfl
  · split <;> simp [hkept]

theorem State.receiveMask_run : ((s.receiveMask n m k).core c).run = (s.core c).run := by
  unfold State.receiveMask
  split
  · rfl
  · split
    · exact State.wakeCluster_run _ _ _
    · rfl

theorem State.receiveMask_woken_of_woken (h : (s.core c).woken = true) : ((s.receiveMask n m k).core c).woken = true := by
  unfold State.receiveMask
  split
  · exact h
  · split
    · exact State.wakeCluster_woken_of_woken k h
    · exact h

theorem State.receiveMask_woken (h : k ≠ n) (hrise : m &&& ~~~(s.peerMask k n) ≠ 0#32) (hc : c ∈ clusterCores k)
    (hrun : (s.core c).run = .parked) : ((s.receiveMask n m k).core c).woken = true := by
  unfold State.receiveMask
  rw [if_neg h, if_pos hrise]
  exact State.wakeCluster_woken hc hrun

/-! ### All of them -/

theorem State.peerMask_foldl_receiveMask {l : List Nat} (s : State) (hj : j ∈ l) (hn : j ≠ n) :
    (l.foldl (State.receiveMask n m) s).peerMask j n = m := by
  induction l generalizing s with
  | nil => cases hj
  | cons k l ih =>
    rw [List.foldl_cons]
    by_cases hjl : j ∈ l
    · exact ih _ hjl
    · obtain rfl : j = k := (List.mem_cons.mp hj).resolve_right hjl
      refine foldl_keeps (fun t : State => t.peerMask j n = m) _ (fun t i ht => ?_) l _ (State.peerMask_receiveMask_self hn)
      by_cases hi : j = i
      · subst hi
        exact State.peerMask_receiveMask_self hn
      · exact (State.peerMask_receiveMask_ne hi).trans ht

theorem State.foldl_receiveMask_woken {l : List Nat} (s : State) (hj : j ∈ l) (hn : j ≠ n) (hrise : m &&& ~~~(s.peerMask j n) ≠ 0#32)
    (hc : c ∈ clusterCores j) (hrun : (s.core c).run = .parked) : ((l.foldl (State.receiveMask n m) s).core c).woken = true := by
  induction l generalizing s with
  | nil => cases hj
  | cons k l ih =>
    rw [List.foldl_cons]
    by_cases hjk : j = k
    · subst hjk
      exact foldl_keeps (fun t : State => (t.core c).woken = true) _ (fun _ _ => State.receiveMask_woken_of_woken) l _
        (State.receiveMask_woken hn hrise hc hrun)
    · refine ih _ ((List.mem_cons.mp hj).resolve_left hjk) ?_ (State.receiveMask_run.trans hrun)
      rwa [State.peerMask_receiveMask_ne hjk]

theorem dispatchLoadsTheFramesContext : Sys2Proof.Claims.DispatchLoadsTheFramesContext := by
  refine ⟨taskDispatch_searches, parkWake_searches, parkWake_not_woken, State.candidates_home, fun n s hworks => ?_⟩
  refine ⟨_, exec_workMaskBroadcast n s hworks, fun m hm hne => ⟨State.peerMask_foldl_receiveMask s hm hne, fun hrise c hc hrun => ?_⟩⟩
  exact State.foldl_receiveMask_woken s hm hne hrise hc hrun

end Sys2Proof.Machine
end

section
/-! Preemption, the frame of a save, the end of a task, broken slots and pushes without an answer (R235, R237, R239, R245, R250). -/

namespace Sys2Proof.Machine

/-! ### Preemption (R246, R250) -/

theorem State.preempt_saved {s w : State} {core : Nat} {t : Task} (hrun : (s.core core).run = .running)
    (hsave : s.saveTask core t false true = (w, true)) : s.preempt core t = (w.endTask core, true) := by
  simp [State.preempt, hrun, hsave]

theorem State.preempt_failed {s w : State} {core : Nat} {t : Task} (hrun : (s.core core).run = .running)
    (hsave : s.saveTask core t false true = (w, false)) : s.preempt core t = (w, false) := by
  simp [State.preempt, hrun, hsave]

theorem exec_preemption_due {c : CoreId} {s : State} {t : Task} (hat : s.atTaskBoundary c.val = some t)
    (hdue : s.preemptDue c.val = true) : exec (.preemption c) s = .next ((s.preempt c.val t).1.seekWork c.val).settle := by
  show execPreemption c s = _
  simp [execPreemption, hat, hdue]

theorem exec_preemption_none {c : CoreId} {s : State} (h : s.atTaskBoundary c.val = none ∨ s.preemptDue c.val = false) :
    exec (.preemption c) s = .next s := by
  show execPreemption c s = _
  unfold execPreemption
  rcases h with h | h
  · rw [h]
  · cases s.atTaskBoundary c.val <;> simp [h]

/-! ### The frame of a save (R235, R237) -/

/-- The doubles of a frame from 0x40 on hold the cached entries, bottom first. -/
theorem State.taskFrame_entry (s : State) (core : Nat) (t : Task) (preempted : Bool) (i : Nat) (h : i < 16) :
    (s.taskFrame core t false preempted).at (0x40 + 8 * i) = (s.core core).stack.reverse.getD i 0#64 := by
  have hidx : (0x40 + 8 * i) / 8 = i + 8 := by omega
  unfold QFrame.at State.taskFrame
  rw [hidx]
  simp [List.getElem?_append, length_natsFrom, getElem_natsFrom, h]

/-- Bit 36 of the tag word says whether a preemption has made the save. -/
theorem State.taskFrame_preempted (s : State) (core : Nat) (t : Task) (above preempted : Bool) :
    ((s.taskFrame core t above preempted).at 0x38).getLsbD 36 = preempted := by
  have htag := fieldN_lt (s.core core).sync.ttag 0 16
  have hqid := (s.core core).qid.isLt
  show (BitVec.ofNat 64 (fieldN (s.core core).sync.ttag 0 16 + (s.core core).qid.toNat * 2 ^ 16 + b2n preempted * 2 ^ 36 +
    b2n t.stolen * 2 ^ 37)).getLsbD 36 = preempted
  rw [BitVec.getLsbD_ofNat, Nat.testBit_eq_decide_div_mod_eq]
  generalize fieldN (s.core core).sync.ttag 0 16 = tag at htag ⊢
  generalize (s.core core).qid.toNat = q at hqid ⊢
  generalize b2n t.stolen = stolen
  have hbit : (tag + q * 2 ^ 16 + b2n preempted * 2 ^ 36 + stolen * 2 ^ 37) / 2 ^ 36 % 2 = b2n preempted % 2 := by omega
  rw [hbit]
  cases preempted <;> rfl

/-! ### The end of a task (R248) -/

theorem State.core_park_self (s : State) (core : Nat) : (s.park core).core core =
    { s.core core with run := .parked, stack := [], entry := none, woken := false, idle := false } := by
  unfold State.park
  exact (State.core_wr _ _ _ _).trans (State.core_modCore_self _ _ _)

theorem State.endTask_core (s : State) (core : Nat) : ((s.endTask core).core core).task = none ∧
    ((s.endTask core).core core).run = .parked ∧ ((s.endTask core).core core).stack = [] := by
  simp [State.endTask, State.core_park_self]

/-! ### Broken slots (R245) -/

/-- What SEQ of a slot reads when its agent has given it back: a claimer's for the next pass of the ring, a pusher's for this one. -/
def seqBack (d : Desc) (i : Nat) (claimer : Bool) : Nat := if claimer then i + d.depth else i

section slotBreak

variable {c : CoreId} {q : BitVec 18} {idx : BitVec 32} {claimer : Bool} {s u w : State} {d : Desc} {v : Nat}
  (hrange : s.inRange (s.cid (c.val / 16)) q.toNat = true)
  (hdesc : s.readDesc (s.seqReq c.val none) (s.cid (c.val / 16)) q.toNat = (u, .ok d)) (hvalid : d.valid = true)
  (hcid : d.cid = s.cid (c.val / 16))
  (hin : ((if claimer then d.head else d.tail) + 2 * 2 ^ 32 - idx.toNat - 1) % 2 ^ 32 < d.depth)
  (hseq : u.readSeq (s.seqReq c.val none) (s.cid (c.val / 16)) d idx.toNat = (w, .ok v))

include hrange hdesc hvalid hcid hin hseq

/-- A slot of the ring is broken unless its SEQ reads as published or as given back. -/
theorem exec_slotBreak : exec (.slotBreak c q idx claimer) s =
    if v = (idx.toNat + 1) % 2 ^ 32 ∨ v = seqBack d idx.toNat claimer % 2 ^ 32 then .next w
    else .next ((w.slotBroken (s.seqReq c.val none) (some (c.val / 16)) c.val q.toNat d idx.toNat).writeSeq (s.seqReq c.val none)
      (s.cid (c.val / 16)) d idx.toNat (seqBack d idx.toNat claimer)).1.settle := by
  have hhere : ¬(d.valid = false ∨ d.cid ≠ s.cid (c.val / 16) ∨
      d.depth ≤ ((if claimer then d.head else d.tail) + 2 * 2 ^ 32 - idx.toNat - 1) % 2 ^ 32) := by
    simpa [hvalid, hcid] using hin
  show execSlotBreak c q idx claimer s = _
  unfold execSlotBreak
  simp only [hrange, Bool.true_eq_false, if_false, hdesc, if_neg hhere, hseq]
  cases claimer with
  | true => simp [seqBack]
  | false => simp [seqBack, Nat.mod_eq_of_lt idx.isLt, or_comm, -Nat.reducePow]

end slotBreak

/-! ### A remote push without an answer (R239) -/

theorem exec_remotePushTimeout_waits {c : CoreId} {s : State} (hrun : (s.core c.val).run = .pushing)
    (hremote : (s.core c.val).remote ≠ none) : exec (.remotePushTimeout c) s =
      .next (s.modCore c.val (fun k => { k with run := .running, remote := none, stack := 3#64 :: k.stack })) :=
  if_pos ⟨hrun, Option.isSome_iff_ne_none.mpr hremote⟩

theorem exec_remotePushTimeout_not_pushing {c : CoreId} {s : State} (hrun : (s.core c.val).run ≠ .pushing) :
    exec (.remotePushTimeout c) s = .next s :=
  if_neg fun h => hrun h.1

theorem preemptionSavesTheTask : Sys2Proof.Claims.PreemptionSavesTheTask := by
  refine ⟨?preempted, fun c s => exec_preemption_none, ?frame, State.endTask_core, ?slot,
    fun c s => exec_remotePushTimeout_waits, fun c s => exec_remotePushTimeout_not_pushing⟩
  case preempted =>
    intro c s w x hat hdue hrun
    rw [exec_preemption_due hat hdue]
    exact ⟨fun hsaved => by rw [State.preempt_saved hrun hsaved], fun hfailed => by rw [State.preempt_failed hrun hfailed]⟩
  case frame =>
    intro s core x preempted
    exact ⟨rfl, rfl, rfl, rfl, rfl, rfl, rfl, s.taskFrame_preempted core x false preempted, s.taskFrame_entry core x preempted⟩
  case slot =>
    intro c q idx claimer s u w d v hrange hdesc hvalid hcid hin hseq
    rw [exec_slotBreak hrange hdesc hvalid hcid hin hseq]
    exact ⟨fun hready hback => if_neg (not_or.mpr ⟨hready, hback⟩), fun hfine => if_pos hfine⟩

/-- Settles O25: it holds. The first candidate that yields a clean frame ends the search with its dispatch, the broadcast is followed
cluster by cluster, and a due preemption is a save with the two outcomes that R246 and R250 name. -/
theorem tasksAreDispatchedAndPreempted : Obligations.TasksAreDispatchedAndPreempted := by
  unfold Obligations.TasksAreDispatchedAndPreempted
  exact ⟨dispatchLoadsTheFramesContext, preemptionSavesTheTask⟩

end Sys2Proof.Machine
end
